-- ==== Sys2Proof/Word.lean ====
section
/-! DEFINITION. The word types of the NC416 and their plainest arithmetic.
Only what the manual treats as bits is a bit vector: bytes and words on the line and in the store, station numbers
in the contention byte, and the 32-bit millisecond stamps, whose differences are taken modulo 2^32. Counts,
positions, volumes and the like are `Nat` or `Int`. -/

namespace Sys2Proof

/-- A byte of a telegram (R172). -/
abbrev Byte := BitVec 8

/-- A word of the store's array (section 9.1). -/
abbrev Word := BitVec 16

/-- A reading of the millisecond time base (00_scope.md, "Time"). -/
abbrev Stamp := BitVec 32

/-- A station number, 0 to 31 (00_scope.md, "Stations of a typical line"). -/
abbrev Station := BitVec 5

/-- The difference of two stamps in milliseconds, modulo 2^32 (R18). -/
def Stamp.since (now past : Stamp) : Nat := (now - past).toNat

end Sys2Proof
end

