-- ==== Sys2Proof/Syntax.lean ====
section
/-! DEFINITION. The commands of the NC416: one constructor of `Instr` per row of spec/opcode_table.json, in the
table's order, with the operands the row's event carries. Meaning is in the machine alone.
Every command carries `t`, the reading of the part's millisecond time base at the moment of the event: the manual
tells behaviour "for one event at a time" and dates events by that base (00_scope.md, "Time" and "Events"). -/

namespace Sys2Proof

/-- The level of a strap pin (section 11.1): tied to 0, to ground through 20 kΩ, floating, tied to 1. -/
inductive StrapLevel where
  | zero | pulledDown | floating | one
deriving DecidableEq, Repr

/-- The levels of the three strap pins as read at step 1 of a start-up sequence (R188). -/
structure Straps where
  station : StrapLevel
  role    : StrapLevel
  units   : StrapLevel
deriving DecidableEq, Repr

/-- The levels of the hard-wired inputs; `true` is active (00_scope.md, the hard-wired connections). -/
structure Pins where
  keyAcc    : Bool
  keyRun    : Bool
  svcEn     : Bool
  supplyLow : Bool
deriving DecidableEq, Repr

/-- A slot number, 0 to 18 (R6). -/
abbrev SlotId := Fin 19

/-- A warning table entry number (R83). -/
abbrev EntryId := Fin 16

/-- The four outcomes of a transmit attempt (R178). -/
inductive Attempt where
  | lostContention | collision | unheard | success
deriving DecidableEq, Repr

/-- One byte of a reception as the receiver sees it (R172, R173): its eight bits, whether its stop bit read recessive,
and the time in microseconds from the end of the byte before to its start bit. -/
structure RxByte where
  value     : Byte
  stopIsOne : Bool
  delay     : Nat
deriving DecidableEq, Repr

/-- What an accepted PUBLISH telegram hands on (R3); its arrival stamp is the command's `t`. The hold and repeat flags
"play no part" and are carried by no operand. -/
structure Publish where
  origin : Station
  group  : Byte
  data   : List Byte
deriving DecidableEq, Repr

/-- An accepted ASK or COMMAND addressed to the part (R175): its data byte 0 is the part's own station number. `args` are
the data bytes from data byte 1 on, the first being the index or argument. -/
structure Request where
  asker : Station
  hold  : Bool
  again : Bool
  args  : List Byte
deriving DecidableEq, Repr

/-- The two telegram kinds that are addressed (section 10.2). -/
inductive RequestKind where
  | ask | command
deriving DecidableEq, Repr

/-- The commands, row by row of the table. -/
inductive Instr where
  /-- POWER_ON (R193). -/
  | powerOn (t : Stamp) (straps : Straps) (pins : Pins)
  /-- STARTUP_KEY_TAKEN (R193, step 5). -/
  | startupKeyTaken (t : Stamp)
  /-- KEY_LINE_CHANGE (R189): the levels of KEY_ACC and KEY_RUN after the change. -/
  | keyLineChange (t : Stamp) (acc run : Bool)
  /-- KEY_STATE_CHANGE (R189). -/
  | keyStateChange (t : Stamp)
  /-- SVC_EN_LINE_CHANGE (R189): the level of SVC_EN after the change. -/
  | svcEnLineChange (t : Stamp) (level : Bool)
  /-- SVC_EN_CHANGE_TAKEN (R189). -/
  | svcEnChangeTaken (t : Stamp)
  /-- SUPPLY_LOW_ACTIVE (R163). -/
  | supplyLowActive (t : Stamp)
  /-- SUPPLY_LOW_INACTIVE (R192). -/
  | supplyLowInactive (t : Stamp)
  /-- WAKE (R191): a dominant level on LINE, in AWAKE the start bit of another station's telegram (R172). -/
  | wake (t : Stamp)
  /-- ENTER_ASLEEP (R190). -/
  | enterAsleep (t : Stamp)
  /-- QUIET_TIMER_EXPIRY (R190). -/
  | quietTimerExpiry (t : Stamp)
  /-- TELEGRAM_DISCARDED (R173): the bytes of the reception that failed. -/
  | telegramDiscarded (t : Stamp) (reception : List RxByte)
  /-- LINE_STUCK (R180). -/
  | lineStuck (t : Stamp)
  /-- INTERFRAME_GAP_ELAPSED (R172). -/
  | interframeGapElapsed (t : Stamp)
  /-- TRANSMIT_OUTCOME (R178): how the attempt in flight ended. -/
  | transmitOutcome (t : Stamp) (outcome : Attempt)
  /-- PUBLISH_RECEIVED (R3). -/
  | publishReceived (t : Stamp) (telegram : Publish)
  /-- OTHER_TELEGRAM_ACCEPTED (R175): the origin, and whether the kind is REPLY. -/
  | otherTelegramAccepted (t : Stamp) (origin : Station) (isReply : Bool)
  /-- ASK_STATUS (R181). -/
  | askStatus (t : Stamp) (r : Request)
  /-- ASK_TRIP_A (R81). -/
  | askTripA (t : Stamp) (r : Request)
  /-- ASK_TRIP_B_RANGE (R81). -/
  | askTripBRange (t : Stamp) (r : Request)
  /-- ASK_IDENTITY (R182). -/
  | askIdentity (t : Stamp) (r : Request)
  /-- ASK_SERVICE_RECORD (R140). -/
  | askServiceRecord (t : Stamp) (r : Request)
  /-- ASK_CONFIG_WORD (R168). -/
  | askConfigWord (t : Stamp) (r : Request)
  /-- ASK_GAUGE_STATE (R64). -/
  | askGaugeState (t : Stamp) (r : Request)
  /-- HOLD_RELEASE (R144). -/
  | holdRelease (t : Stamp) (r : Request)
  /-- WRITE_ENABLE (R146). -/
  | writeEnable (t : Stamp) (r : Request)
  /-- SERVICE_RESET (R147). -/
  | serviceReset (t : Stamp) (r : Request)
  /-- ERASE_CONFIG_BLOCK (R166). -/
  | eraseConfigBlock (t : Stamp) (r : Request)
  /-- WRITE_CONFIG_WORD (R165). -/
  | writeConfigWord (t : Stamp) (r : Request)
  /-- FAULT_CLEAR (R100). -/
  | faultClear (t : Stamp) (r : Request)
  /-- GAUGE_TEST (R63). -/
  | gaugeTest (t : Stamp) (r : Request)
  /-- RESTART (R195). -/
  | restart (t : Stamp) (r : Request)
  /-- UNKNOWN_ASK_OR_COMMAND (R182): the kind and group of the telegram, a pair the part does not take. -/
  | unknownAskOrCommand (t : Stamp) (kind : RequestKind) (group : Byte) (r : Request)
  /-- RESTART_WAIT_END (R196): the strap levels that the new start-up sequence reads. -/
  | restartWaitEnd (t : Stamp) (straps : Straps)
  /-- SLOT_LATE_EXPIRY (R12). -/
  | slotLateExpiry (t : Stamp) (slot : SlotId)
  /-- SLOT_LOST_EXPIRY (R13). -/
  | slotLostExpiry (t : Stamp) (slot : SlotId)
  /-- FUEL_TIMER_EXPIRY (R35). -/
  | fuelTimerExpiry (t : Stamp)
  /-- GAUGE_UPDATE_EXPIRY (R49). -/
  | gaugeUpdateExpiry (t : Stamp)
  /-- TRIP_TIMER_EXPIRY (R68). -/
  | tripTimerExpiry (t : Stamp)
  /-- JOURNEY_WINDOW_EXPIRY (R75). -/
  | journeyWindowExpiry (t : Stamp)
  /-- DEBOUNCE_EXPIRY (R89). -/
  | debounceExpiry (t : Stamp) (entry : EntryId)
  /-- REMIND_EXPIRY (R93). -/
  | remindExpiry (t : Stamp) (entry : EntryId)
  /-- BULB_CHECK_EXPIRY (R97). -/
  | bulbCheckExpiry (t : Stamp)
  /-- STRIKE_START (R102). -/
  | strikeStart (t : Stamp)
  /-- PREEMPT_EXPIRY (R110). -/
  | preemptExpiry (t : Stamp)
  /-- PREEMPT_CUT (R110). -/
  | preemptCut (t : Stamp)
  /-- PHRASE_COMPLETION (R111). -/
  | phraseCompletion (t : Stamp)
  /-- GAP_EXPIRY (R113). -/
  | gapExpiry (t : Stamp)
  /-- MINIMUM_EXPIRY (R123). -/
  | minimumExpiry (t : Stamp)
  /-- ROTATION_EXPIRY (R124). -/
  | rotationExpiry (t : Stamp)
  /-- DURATION_EXPIRY (R125): the message id of the TIMED entry. -/
  | durationExpiry (t : Stamp) (id : Nat)
  /-- REFRESH_TIMER_EXPIRY (R128). -/
  | refreshTimerExpiry (t : Stamp)
  /-- SERVICE_TIMER_EXPIRY (R136). -/
  | serviceTimerExpiry (t : Stamp)
  /-- HOLD_TIMER_EXPIRY (R143). -/
  | holdTimerExpiry (t : Stamp)
  /-- STATUS_TIMER_EXPIRY (R181). -/
  | statusTimerExpiry (t : Stamp)
  /-- SPACING_TIMER_EXPIRY (R186): the registration's asker, group and index. -/
  | spacingTimerExpiry (t : Stamp) (asker : Station) (group index : Byte)
  /-- WORD_PROGRAM_COMPLETION (R150): the bits that the word's worn cells kept at one although the program was to clear
  them; 0 for a sound word. -/
  | wordProgramCompletion (t : Stamp) (stuck : Word)
  /-- ERASE_ATTEMPT_END (R151): the words of the block that this attempt did not bring to FFFFH, by their number within
  the block; empty for a sound block. -/
  | eraseAttemptEnd (t : Stamp) (residue : List (Fin 64 × Word))
  /-- READ_COMPLETION (R168). -/
  | readCompletion (t : Stamp)
  /-- READ_TIMEOUT (R168): the asker and address of the read whose second has run out. -/
  | readTimeout (t : Stamp) (asker : Station) (address : Byte)
  /-- STRIKE_END (R102). -/
  | strikeEnd (t : Stamp)
deriving DecidableEq, Repr

end Sys2Proof
end

