-- ==== Sys2Proof/Config.lean ====
section
/-! DEFINITION. What the manual leaves open, as constants without a body, and the sizes the part fixes.
An `opaque` constant is a free value: nothing in Lean can evaluate it, so no claim can rest on what it is.
Each is named by an entry of notes/assumptions. -/

namespace Sys2Proof.Config

/-- The n-th word found where the manual says that words are "in no defined state" (R151): a block whose erase was cut
off by a loss of supply or dropped with its ring. Free value; the state's counter `freeIndex` supplies n. Log entry 6. -/
opaque freeWord : Nat → Word

/-- The bits that a word program cut off by a loss of supply had already turned to zero. Free value; log entry 7. -/
opaque freeBits : Nat → Word

/-- What the seven value positions of the line show for an outside temperature too wide for them (R129 gives the field
seven positions, R6 stores any value a three-byte subscription delivers). Free value; log entry 8. -/
opaque overlongTemperature : Int → List Char

/-- The revision code read out by 50H IDENTITY (R182). -/
def revision : Byte := 0x01

/-- What a word of the array reads as when nothing has programmed it since its block was erased (R150). -/
def erasedWord : Word := 0xFFFF

/-- The odometer limit in tenths (R26). -/
def odometerLimit : Nat := 9999999

/-- The number of words of the store's array (section 9.1). -/
def arrayWords : Nat := 1024

end Sys2Proof.Config
end

