-- ==== Sys2Proof/Machine/Image.lean ====
section
/-! DEFINITION. The configuration image as the blocks hold it after a start: the subscription table, the gauge
calibrations, the warning table and the parameters, each item already checked (R194). Every type here is plain data. -/

namespace Sys2Proof.Machine

/-- The role read from the ROLE strap (R188). -/
inductive Role where
  | primary | mirror
deriving DecidableEq, Repr

/-- The unit system read from the UNITS strap (R188). -/
inductive Units where
  | metric | us | imperial
deriving DecidableEq, Repr

/-- One entry of the subscription table (R1): period in milliseconds, k the loss multiple. -/
structure Subscription where
  enabled : Bool
  origin  : Station
  group   : Byte
  offset  : Nat
  width   : Nat
  slot    : SlotId
  period  : Nat
  k       : Nat
deriving DecidableEq, Repr

/-- One breakpoint of a gauge calibration (R45). -/
structure Breakpoint where
  input : Int
  steps : Nat
deriving DecidableEq, Repr

/-- The calibration of one pointer channel (R45). -/
structure Calibration where
  enabled    : Bool
  fs         : Nat
  points     : Vector Breakpoint 4
  damping    : Nat
  slew       : Nat
  returnSlew : Nat
  holds      : Bool
deriving DecidableEq, Repr

/-- What a warning test reads (R85): a slot, or one of the internal sources 32 to 36. -/
inductive Source where
  | slot (i : SlotId)
  | speed | fuelVolume | range | serviceState | faultAny
deriving DecidableEq, Repr

/-- The kinds of test (R83, R86). -/
inductive TestKind where
  | above | below | bitSet | bitClear
deriving DecidableEq, Repr

/-- A test of a warning: `arg` is the threshold, or the bit number. -/
structure Test where
  source : Source
  kind   : TestKind
  arg    : Nat
deriving DecidableEq, Repr

/-- The chime patterns (R102); a pattern NONE is an absent one. -/
inductive Pattern where
  | single | triple | slow | fast | tone
deriving DecidableEq, Repr

/-- The chime classes (R83). -/
inductive ChimeClass where
  | high | low
deriving DecidableEq, Repr

/-- The three key states (R189). -/
inductive KeyState where
  | off | acc | run
deriving DecidableEq, Repr

/-- One entry of the warning table (R83): debounce in tenths of a second, `remind` in minutes with 0 for absent,
`message` 0 for none, `repeatLimit` 0 for unlimited. -/
structure WarningDef where
  enabled     : Bool
  first       : Test
  second      : Option Test
  hysteresis  : Nat
  inOff       : Bool
  inAcc       : Bool
  inRun       : Bool
  debounce    : Nat
  lossHolds   : Bool
  pattern     : Option Pattern
  chimeClass  : ChimeClass
  ackable     : Bool
  repeatLimit : Nat
  remind      : Nat
  lamps       : BitVec 8
  message     : Nat
deriving DecidableEq, Repr

/-- The combine modes of a lamp (R96). -/
inductive LampMode where
  | any | all | notAny | notAll
deriving DecidableEq, Repr

/-- The trip a page belongs to. -/
inductive TripName where
  | a | b
deriving DecidableEq, Repr

/-- The trip pages (R70). -/
inductive Page where
  | distance (trip : TripName)
  | avgSpeed (trip : TripName)
  | avgCons (trip : TripName)
  | fuelUsed (trip : TripName)
  | time (trip : TripName)
  | range
  | outsideTemp
deriving DecidableEq, Repr

/-- One point of the tank table (R33): raw reading, volume in tenths of a litre. -/
structure TankPoint where
  raw    : Nat
  volume : Nat
deriving DecidableEq, Repr

/-- The parameters (words 166 to 204): R21, R33, R45, R70, R75, R96, R99, R103, R137, R179. Service limits and margins stand
in the units of their counters; `preempt` is in milliseconds, absent for OFF. -/
structure Params where
  p             : Nat
  q             : Nat
  vmax          : Nat
  fmax          : Nat
  refill        : Nat
  cMin          : Nat
  cMax          : Nat
  rqDefault     : Nat
  tank          : Vector TankPoint 8
  distLimit     : Nat
  distMargin    : Nat
  daysLimit     : Nat
  daysMargin    : Nat
  wearLimit     : Nat
  wearMargin    : Nat
  cold          : Int
  highRpm       : Nat
  retryLimit    : Nat
  preempt       : Option Nat
  lampModes     : Vector LampMode 8
  pages         : List Page
  tripBAuto     : Bool
  sweep         : Bool
  reportMask    : Word
deriving DecidableEq, Repr

/-- The whole image: `checkWord` is what 50H IDENTITY reads out (R182, R194). -/
structure Image where
  subs      : Vector Subscription 16
  gauges    : Vector Calibration 6
  warnings  : Vector WarningDef 16
  params    : Params
  checkWord : Word
deriving DecidableEq, Repr

end Sys2Proof.Machine
end

