-- ==== Sys2Proof/Machine/BuiltIn.lean ====
section
/-! DEFINITION. The built-in configuration of the part: R5, R21, R33, R46, R71, R84, R96, R99, R103, R137, R179. -/

namespace Sys2Proof.Machine

/-- A disabled subscription entry, the fallback value of R1. -/
def Subscription.disabled : Subscription :=
  { enabled := false, origin := 0, group := 0, offset := 0, width := 1, slot := 0, period := 20, k := 3 }

/-- An enabled subscription entry, its columns in the order of R5's tables. -/
def Subscription.feeding (origin : Station) (group : Byte) (offset width : Nat) (slot : SlotId) (period k : Nat) :
    Subscription :=
  { enabled := true, origin, group, offset, width, slot, period, k }

/-- The built-in subscription table by role (R5). -/
def builtInSubs : Role → Vector Subscription 16
  | .primary => #v[
      .feeding 2 0x10 0 2 0 100 5, .feeding 2 0x10 2 1 1 100 5, .feeding 2 0x10 3 1 2 100 5, .feeding 2 0x10 4 1 3 100 5,
      .feeding 3 0x10 0 2 4 100 5, .feeding 2 0x11 0 2 5 200 5, .feeding 5 0x21 0 1 6 1000 5, .feeding 5 0x21 1 1 7 1000 5,
      .feeding 5 0x20 0 1 8 200 5, .feeding 5 0x20 1 1 9 200 5, .feeding 5 0x20 2 1 10 200 5, .feeding 2 0x10 5 1 11 100 5,
      .feeding 6 0x30 0 2 12 500 5, .feeding 5 0x21 2 1 13 1000 5, .disabled, .disabled]
  | .mirror => #v[
      .feeding 2 0x10 0 2 0 100 5, .feeding 2 0x10 2 1 1 100 5, .feeding 2 0x10 3 1 2 100 5, .feeding 2 0x10 4 1 3 100 5,
      .feeding 12 0x41 0 3 14 1000 3, .feeding 12 0x41 3 2 15 1000 3, .feeding 5 0x21 0 1 6 1000 5,
      .feeding 5 0x21 1 1 7 1000 5, .feeding 5 0x20 0 1 8 200 5, .feeding 5 0x20 1 1 9 200 5, .feeding 5 0x20 2 1 10 200 5,
      .feeding 2 0x10 5 1 11 100 5, .feeding 6 0x30 0 2 12 500 5, .feeding 12 0x42 0 2 16 1000 3,
      .feeding 12 0x42 2 2 17 1000 3, .feeding 12 0x42 4 2 18 1000 3]

/-- The built-in calibration of the six channels (R46). -/
def builtInGauges : Vector Calibration 6 := #v[
  { enabled := true, fs := 840, points := #v[⟨0, 0⟩, ⟨600, 240⟩, ⟨1200, 480⟩, ⟨2600, 840⟩],
    damping := 2, slew := 6, returnSlew := 12, holds := false },
  { enabled := true, fs := 720, points := #v[⟨0, 0⟩, ⟨1000, 90⟩, ⟨6000, 540⟩, ⟨8000, 720⟩],
    damping := 1, slew := 24, returnSlew := 12, holds := false },
  { enabled := true, fs := 270, points := #v[⟨0, 0⟩, ⟨80, 30⟩, ⟨410, 150⟩, ⟨820, 270⟩],
    damping := 4, slew := 2, returnSlew := 6, holds := true },
  { enabled := true, fs := 270, points := #v[⟨50, 0⟩, ⟨80, 120⟩, ⟨110, 150⟩, ⟨130, 270⟩],
    damping := 3, slew := 3, returnSlew := 6, holds := false },
  { enabled := true, fs := 270, points := #v[⟨0, 0⟩, ⟨50, 60⟩, ⟨150, 180⟩, ⟨250, 270⟩],
    damping := 2, slew := 6, returnSlew := 6, holds := false },
  { enabled := true, fs := 270, points := #v[⟨100, 0⟩, ⟨120, 90⟩, ⟨140, 180⟩, ⟨160, 270⟩],
    damping := 3, slew := 3, returnSlew := 6, holds := false }]

/-- The built-in tank table (R33). -/
def builtInTank : Vector TankPoint 8 :=
  #v[⟨0, 0⟩, ⟨20, 60⟩, ⟨50, 150⟩, ⟨90, 280⟩, ⟨130, 420⟩, ⟨170, 560⟩, ⟨210, 700⟩, ⟨254, 820⟩]

/-- The built-in page lists by role (R71). -/
def builtInPages : Role → List Page
  | .primary => [.distance .a, .avgCons .a, .avgSpeed .a, .time .a, .range, .distance .b, .avgCons .b, .outsideTemp]
  | .mirror => [.distance .a, .avgCons .a, .avgSpeed .a, .time .a, .range, .outsideTemp]

/-- A disabled warning entry (R83, R84). -/
def WarningDef.disabled : WarningDef :=
  { enabled := false, first := ⟨.slot 0, .above, 0⟩, second := none, hysteresis := 0, inOff := false, inAcc := false,
    inRun := true, debounce := 0, lossHolds := false, pattern := none, chimeClass := .low, ackable := false,
    repeatLimit := 0, remind := 0, lamps := 0, message := 0 }

/-- The built-in warning table (R84). -/
def builtInWarnings : Vector WarningDef 16 := #v[
  -- 0 SEAT BELT
  { enabled := true, first := ⟨.slot 9, .bitSet, 0⟩, second := none, hysteresis := 0,
    inOff := false, inAcc := false, inRun := true, debounce := 20, lossHolds := false,
    pattern := some .slow, chimeClass := .low, ackable := true, repeatLimit := 8, remind := 0, lamps := 0x00, message := 1 },
  -- 1 KEY IN IGNITION
  { enabled := true, first := ⟨.slot 10, .bitSet, 2⟩, second := some ⟨.slot 8, .bitSet, 0⟩, hysteresis := 0,
    inOff := true, inAcc := false, inRun := false, debounce := 5, lossHolds := false,
    pattern := some .fast, chimeClass := .high, ackable := false, repeatLimit := 0, remind := 0, lamps := 0x00, message := 2 },
  -- 2 LIGHTS ON
  { enabled := true, first := ⟨.slot 10, .bitSet, 0⟩, second := some ⟨.slot 8, .bitSet, 0⟩, hysteresis := 0,
    inOff := true, inAcc := false, inRun := false, debounce := 5, lossHolds := false,
    pattern := some .tone, chimeClass := .low, ackable := false, repeatLimit := 0, remind := 0, lamps := 0x00, message := 3 },
  -- 3 DOOR AJAR
  { enabled := true, first := ⟨.slot 8, .above, 0⟩, second := some ⟨.speed, .above, 50⟩, hysteresis := 0,
    inOff := false, inAcc := true, inRun := true, debounce := 10, lossHolds := false,
    pattern := some .triple, chimeClass := .high, ackable := true, repeatLimit := 3, remind := 0, lamps := 0x01, message := 4 },
  -- 4 LOW FUEL
  { enabled := true, first := ⟨.fuelVolume, .below, 80⟩, second := none, hysteresis := 20,
    inOff := false, inAcc := true, inRun := true, debounce := 100, lossHolds := true,
    pattern := some .single, chimeClass := .low, ackable := true, repeatLimit := 3, remind := 15, lamps := 0x02, message := 5 },
  -- 5 OVERHEAT
  { enabled := true, first := ⟨.slot 1, .above, 158⟩, second := none, hysteresis := 5,
    inOff := false, inAcc := false, inRun := true, debounce := 20, lossHolds := false,
    pattern := some .triple, chimeClass := .high, ackable := false, repeatLimit := 5, remind := 0, lamps := 0x04, message := 6 },
  -- 6 OIL PRESSURE
  { enabled := true, first := ⟨.slot 2, .below, 15⟩, second := some ⟨.slot 11, .bitSet, 0⟩, hysteresis := 5,
    inOff := false, inAcc := false, inRun := true, debounce := 10, lossHolds := false,
    pattern := some .tone, chimeClass := .high, ackable := true, repeatLimit := 0, remind := 0, lamps := 0x08, message := 7 },
  -- 7 CHARGE
  { enabled := true, first := ⟨.slot 3, .below, 115⟩, second := some ⟨.slot 11, .bitSet, 0⟩, hysteresis := 5,
    inOff := false, inAcc := false, inRun := true, debounce := 50, lossHolds := false,
    pattern := none, chimeClass := .low, ackable := false, repeatLimit := 0, remind := 0, lamps := 0x10, message := 8 },
  -- 8 SERVICE DUE
  { enabled := true, first := ⟨.serviceState, .above, 1⟩, second := none, hysteresis := 0,
    inOff := false, inAcc := false, inRun := true, debounce := 0, lossHolds := false,
    pattern := some .single, chimeClass := .low, ackable := true, repeatLimit := 1, remind := 0, lamps := 0x20, message := 0 },
  -- 9 CLUSTER FAULT
  { enabled := true, first := ⟨.faultAny, .bitSet, 0⟩, second := none, hysteresis := 0,
    inOff := false, inAcc := true, inRun := true, debounce := 0, lossHolds := false,
    pattern := none, chimeClass := .low, ackable := false, repeatLimit := 0, remind := 0, lamps := 0x40, message := 0 },
  .disabled, .disabled, .disabled, .disabled, .disabled, .disabled]

/-- The built-in parameters: R21, R33, R45, R71, R75, R96, R99, R103, R137, R179. -/
def builtInParams (role : Role) : Params :=
  { p := 1000, q := 50, vmax := 300, fmax := 600, refill := 50, cMin := 500, cMax := 20000, rqDefault := 3000,
    tank := builtInTank,
    distLimit := 150000, distMargin := 10000, daysLimit := 365, daysMargin := 30,
    wearLimit := 2400000, wearMargin := 240000, cold := 60, highRpm := 4500,
    retryLimit := 8, preempt := some 1000, lampModes := Vector.replicate 8 .any,
    pages := builtInPages role, tripBAuto := true, sweep := true, reportMask := 0 }

/-- The image used when the configuration check fails (R194): its check word reads 0000H. -/
def builtInImage (role : Role) : Image :=
  { subs := builtInSubs role, gauges := builtInGauges, warnings := builtInWarnings, params := builtInParams role,
    checkWord := 0 }

end Sys2Proof.Machine
end

