-- ==== Sys2Proof/Machine/State.lean ====
section
/-! DEFINITION. The state of the NC416: one structure per block of the block diagram (00_scope.md), the commands that wait,
and the state right after power-on. All of it is plain data.
A timer is a `Timer`: the stamp at which it falls due while it runs, `none` while it is stopped. -/

namespace Sys2Proof.Machine

/-- A timer: its due stamp while running, `none` while stopped (R7 "Starting a timer that is already running restarts it
from its full duration"). -/
abbrev Timer := Option Stamp

/-! ## Signal Table (chapter 1) -/

/-- The freshness states (section 1.3). -/
inductive Freshness where
  | absent | acquiring | fresh | late | lost
deriving DecidableEq, Repr

/-- One signal slot (R7): `value` serves LEVEL and BITS slots, `base` with `baseValid` COUNT and PRESSES slots. -/
structure Slot where
  state     : Freshness
  value     : Nat
  base      : Nat
  baseValid : Bool
  stamp     : Stamp
  acquired  : Nat
  late      : Timer
  lost      : Timer
deriving DecidableEq, Repr

/-! ## Distance and Fuel Integrator (chapter 2) -/

/-- One pair of the speed window (R30): pulses and milliseconds. -/
structure SpeedPair where
  pulses : Nat
  millis : Nat
deriving DecidableEq, Repr

/-- The integrator (R22). `volume` is the filtered volume V_f in sixteenths of a tenth-litre. -/
structure Integrator where
  tenths    : Nat
  remainder : Nat
  window    : List SpeedPair
  speed     : Option Nat
  volume    : Option Nat
  armed     : Bool
  rangeBase : Nat
  quanta    : Nat
  mark      : Bool
  fuelTimer : Timer
deriving DecidableEq, Repr

/-! ## Gauge Drive (chapter 3) -/

/-- The channel states with their codes 0 to 7 in order (R64). -/
inductive GaugeState where
  | zeroing | sweepUp | sweepDown | tracking | holding | resting | returning | parked
deriving DecidableEq, Repr

/-- One pointer channel (section 3.3): position p, target t, filter f, and the zeroing count of R56. -/
structure Channel where
  state     : GaugeState
  position  : Nat
  target    : Nat
  filter    : Nat
  zeroCount : Nat
deriving DecidableEq, Repr

/-- The Gauge Drive: six channels and the 20 ms update timer (R49). -/
structure Gauges where
  channels    : Vector Channel 6
  updateTimer : Timer
deriving DecidableEq, Repr

/-! ## Trip Computer (chapter 4) -/

/-- A trip record (section 4.1): distance in pulses, fuel in quanta, run time in seconds. -/
structure TripRecord where
  dist : Nat
  fuel : Nat
  secs : Nat
deriving DecidableEq, Repr

/-- The Trip Computer (R66): `window` runs while the journey window is open (R75), `page` is the position in the page list
counted from 0 (R72), `range` the range last computed (R43). -/
structure Trip where
  a         : TripRecord
  b         : TripRecord
  dayMark   : Bool
  window    : Timer
  tripTimer : Timer
  page      : Nat
  range     : Option Nat
deriving DecidableEq, Repr

/-! ## Warning Monitor (chapter 5) -/

/-- The warning states (section 5.3). -/
inductive WarningState where
  | inactive | pending | active | acknowledged | silenced
deriving DecidableEq, Repr

/-- One warning entry's state (R88). -/
structure Warning where
  state     : WarningState
  result1   : Bool
  result2   : Bool
  condition : Bool
  debounce  : Timer
  remind    : Timer
  phrases   : Nat
  stamp     : Stamp
deriving DecidableEq, Repr

/-- The Warning Monitor: entries, active list (R95), the eight lamp outputs, the bulb check (R97), and whether step 5 of the
start-up sequence has given the lamps over to the active list (R96). -/
structure Monitor where
  entries   : Vector Warning 16
  active    : List EntryId
  lamps     : BitVec 8
  bulbTimer : Timer
  lampsLive : Bool
deriving DecidableEq, Repr

/-- The fifteen fault kinds, codes 0 to 14 in order (section 5.7). -/
inductive FaultKind where
  | strapInvalid | configBad | configConflict | nvWear | nvFailed | odoRecovery | lineSilent | lineCollision | lineStuck
  | stationClash | rxCheck | distGap | implausible | protection | holdExpired
deriving DecidableEq, Repr

/-- The fault record (R98): flag n of `latched` and count n belong to kind n. -/
structure FaultRecord where
  latched : Word
  counts  : Vector Nat 15
  newest  : Option FaultKind
deriving DecidableEq, Repr

/-! ## Chime Arbiter (chapter 6) -/

/-- The arbiter's phases. -/
inductive ChimePhase where
  | idle | sounding | gap
deriving DecidableEq, Repr

/-- What the CHIME output does: silence, a strike, or the continuous tone (R102). -/
inductive ChimeOutput where
  | silent | strike | tone
deriving DecidableEq, Repr

/-- A request standing in the request set (section 6.2). -/
structure ChimeRequest where
  chimeClass : ChimeClass
  pattern    : Pattern
deriving DecidableEq, Repr

/-- The arbiter (section 6.2). `highPtr` is `none` at the position LOW. `nextStrike` counts the strikes begun;
`strikeTimer` is due at the next strike, `strikeEnd` at the end of the strike now sounding, `cutTimer` at a pending cut. -/
structure Chime where
  phase       : ChimePhase
  holder      : Option EntryId
  pattern     : Pattern
  granted     : Stamp
  nextStrike  : Nat
  strikeTimer : Timer
  strikeEnd   : Timer
  phraseTimer : Timer
  requests    : Vector (Option ChimeRequest) 16
  highPtr     : Option EntryId
  lowPtr      : EntryId
  preempt     : Timer
  cutPending  : Bool
  cutTimer    : Timer
  gapTimer    : Timer
  output      : ChimeOutput
deriving DecidableEq, Repr

/-! ## Display Controller (chapter 7) -/

/-- The display modes (section 7.1). -/
inductive DisplayMode where
  | dark | blank | page | message
deriving DecidableEq, Repr

/-- A poster of messages (R117). -/
inductive Owner where
  | warning (e : EntryId)
  | service
deriving DecidableEq, Repr

/-- A queue entry (R117): `duration` is `none` for PERSISTENT and the seconds of a TIMED entry, whose `timer` is stopped
until the entry is first shown. -/
structure Message where
  id       : Nat
  priority : Nat
  stamp    : Stamp
  duration : Option Nat
  timer    : Timer
  owners   : List Owner
deriving DecidableEq, Repr

/-- The Display Controller: the queue in its order (R117), the id of the shown message, the timers of R123, R124 and R128,
the pending switch mark, and the sixteen characters on the line. Until an event has been taken whole, `shown` may be `none` in
mode MESSAGE (R116), and `line` empty in mode PAGE, the page not being read before the event's figures stand (R28). -/
structure Display where
  mode          : DisplayMode
  queue         : List Message
  shown         : Option Nat
  minimum       : Timer
  switchPending : Bool
  rotation      : Timer
  refresh       : Timer
  line          : List Char
deriving DecidableEq, Repr

/-! ## Service Monitor and Hold Controller (chapter 8) -/

/-- A SERVICE RESET taken and not settled (R147): its asker and its selector 0 to 3. -/
structure PendingReset where
  asker    : Station
  selector : Nat
deriving DecidableEq, Repr

/-- The Service Monitor (R133); the counter states are functions of the counters (R138, `Flags`). -/
structure Service where
  dist     : Nat
  days     : Nat
  wear     : Nat
  secTimer : Timer
  reset    : Option PendingReset
deriving DecidableEq, Repr

/-- The phases of the hold record (R141). -/
inductive HoldPhase where
  | none | opening | held
deriving DecidableEq, Repr

/-- The hold record (R141): `station` is the claimant in OPENING and the holder in HELD. -/
structure Hold where
  phase   : HoldPhase
  station : Station
  timer   : Timer
  latch   : Bool
deriving DecidableEq, Repr

/-! ## Non-Volatile Store (chapter 9) -/

/-- The two rings. -/
inductive Ring where
  | odo | save
deriving DecidableEq, Repr

/-- A block of the array. -/
abbrev BlockId := Fin 16

/-- The condition of a ring block (R154). -/
inductive BlockCondition where
  | blank | used | bad
deriving DecidableEq, Repr

/-- A ring (R154). -/
structure RingState where
  failed  : Bool
  current : BlockId
  next    : Nat
  fails   : Nat
deriving DecidableEq, Repr

/-- What a delayed read means to the hold (R142): a plain read, a claim, or a claim dropped by the service-enable line. -/
inductive Claim where
  | plain | claiming | dropped
deriving DecidableEq, Repr

/-- Who asked for a block erase: a ring, or a station by ERASE CONFIG BLOCK. -/
inductive EraseOwner where
  | ring (r : Ring)
  | config (asker : Station)
deriving DecidableEq, Repr

/-- A request waiting in the store's queue (R158). `again` marks a record that failed verify and is built anew (R157);
`forRestart` marks an entry that belongs to the key-off save of a RESTART (R195); `carried` marks a retried save record
whose first building carried the pending reset (R148). -/
inductive StoreRequest where
  | commit (urgent again forRestart : Bool)
  | save (keyOff reset again carried forRestart : Bool)
  | program (asker : Station) (address : Byte) (value : Word)
  | erase (owner : EraseOwner) (block : BlockId)
  | read (asker : Station) (address : Byte) (claim : Claim) (limit : Timer)
deriving DecidableEq, Repr

/-- An erase attempt (R151): attempt number 1 to 3 and the erase time already spent before it last resumed. -/
structure EraseJob where
  owner   : EraseOwner
  block   : BlockId
  attempt : Nat
  spent   : Nat
deriving DecidableEq, Repr

/-- The operation in progress; the store's phase is IDLE, PROGRAMMING (`record`, `word`), READING or ERASING with it. -/
inductive StoreOp where
  | idle
  /-- A ring record being programmed: its words, the word reached, the request it serves, whether it is to be abandoned at
  the end of that word (R163), and the odometer tenths it carries. -/
  | record (ring : Ring) (request : StoreRequest) (words : List Word) (pos : Nat) (abandon : Bool) (tenths : Nat)
  | word (asker : Station) (address : Byte) (value : Word)
  | reading (asker : Station) (address : Byte) (claim : Claim)
  | erasing (job : EraseJob) (since : Stamp)
deriving DecidableEq, Repr

/-- The store's array as the words that do not read FFFFH, addresses strictly rising (section 9.1, R150). -/
abbrev Array16 := List (Nat × Word)

/-- The Non-Volatile Store (R154). -/
structure Store where
  array      : Array16
  op         : StoreOp
  opTimer    : Timer
  suspended  : Option EraseJob
  queue      : List StoreRequest
  conditions : Vector BlockCondition 16
  odo        : RingState
  save       : RingState
deriving DecidableEq, Repr

/-! ## Line Station (chapter 10) -/

/-- The transmit sources (R176). -/
inductive TxSource where
  | fault | reply | status | trip | standing
deriving DecidableEq, Repr

/-- The kinds of telegram the part sends. -/
inductive TxKind where
  | publish | reply
deriving DecidableEq, Repr

/-- A transmit queue entry (R176); `index` names the registration of a standing reply. -/
structure TxEntry where
  source   : TxSource
  kind     : TxKind
  group    : Byte
  target   : Option Station
  index    : Byte
  data     : List Byte
  attempts : Nat
  inFlight : Bool
  followOn : Option (List Byte)
deriving DecidableEq, Repr

/-- The reply statuses with their codes 0 to 10 in order (R183). -/
inductive Status where
  | done | busy | held | notHeld | locked | noLatch | badComplement | notNow | failed | aborted | unknown
deriving DecidableEq, Repr

/-- The stage of a pending answer (R184): READY holds the status and the four value bytes. -/
inductive Stage where
  | waiting
  | ready (status : Status) (values : List Byte)
  | queued
deriving DecidableEq, Repr

/-- A pending answer (R184). READY entries stand in the list in the order in which they became READY. -/
structure PendingAnswer where
  asker : Station
  group : Byte
  index : Byte
  stage : Stage
deriving DecidableEq, Repr

/-- A standing ask (R185). -/
structure StandingAsk where
  asker   : Station
  group   : Byte
  index   : Byte
  last    : List Byte
  spacing : Timer
  due     : Bool
deriving DecidableEq, Repr

/-- A HIGH position of the transmit rotation (R177). -/
inductive TxHigh where
  | fault | reply | low
deriving DecidableEq, Repr

/-- A LOW source of the transmit rotation (R177). -/
inductive TxLow where
  | status | trip | standing
deriving DecidableEq, Repr

/-- The receiver: it takes the telegram on the wire, or lets pass the one in which the part's own attempt collided (R178), or the
one whose start bit woke the part (R191). -/
inductive Receiver where
  | listens | abandoned | woken
deriving DecidableEq, Repr

/-- The Line Station. `idle` says that the line is idle (R172), `stuck` that the wire is held dominant (R180), `acked` what the
part drove in the acknowledge slot of the reception last ended (R173). -/
structure Line where
  queue       : List TxEntry
  pending     : List PendingAnswer
  standing    : List StandingAsk
  highPtr     : TxHigh
  lowPtr      : TxLow
  rxErrors    : Nat
  statusTimer : Timer
  idle        : Bool
  stuck       : Bool
  receiver    : Receiver
  acked       : Bool
deriving DecidableEq, Repr

/-! ## Key and Supply Monitor (chapter 11) -/

/-- The power modes. -/
inductive PowerMode where
  | awake | asleep
deriving DecidableEq, Repr

/-- A RESTART taken (R195): what of its key-off save the store has still to complete or fail, and whether the hold has ended
and the store runs out. -/
structure RestartWait where
  commitOpen : Bool
  saveOpen   : Bool
  draining   : Bool
deriving DecidableEq, Repr

/-- The Key and Supply Monitor: pins, straps, key state (R189), power mode and quiet timer (R190), whether step 5 of the
start-up sequence has been taken (R193), whether RUN was entered since the key last left OFF (R97, R139), the RESTART
wait (R195). -/
structure KeyMonitor where
  pins       : Pins
  station    : Station
  role       : Role
  units      : Units
  key        : KeyState
  keyTimer   : Timer
  svcEn      : Bool
  svcTimer   : Timer
  mode       : PowerMode
  quiet      : Timer
  started    : Bool
  runSeen    : Bool
  restart    : Option RestartWait
deriving DecidableEq, Repr

/-! ## The whole part -/

/-- What the blocks have handed to the Line Station inside the event now being taken, the model's own: `status` holds bytes 3 to 5
of 40H STATUS after each change of them (R95, R114, R138), and `trip` says whether an event that can change the contents of
41H and 42H has come about, be it a delta of 0 or a reset of an empty record (R81). The close of the event takes both, so that
nothing is handed over between events. -/
structure Handed where
  status : List (List Byte)
  trip   : Bool
deriving DecidableEq, Repr

/-- Nothing handed over. -/
def Handed.nothing : Handed := { status := [], trip := false }

/-- The state of the part. `now` is the millisecond time base, `pending` holds the commands that wait, first in, first out. Two
fields are the model's own: `freeIndex` counts the free values used so far, and `handed` is what the event now being taken
has handed to the Line Station. -/
structure State where
  now       : Stamp
  image     : Image
  slots     : Vector Slot 19
  integ     : Integrator
  gauges    : Gauges
  trip      : Trip
  monitor   : Monitor
  faults    : FaultRecord
  chime     : Chime
  display   : Display
  service   : Service
  hold      : Hold
  store     : Store
  line      : Line
  key       : KeyMonitor
  freeIndex : Nat
  handed    : Handed
  pending   : List Instr
deriving DecidableEq, Repr

/-- The reasons a step can stop with a fault. The manual gives the part no event at which it stops, so no command raises
one; the constructor names the one access the manual rules out. -/
inductive Fault where
  /-- An access to a word outside the 1024 words of the array (section 9.1). Raised by no command: every address is formed
  from a block 0 to 15 and a word 0 to 63. Safe. -/
  | arrayAddress (address : Nat)
deriving DecidableEq, Repr

/-- The reasons a step can refuse a command. -/
inductive Refusal where
  /-- Raised by `exec` for a command that has no meaning yet; no arm of this model does so. Safe. -/
  | notModelled (mnemonic : String)
  /-- Raised by a telegram command whose operands are no telegram of its row: more than six data bytes (R173), a
  TELEGRAM_DISCARDED whose reception passes R173, or an UNKNOWN_ASK_OR_COMMAND naming a group that the part takes (R182).
  Such an event cannot come about on the line. Safe. -/
  | notThisTelegram (mnemonic : String)
deriving DecidableEq, Repr

/-! ## The state right after power-on -/

/-- A slot right after power-on (R8). -/
def Slot.cleared : Slot :=
  { state := .absent, value := 0, base := 0, baseValid := false, stamp := 0, acquired := 0, late := none, lost := none }

/-- A channel right after power-on: ZEROING with FS + 30, or PARKED when disabled (R48, R56). -/
def Channel.powered (c : Calibration) : Channel :=
  if c.enabled then { state := .zeroing, position := 0, target := 0, filter := 0, zeroCount := c.fs + 30 }
  else { state := .parked, position := 0, target := 0, filter := 0, zeroCount := 0 }

/-- A trip record of zeros (R66). -/
def TripRecord.zero : TripRecord := { dist := 0, fuel := 0, secs := 0 }

/-- A warning entry right after power-on (R88). -/
def Warning.cleared : Warning :=
  { state := .inactive, result1 := false, result2 := false, condition := false, debounce := none, remind := none,
    phrases := 0, stamp := 0 }

/-- The Warning Monitor right after power-on (R88, R96). -/
def Monitor.cleared : Monitor :=
  { entries := Vector.replicate 16 Warning.cleared, active := [], lamps := 0, bulbTimer := none, lampsLive := false }

/-- An empty fault record (R98). -/
def FaultRecord.cleared : FaultRecord := { latched := 0, counts := Vector.replicate 15 0, newest := none }

/-- The arbiter right after power-on (R104). -/
def Chime.cleared : Chime :=
  { phase := .idle, holder := none, pattern := .single, granted := 0, nextStrike := 0, strikeTimer := none,
    strikeEnd := none, phraseTimer := none, requests := Vector.replicate 16 none, highPtr := none, lowPtr := 15,
    preempt := none, cutPending := false, cutTimer := none, gapTimer := none, output := .silent }

/-- The Display Controller right after power-on (R116). -/
def Display.cleared : Display :=
  { mode := .dark, queue := [], shown := none, minimum := none, switchPending := false, rotation := none,
    refresh := none, line := [] }

/-- The hold record right after power-on (R141). -/
def Hold.cleared : Hold := { phase := .none, station := 0, timer := none, latch := false }

/-- The Line Station right after power-on (R172, R174, R176, R177). -/
def Line.cleared : Line :=
  { queue := [], pending := [], standing := [], highPtr := .low, lowPtr := .standing, rxErrors := 0, statusTimer := none,
    idle := false, stuck := false, receiver := .listens, acked := false }

/-- The part right after power-on: start-up steps 1 to 4 of R193 made at time 0 on an erased array with every strap tied to
0 and every input inactive. CONFIG_BAD stands in the fault record, because "an array erased throughout fails the check"
(R194), and its 48H telegram stands in the transmit queue (R99). Log entries 1 and 2. -/
def State.reset : State :=
  { now := 0
    image := builtInImage .primary
    slots := Vector.replicate 19 Slot.cleared
    integ := { tenths := 0, remainder := 0, window := [], speed := none, volume := none, armed := true,
               rangeBase := (builtInParams .primary).rqDefault, quanta := 0, mark := false, fuelTimer := some 1000 }
    gauges := { channels := Vector.ofFn fun i => Channel.powered builtInGauges[i], updateTimer := some 20 }
    trip := { a := .zero, b := .zero, dayMark := false, window := none, tripTimer := none, page := 0, range := none }
    monitor := .cleared
    faults := { latched := 0x0002, counts := (Vector.replicate 15 0).set 1 1, newest := some .configBad }
    chime := .cleared
    display := .cleared
    service := { dist := 0, days := 0, wear := 0, secTimer := none, reset := none }
    hold := .cleared
    store := { array := [], op := .idle, opTimer := none, suspended := none, queue := [],
               conditions := Vector.replicate 16 .blank,
               odo := { failed := false, current := 4, next := 0, fails := 0 },
               save := { failed := false, current := 8, next := 0, fails := 0 } }
    line := { Line.cleared with
              queue := [{ source := .fault, kind := .publish, group := 0x48, target := none, index := 0,
                          data := [0x00, 0x02, 0x01, 0x01], attempts := 0, inFlight := false, followOn := none }] }
    key := { pins := { keyAcc := false, keyRun := false, svcEn := false, supplyLow := false },
             station := 12, role := .primary, units := .metric, key := .off, keyTimer := some 20,
             svcEn := false, svcTimer := some 20, mode := .awake, quiet := some 5000, started := false, runSeen := false,
             restart := none }
    freeIndex := 0
    handed := .nothing
    pending := [] }

end Sys2Proof.Machine
end

