-- ==== Sys2Proof/Machine/Arith.lean ====
section
/-! DEFINITION. The roundings of 00_scope.md ("Arithmetic"), byte and bit-field helpers, and timers. -/

namespace Sys2Proof.Machine

/-- Quotient rounded up. -/
def ceilDiv (a b : Nat) : Nat := (a + b - 1) / b

/-- Quotient rounded to nearest, halves up. -/
def roundDiv (a b : Nat) : Nat := (2 * a + b) / (2 * b)

/-- Quotient rounded to nearest, halves toward the larger value, for a positive divisor (R34, R50). -/
def roundDivInt (a b : Int) : Int := (2 * a + b) / (2 * b)

/-- One step of a smoothing filter from `f` toward `goal` (R35, R51): the truncated quotient of the difference, or one unit
where that is 0 and the difference is not. -/
def filterStep (f goal : Nat) (divisor : Nat) : Nat :=
  let diff : Int := (goal : Int) - f
  let q := diff.tdiv divisor
  if q ≠ 0 then ((f : Int) + q).toNat
  else if f < goal then f + 1 else if goal < f then f - 1 else f

/-- `p` moved toward `c` by at most `limit` (R52). -/
def moveToward (p c limit : Nat) : Nat :=
  if p ≤ c then (if c - p ≤ limit then c else p + limit)
  else (if p - c ≤ limit then c else p - limit)

/-- The straight line through two points at `x`, rounded to nearest, halves toward the larger value (R34, R50). -/
def interpolate (x x0 y0 x1 y1 : Int) : Int := y0 + roundDivInt ((x - x0) * (y1 - y0)) (x1 - x0)

/-- A value as `n` bytes, most significant byte first (section 10.2). -/
def bytesOf : Nat → Nat → List Byte
  | 0, _ => []
  | n + 1, v => BitVec.ofNat 8 (v / 256 ^ n) :: bytesOf n v

/-- The number that bytes make, the byte at the lower offset being the more significant (R3). -/
def numberOf (bytes : List Byte) : Nat := bytes.foldl (fun v b => 256 * v + b.toNat) 0

/-- The four value bytes of a reply, or 0 where the owning rule gives none (R183). -/
def fourBytes (bytes : List Byte) : List Byte := (bytes ++ [0, 0, 0, 0]).take 4

/-- Bits `lo` to `lo + n - 1` of a word as a number. -/
def field (w : Word) (lo n : Nat) : Nat := (w.toNat / 2 ^ lo) % 2 ^ n

/-- Bit `i` of a word. -/
def bit (w : Word) (i : Nat) : Bool := w.getLsbD i

/-- A timer started now with a duration in milliseconds. -/
def startTimer (now : Stamp) (millis : Nat) : Timer := some (now + BitVec.ofNat 32 millis)

/-- Whether a running timer has come to its due stamp, stamps being compared modulo 2^32. -/
def isDue (now : Stamp) : Timer → Bool
  | none => false
  | some due => now.since due < 2147483648

end Sys2Proof.Machine
end

