-- ==== Sys2Proof/Machine/Figures.lean ====
section
/-! DEFINITION. The figures of chapters 2 to 4 as formulas over their inputs: plausibility limits, speed, fuel volume, range basis,
trip averages, range, gauge targets. No state is read here. -/

namespace Sys2Proof.Machine

/-- The plausibility limit of a distance delta (R24). -/
def distanceLimit (vmax p dt : Nat) : Nat := ceilDiv (vmax * 10 * p * dt) 3600000 + 2

/-- The plausibility limit of a fuel delta (R29). -/
def fuelLimit (fmax dt : Nat) : Nat := ceilDiv (fmax * dt) 1000 + 2

/-- The speed window with a new accepted delta (R30). -/
def windowWith (window : List SpeedPair) (d dt : Nat) : List SpeedPair :=
  if dt = 0 then
    match window.getLast? with
    | some newest => window.dropLast ++ [{ newest with pulses := newest.pulses + d }]
    | none => [⟨d, 0⟩]
  else (if window.length < 4 then window else window.drop 1) ++ [⟨d, dt⟩]

/-- The speed that a window gives, the speed before it serving where the window holds no time (R31). -/
def speedOf (p : Nat) (window : List SpeedPair) (before : Option Nat) : Option Nat :=
  let d := (window.map (·.pulses)).sum
  let dt := (window.map (·.millis)).sum
  if dt = 0 then before else some (min (d * 3600000 / (p * dt)) 3000)

/-- The sender volume of a raw reading (R34). -/
def senderVolume (tank : Vector TankPoint 8) (x : Nat) : Nat :=
  if x ≤ tank[0].raw then tank[0].volume
  else if tank[7].raw ≤ x then tank[7].volume
  else
    match (List.finRange 7).find? (fun i : Fin 7 => x < tank[i.val + 1].raw) with
    | some i =>
      (interpolate x tank[i.val].raw tank[i.val].volume tank[i.val + 1].raw tank[i.val + 1].volume).toNat
    | none => tank[7].volume

/-- The fuel volume shown, in tenths of a litre (R37). -/
def shownVolume (volume : Option Nat) : Option Nat := volume.map fun v => roundDiv v 16

/-- One step of the fuel filter toward the sender volume V (R35). -/
def fuelStep (volume v : Nat) : Nat := filterStep volume (16 * v) 64

/-- The filtered volume after refill detection has been taken with the sender volume V (R36). -/
def refilled (volume : Option Nat) (v threshold : Nat) : Nat :=
  match volume with
  | none => 16 * v
  | some f => if f + 16 * threshold ≤ 16 * v then 16 * v else f

/-- A value clamped into a range. -/
def clamp (lo hi v : Nat) : Nat := min hi (max lo v)

/-- The range basis after the last of n crossings, the interval mark being set (R39). -/
def rangeBaseStep (cMin cMax rq quanta n : Nat) : Nat :=
  let last := clamp cMin cMax (quanta / n)
  ((rq : Int) + ((last : Int) - rq).tdiv 16).toNat

/-- A trip's average speed in tenths of a unit per hour (R41). -/
def averageSpeed (p : Nat) (r : TripRecord) : Option Nat :=
  if r.secs < 60 ∨ r.dist < 10 * p then none else some (min (roundDiv (r.dist * 3600) (p * r.secs)) 3000)

/-- A trip's average consumption in the form of the unit system (R42). -/
def averageConsumption (units : Units) (p q : Nat) (r : TripRecord) : Option Nat :=
  if r.dist < 10 * p ∨ r.fuel = 0 then none
  else some (min (match units with
    | .metric => roundDiv (r.fuel * q * p) (100 * r.dist)
    | .us => roundDiv (r.dist * 3785412) (p * r.fuel * q)
    | .imperial => roundDiv (r.dist * 4546090) (p * r.fuel * q)) 999)

/-- The range in units (R43). -/
def rangeOf (volume : Option Nat) (rq q : Nat) : Option Nat :=
  volume.map fun v => min (v * 100000 / (rq * q)) 999

/-- A trip's fuel used in tenths of a litre (R43), held at 99,999 (R76). -/
def fuelUsed (q : Nat) (r : TripRecord) : Nat := min (r.fuel * q / 100000) 99999

/-- A trip's distance in tenths (R43), held at 999,999 (R76). -/
def tripTenths (p : Nat) (r : TripRecord) : Nat := min (r.dist / p) 999999

/-- A trip field increased, stopping at 2^32 - 1 (R67, R68). -/
def saturate32 (v d : Nat) : Nat := min (v + d) 4294967295

/-- The target of a channel for an input (R50). -/
def gaugeTarget (c : Calibration) (x : Int) : Nat :=
  let raw : Int :=
    if x ≤ c.points[0].input then c.points[0].steps
    else if c.points[3].input ≤ x then c.points[3].steps
    else
      match (List.finRange 3).find? (fun i : Fin 3 => x < c.points[i.val + 1].input) with
      | some i =>
        interpolate x c.points[i.val].input c.points[i.val].steps c.points[i.val + 1].input c.points[i.val + 1].steps
      | none => c.points[3].steps
  min c.fs raw.toNat

/-- The wear weight of one second (R136). -/
def wearWeight (cold fast : Bool) : Nat := 2 + (if cold then 2 else 0) + (if fast then 2 else 0)

/-- The state code of a service counter: 0 CLEAR, 1 SOON, 2 DUE, 3 OVERDUE (R138). -/
def counterState (v limit margin : Nat) : Nat :=
  if limit + margin ≤ v then 3 else if limit ≤ v then 2 else if limit - margin ≤ v then 1 else 0

end Sys2Proof.Machine
end

