-- ==== Sys2Proof/Machine/Memory.lean ====
section
/-! DEFINITION. The store's array (sections 9.1 and 9.2): reading and writing words, whole blocks, and the record layouts of the rings.
The array is kept as the list of the words that do not read FFFFH, addresses strictly rising, so that equal arrays are
equal data. -/

namespace Sys2Proof.Machine

/-- The word at an address; a word that no entry lists reads as erased (R150). -/
def readWord : Array16 → Nat → Word
  | [], _ => Config.erasedWord
  | (k, v) :: rest, a => if k = a then v else readWord rest a

/-- The array with the word at an address replaced; a word made FFFFH leaves the list. -/
def writeWord : Array16 → Nat → Word → Array16
  | [], a, w => if w = Config.erasedWord then [] else [(a, w)]
  | (k, v) :: rest, a, w =>
    if a < k then (if w = Config.erasedWord then (k, v) :: rest else (a, w) :: (k, v) :: rest)
    else if a = k then (if w = Config.erasedWord then rest else (a, w) :: rest)
    else (k, v) :: writeWord rest a w

/-- Whether every address of a list is above `lo` and the addresses rise strictly. -/
def risesFrom : Nat → Array16 → Bool
  | _, [] => true
  | lo, (k, _) :: rest => lo ≤ k && risesFrom (k + 1) rest

/-- The canonical form of the array: strictly rising addresses below 1024, and no entry that reads FFFFH. -/
def arrayWf (a : Array16) : Bool :=
  risesFrom 0 a && a.all (fun e => e.1 < Config.arrayWords && e.2 ≠ Config.erasedWord)

/-- The address of word n of block b (section 9.1). -/
def wordAddress (b : BlockId) (n : Nat) : Nat := 64 * b.val + n

/-- The result of a word program (R150): the old word with every bit cleared that is clear in the value, except the bits
that worn cells keep at one. -/
def programmed (old value stuck : Word) : Word := old &&& (value ||| stuck)

/-- The words of a block, in order. -/
def blockWords (a : Array16) (b : BlockId) : List Word := (List.range 64).map fun n => readWord a (wordAddress b n)

/-- Whether every word of a block reads FFFFH (R151, R154). -/
def blockIsBlank (a : Array16) (b : BlockId) : Bool := (blockWords a b).all (· = Config.erasedWord)

/-- A block after an erase attempt: every word FFFFH but the residue (R151). -/
def eraseBlock (a : Array16) (b : BlockId) (residue : List (Fin 64 × Word)) : Array16 :=
  residue.foldl (fun a r => writeWord a (wordAddress b r.1.val) r.2) (a.filter fun e => e.1 / 64 ≠ b.val)

/-- A block whose words are in no defined state: 64 free values from number `free` on (R151). -/
def scrambleBlock (a : Array16) (b : BlockId) (free : Nat) : Array16 :=
  (List.range 64).foldl (fun a n => writeWord a (wordAddress b n) (Config.freeWord (free + n))) a

/-! ## Rings and slots -/

/-- The blocks of a ring in the order of its cycle (R155). -/
def ringBlocks : Ring → List BlockId
  | .odo => [4, 5, 6, 7]
  | .save => [8, 9, 10, 11, 12, 13, 14, 15]

/-- The words of a record (section 9.2). -/
def recordSize : Ring → Nat
  | .odo => 4
  | .save => 32

/-- The slots of a block (section 9.2). -/
def slotsPerBlock (r : Ring) : Nat := 64 / recordSize r

/-- The address of word n of a slot. -/
def slotAddress (r : Ring) (b : BlockId) (slot n : Nat) : Nat := wordAddress b (recordSize r * slot + n)

/-- The words of a slot. -/
def slotWords (a : Array16) (r : Ring) (b : BlockId) (slot : Nat) : List Word :=
  (List.range (recordSize r)).map fun n => readWord a (slotAddress r b slot n)

/-- Whether a slot is blank. -/
def slotIsBlank (a : Array16) (r : Ring) (b : BlockId) (slot : Nat) : Bool :=
  (slotWords a r b slot).all (· = Config.erasedWord)

/-- The first blank slot of a block at or after a slot number (R155, R169). -/
def blankSlotFrom (a : Array16) (r : Ring) (b : BlockId) (slot : Nat) : Option Nat :=
  (List.range (slotsPerBlock r)).find? fun k => slot ≤ k && slotIsBlank a r b k

/-- All the slots of a ring in the order of its cycle. -/
def ringSlots (r : Ring) : List (BlockId × Nat) :=
  (ringBlocks r).flatMap fun b => (List.range (slotsPerBlock r)).map fun k => (b, k)

/-! ## Records -/

/-- Word n of a record. -/
def nthWord (w : List Word) (n : Nat) : Word := w.getD n 0

/-- A field of two words, the more significant first. -/
def twoWords (w : List Word) (n : Nat) : Nat := 65536 * (nthWord w n).toNat + (nthWord w (n + 1)).toNat

/-- The words of a number, the more significant first. -/
def splitWord (v : Nat) : List Word := [BitVec.ofNat 16 (v / 65536), BitVec.ofNat 16 v]

/-- The odometer record of T (section 9.2). -/
def odoRecord (tenths : Nat) : List Word :=
  let lo : Word := BitVec.ofNat 16 tenths
  let hi : Word := BitVec.ofNat 16 (tenths / 65536)
  [lo, hi, ~~~lo, ~~~hi]

/-- The value of an odometer record, if it is valid (R152). -/
def odoValue (w : List Word) : Option Nat :=
  let v := 65536 * (nthWord w 1).toNat + (nthWord w 0).toNat
  if nthWord w 2 = ~~~(nthWord w 0) ∧ nthWord w 3 = ~~~(nthWord w 1) ∧ v ≤ Config.odometerLimit then some v else none

/-- The 16-bit sum of words (R153, R194). -/
def wordSum (w : List Word) : Word := w.foldl (· + ·) 0

/-- Whether a save record is valid (R153). -/
def saveValid (w : List Word) : Bool :=
  nthWord w 31 = ~~~(wordSum (w.take 31)) ∧ twoWords w 1 ≤ Config.odometerLimit

/-- Sequence a is newer than sequence b (R153). -/
def newerSequence (a b : Word) : Bool := 1 ≤ (a - b).toNat && (a - b).toNat ≤ 32767

/-- The valid odometer records among some slots, with their places and values. -/
def validOdo (a : Array16) (slots : List (BlockId × Nat)) : List ((BlockId × Nat) × Nat) :=
  slots.filterMap fun p => (odoValue (slotWords a .odo p.1 p.2)).map fun v => (p, v)

/-- The largest value among odometer records. -/
def highest (l : List ((BlockId × Nat) × Nat)) : Option Nat :=
  l.foldl (fun best r => match best with | none => some r.2 | some v => some (max v r.2)) none

/-- The newest odometer record: the valid record of highest value (R152). Where several share that value, the last of
their run in the order of the cycle serves, so that the slots after it are the ones next to be written; log entry 20. -/
def newestOdo (a : Array16) : Option ((BlockId × Nat) × Nat) :=
  let valid := validOdo a (ringSlots .odo)
  match highest valid with
  | none => none
  | some top =>
    let ties := (valid.filter (·.2 = top)).map (·.1)
    let order := ringSlots .odo
    let successor (p : BlockId × Nat) : BlockId × Nat := order.getD ((order.idxOf p + 1) % order.length) p
    match ties.find? (fun p => !ties.contains (successor p)) with
    | some p => some (p, top)
    | none => ties.head?.map fun p => (p, top)

/-- The valid save records among some slots. -/
def validSaves (a : Array16) (slots : List (BlockId × Nat)) : List ((BlockId × Nat) × List Word) :=
  slots.filterMap fun p =>
    let w := slotWords a .save p.1 p.2
    if saveValid w then some (p, w) else none

/-- The newest of some save records: the one whose sequence is newer than that of every other; none where no record is
newer than all the others (R153). -/
def newestOf (l : List ((BlockId × Nat) × List Word)) : Option ((BlockId × Nat) × List Word) :=
  l.find? fun r => l.all fun o => o.1 = r.1 || newerSequence (nthWord r.2 0) (nthWord o.2 0)

/-- The newest save record of the ring (R153). -/
def newestSave (a : Array16) : Option ((BlockId × Nat) × List Word) := newestOf (validSaves a (ringSlots .save))

end Sys2Proof.Machine
end

