-- ==== Sys2Proof/Machine/Flags.lean ====
section
/-! DEFINITION. The status of the part as functions of its state: what is usable, reported, due, busy or ready to sleep. -/

namespace Sys2Proof.Machine

/-! ## Slots -/

/-- The kinds of slot (section 1.2). -/
inductive SlotKind where
  | level | bits | count | presses
deriving DecidableEq, Repr

/-- The kind of each slot (R6). -/
def slotKind (i : SlotId) : SlotKind :=
  match i.val with
  | 4 | 5 | 13 => .count
  | 8 | 9 | 10 | 11 => .bits
  | 12 => .presses
  | _ => .level

/-- A slot whose stored value may be used (R17). -/
def Slot.usable (sl : Slot) : Bool := sl.state = .fresh || sl.state = .late

/-- A slot's value where it is usable (R17). -/
def slotValue (s : State) (i : SlotId) : Option Nat := if s.slots[i].usable then some s.slots[i].value else none

/-- The enabled entry that feeds a slot (R2). -/
def feeder (subs : Vector Subscription 16) (i : SlotId) : Option Subscription :=
  subs.toList.find? fun e => e.enabled && e.slot = i

/-! ## Role, key and power -/

/-- PRIMARY role (R188). -/
def State.primary (s : State) : Bool := s.key.role = .primary

/-- Power mode AWAKE (section 11.3). -/
def State.awake (s : State) : Bool := s.key.mode = .awake

/-- Key state ACC or RUN. -/
def State.keyOn (s : State) : Bool := s.key.key ≠ .off

/-- The key state that the key lines give (R189). -/
def derivedKey (p : Pins) : KeyState := if p.keyRun then .run else if p.keyAcc then .acc else .off

/-! ## The fault record -/

/-- The code of a fault kind (section 5.7). -/
def FaultKind.code : FaultKind → Nat
  | .strapInvalid => 0 | .configBad => 1 | .configConflict => 2 | .nvWear => 3 | .nvFailed => 4 | .odoRecovery => 5
  | .lineSilent => 6 | .lineCollision => 7 | .lineStuck => 8 | .stationClash => 9 | .rxCheck => 10 | .distGap => 11
  | .implausible => 12 | .protection => 13 | .holdExpired => 14

/-- The count of a fault kind (R98). -/
def faultCount (r : FaultRecord) (k : FaultKind) : Nat := r.counts.toList.getD k.code 0

/-- The fault record after one occurrence (R98). -/
def FaultRecord.after (r : FaultRecord) (k : FaultKind) : FaultRecord :=
  { latched := r.latched ||| (1#16 <<< k.code)
    counts := r.counts.setIfInBounds k.code (min 255 (faultCount r k + 1))
    newest := some k }

/-- The reported set, bit n for kind n, bit 15 clear (R99). -/
def reportedSet (r : FaultRecord) (mask : Word) : Word := r.latched &&& ~~~mask &&& 0x7FFF

/-- The four data bytes of 48H FAULTS (R99). -/
def faultBytes (r : FaultRecord) (mask : Word) : List Byte :=
  bytesOf 2 (reportedSet r mask).toNat ++
  [match r.newest with | some k => BitVec.ofNat 8 k.code | none => 0xFF,
   match r.newest with | some k => BitVec.ofNat 8 (faultCount r k) | none => 0]

/-- Internal source 36 FAULT_ANY (R99). -/
def State.faultAny (s : State) : Bool := reportedSet s.faults s.image.params.reportMask ≠ 0

/-! ## Service states -/

/-- The three counter states, distance, days, wear (R138); CLEAR in MIRROR role (R133). -/
def distState (s : State) : Nat :=
  if s.primary then counterState s.service.dist s.image.params.distLimit s.image.params.distMargin else 0

/-- The state of the days counter (R138). -/
def daysState (s : State) : Nat :=
  if s.primary then counterState s.service.days s.image.params.daysLimit s.image.params.daysMargin else 0

/-- The state of the wear counter (R138). -/
def wearState (s : State) : Nat :=
  if s.primary then counterState s.service.wear s.image.params.wearLimit s.image.params.wearMargin else 0

/-- The service state: the highest of the three (R138). -/
def serviceState (s : State) : Nat := max (distState s) (max (daysState s) (wearState s))

/-! ## Internal sources -/

/-- Internal source 34 RANGE: the range last computed in PRIMARY role (R43), the primary's published range clamped to 999 in
MIRROR role (R78). -/
def rangeValue (s : State) : Option Nat :=
  if s.primary then s.trip.range else (slotValue s 16).map fun v => min v 999

/-- The value of a warning source where it is usable (R85). -/
def sourceValue (s : State) : Source → Option Nat
  | .slot i => slotValue s i
  | .speed => s.integ.speed
  | .fuelVolume => shownVolume s.integ.volume
  | .range => rangeValue s
  | .serviceState => some (serviceState s)
  | .faultAny => some (if s.faultAny then 1 else 0)

/-- The largest value of a warning source (R85). -/
def sourceTop (s : State) : Source → Nat
  | .slot i =>
    let w := ((feeder s.image.subs i).map (·.width)).getD 1
    if slotKind i = .bits then 2 ^ (8 * w) - 1 else 2 ^ (8 * w) - 2
  | .speed => 3000
  | .fuelVolume => 9999
  | .range => 999
  | .serviceState => 3
  | .faultAny => 1

/-! ## Warnings -/

/-- Whether a key state is in an entry's key mask (R83). -/
def WarningDef.allows (d : WarningDef) : KeyState → Bool
  | .off => d.inOff
  | .acc => d.inAcc
  | .run => d.inRun

/-- Whether one of an entry's tests reads a source (R87). -/
def WarningDef.reads (d : WarningDef) (src : Source) : Bool :=
  d.enabled && (d.first.source = src || (match d.second with | some t => t.source = src | none => false))

/-- The count of ACTIVE warnings for 40H STATUS (R95). -/
def activeCount (m : Monitor) : Nat := m.active.countP fun e => m.entries[e].state = .active

/-! ## Gauges -/

/-- The code of a channel state (R64). -/
def GaugeState.code : GaugeState → Nat
  | .zeroing => 0 | .sweepUp => 1 | .sweepDown => 2 | .tracking => 3 | .holding => 4 | .resting => 5 | .returning => 6
  | .parked => 7

/-- The commanded value c of a channel (section 3.3, R64): fixed by the state outside the filtering states. -/
def commanded (c : Calibration) (ch : Channel) : Nat :=
  match ch.state with
  | .zeroing | .sweepDown | .returning | .parked => 0
  | .sweepUp => c.fs
  | .tracking | .holding | .resting => roundDiv ch.filter 16

/-- Whether a channel holds its drive, by its state: it is released in PARKED only (R47, R57, R60, R62). RESTING holds it, at
position 0 too (R55), and every other state drives the pointer. -/
def driveHeld (ch : Channel) : Bool := ch.state ≠ .parked

/-! ## The store -/

/-- The block under an erase in flight (R154). -/
def Store.erasingBlock (st : Store) : Option BlockId :=
  match st.op with
  | .erasing j _ => some j.block
  | _ => none

/-- Whether a block's erase is in flight or suspended (R159, row 3). -/
def Store.eraseBegun (st : Store) (b : BlockId) : Bool :=
  st.erasingBlock = some b || (match st.suspended with | some j => j.block = b | none => false)

/-- Whether a block's erase is queued, in flight or suspended: an erase status other than NONE (R154). -/
def Store.eraseStands (st : Store) (b : BlockId) : Bool :=
  st.eraseBegun b || st.queue.any fun r => match r with | .erase _ b' => b' = b | _ => false

/-- The store is IDLE with no suspended erase (R190, R195). -/
def Store.resting (st : Store) : Bool := st.op = .idle && st.suspended.isNone

/-- A configuration program or erase is queued or in progress (R165, R166). -/
def Store.configBusy (st : Store) : Bool :=
  (st.queue.any fun r => match r with | .program .. => true | .erase (.config _) _ => true | _ => false) ||
  (match st.op with | .word .. => true | .erasing j _ => (match j.owner with | .config _ => true | _ => false) | _ => false) ||
  (match st.suspended with | some j => (match j.owner with | .config _ => true | _ => false) | none => false)

/-- The number of reads queued (R168). -/
def Store.queuedReads (st : Store) : Nat := st.queue.countP fun r => match r with | .read .. => true | _ => false

/-- The state of a ring. -/
def Store.ring (st : Store) : Ring → RingState
  | .odo => st.odo
  | .save => st.save

/-- The store with a ring's state replaced. -/
def Store.withRing (st : Store) (r : Ring) (x : RingState) : Store :=
  match r with
  | .odo => { st with odo := x }
  | .save => { st with save := x }

/-! ## The hold -/

/-- Whether a station holds the service hold (R145, step 2). -/
def Hold.isHolder (h : Hold) (a : Station) : Bool := h.phase = .held && h.station = a

/-! ## RESTART -/

/-- The RESTART wait has ended the hold and the store runs out (R195): no new operation starts and asks are answered BUSY. -/
def State.draining (s : State) : Bool := match s.key.restart with | some w => w.draining | none => false

/-- The conditions at which the restart wait ends (R195). -/
def restartReady (s : State) : Bool :=
  match s.key.restart with
  | some w => !w.commitOpen && !w.saveOpen && w.draining && s.store.resting && s.line.pending.isEmpty
  | none => false

/-! ## Sleep -/

/-- The sleep conditions of R190. That the key state is OFF means that step 5 of the start has taken it: log entry 67. -/
def sleepReady (s : State) : Bool :=
  s.awake && s.key.started && s.key.key = .off && !s.key.pins.keyAcc && !s.key.pins.keyRun
  && s.gauges.channels.toList.all (·.state = .parked)
  && s.store.resting && s.store.queue.isEmpty
  && s.monitor.entries.toList.all (fun w => w.state ≠ .pending && w.state ≠ .active)
  && s.display.queue.isEmpty
  && s.hold.phase = .none
  && s.line.queue.isEmpty
  && s.key.quiet.isNone

/-! ## Telegram contents -/

/-- The six bytes of 40H STATUS (R181). -/
def statusBytes (s : State) : List Byte :=
  (if s.primary then bytesOf 3 s.integ.tenths else [0xFF, 0xFF, 0xFF]) ++
  [BitVec.ofNat 8 (activeCount s.monitor),
   match s.chime.holder with | some e => BitVec.ofNat 8 e.val | none => 0xFF,
   BitVec.ofNat 8 (serviceState s)]

/-- A figure in two bytes, FFFFH for no value (section 4.6). -/
def figureBytes (v : Option Nat) : List Byte := match v with | some n => bytesOf 2 n | none => [0xFF, 0xFF]

/-- The form flags of 41H TRIP A (section 4.6). -/
def formFlags : Units → Byte
  | .metric => 0x01
  | .us => 0x02
  | .imperial => 0x04

/-- The six bytes of 41H TRIP A (section 4.6, R79). -/
def tripABytes (s : State) : List Byte :=
  bytesOf 3 (tripTenths s.image.params.p s.trip.a) ++
  figureBytes (averageConsumption s.key.units s.image.params.p s.image.params.q s.trip.a) ++ [formFlags s.key.units]

/-- The range page's figure in PRIMARY role: the range as computed from the volume and R_q (R76, R43). -/
def primaryRange (s : State) : Option Nat :=
  rangeOf (shownVolume s.integ.volume) s.integ.rangeBase s.image.params.q

/-- The elapsed minutes field (section 4.6). -/
def elapsedMinutes (r : TripRecord) : Nat := min (r.secs / 60) 65534

/-- The six bytes of 42H TRIP B/RANGE (section 4.6, R80). -/
def tripBRangeBytes (s : State) : List Byte :=
  figureBytes (primaryRange s) ++ figureBytes (averageSpeed s.image.params.p s.trip.a) ++
  bytesOf 2 (elapsedMinutes s.trip.a)

/-- Byte 3 of the reply to 50H IDENTITY index 0 (R182). -/
def identityByte (s : State) : Byte :=
  BitVec.ofNat 8 (s.key.station.toNat + (if s.key.role = .mirror then 32 else 0)
    + 64 * (match s.key.units with | .metric => 0 | .us => 1 | .imperial => 2))

/-- The four value bytes of a 53H GAUGE STATE reply (R64). -/
def gaugeBytes (s : State) (i : Fin 6) : List Byte :=
  let c := s.image.gauges[i]
  let ch := s.gauges.channels[i]
  if c.enabled then
    let p := match ch.state with | .zeroing => 4095 | .parked => 0 | _ => ch.position
    BitVec.ofNat 8 ch.state.code :: bytesOf 3 (4096 * p + commanded c ch)
  else [0x87, 0, 0, 0]

/-- Bytes 3 to 5 of 40H STATUS: the count of ACTIVE warnings, the chime holder and the service state, each of which its owner
hands to the Line Station at every change (R95, R114, R138). -/
def statusTail (s : State) : List Byte := (statusBytes s).drop 3

/-- What an ask of 40H reads when the six bytes of STATUS are as given (R181). -/
def statusAnswer (status : List Byte) (index : Byte) : Status × List Byte :=
  if index = 0 then (.done, status.take 4)
  else if index = 1 then (.done, fourBytes (status.drop 4)) else (.unknown, fourBytes [])

/-- What an ask of one of the four watched groups reads: the status and the four value bytes (R181, R81, R64). -/
def watchedAnswer (s : State) (group index : Byte) : Status × List Byte :=
  if group = 0x40 then statusAnswer (statusBytes s) index
  else if group = 0x41 then
    if !s.primary then (.notNow, fourBytes [])
    else if index = 0 then (.done, (tripABytes s).take 3 ++ (tripABytes s).drop 5)
    else if index = 1 then (.done, fourBytes (((tripABytes s).drop 3).take 2)) else (.unknown, fourBytes [])
  else if group = 0x42 then
    if !s.primary then (.notNow, fourBytes [])
    else if index = 0 then (.done, (tripBRangeBytes s).take 4)
    else if index = 1 then (.done, fourBytes ((tripBRangeBytes s).drop 4)) else (.unknown, fourBytes [])
  else if group = 0x53 then
    if h : index.toNat < 6 then (.done, gaugeBytes s ⟨index.toNat, h⟩) else (.unknown, fourBytes [])
  else (.unknown, fourBytes [])

end Sys2Proof.Machine
end

