-- ==== Sys2Proof/Machine/Operands.lean ====
section
/-! DEFINITION. The forms in which commands carry their operands: telegrams framed on the line (R172, R173), requests (R175), and the
values that subscriptions take from a PUBLISH telegram (R3). -/

namespace Sys2Proof

/-! ## Requests and PUBLISH telegrams -/

/-- A PUBLISH telegram holds at most six data bytes (section 10.2). -/
def Publish.fits (m : Publish) : Bool := m.data.length ≤ 6

/-- The data bytes of a request from data byte 1 on: data byte 0 is the target (section 10.2). -/
def Request.fits (r : Request) : Bool := r.args.length ≤ 5

/-- An argument byte of a request, if the telegram holds it; number 0 is data byte 1. -/
def Request.arg (r : Request) (i : Nat) : Option Byte := r.args[i]?

/-- Two bytes of a request as a word, more significant byte first (R165). -/
def Request.word (r : Request) (i : Nat) : Option Word :=
  match r.args[i]?, r.args[i + 1]? with
  | some hi, some lo => some (hi ++ lo)
  | _, _ => none

end Sys2Proof

namespace Sys2Proof.Machine

/-! ## Framing -/

/-- The four telegram kinds with their codes 0 to 3 in order (section 10.2). -/
inductive TelegramKind where
  | publish | ask | reply | command
deriving DecidableEq, Repr

/-- A whole telegram (section 10.2). -/
structure Telegram where
  urgency : BitVec 3
  origin  : Station
  group   : Byte
  kind    : TelegramKind
  hold    : Bool
  again   : Bool
  data    : List Byte
deriving DecidableEq, Repr

/-- The code of a telegram kind in bits 7 and 6 of the control byte. -/
def TelegramKind.code : TelegramKind → BitVec 2
  | .publish => 0 | .ask => 1 | .reply => 2 | .command => 3

/-- The telegram kind of a code. -/
def TelegramKind.ofCode (c : BitVec 2) : TelegramKind :=
  if c = 0 then .publish else if c = 1 then .ask else if c = 2 then .reply else .command

/-- The 8-bit sum of bytes (R173). -/
def byteSum (bytes : List Byte) : Byte := bytes.foldl (· + ·) 0

/-- The control byte of a telegram (section 10.2): kind, data length, hold flag, repeat flag, 0. -/
def Telegram.control (m : Telegram) : Byte :=
  m.kind.code ++ BitVec.ofNat 3 m.data.length ++ BitVec.ofBool m.hold ++ BitVec.ofBool m.again ++ (0 : BitVec 1)

/-- The header and data bytes of a telegram. -/
def Telegram.body (m : Telegram) : List Byte := (m.urgency ++ m.origin) :: m.group :: m.control :: m.data

/-- The bytes of a telegram on the line, the check byte last (section 10.2). -/
def Telegram.frame (m : Telegram) : List Byte := m.body ++ [~~~ (byteSum m.body)]

/-- What the receiver makes of the bytes of a telegram that it has taken whole: `none` where the length field or the sum
discards it (R173). -/
def readFrame (bytes : List Byte) : Option Telegram :=
  match bytes with
  | contention :: group :: control :: rest =>
    let n := (control.extractLsb' 3 3).toNat
    if n ≤ 6 ∧ rest.length = n + 1 ∧ byteSum bytes = 0xFF then
      some { urgency := contention.extractLsb' 5 3, origin := contention.extractLsb' 0 5, group,
             kind := .ofCode (control.extractLsb' 6 2), hold := control.getLsbD 2, again := control.getLsbD 1,
             data := rest.take n }
    else none
  | _ => none

/-- The four acceptance tests of R173 on a reception: recessive stop bits, start bits begun within 2 byte times of the byte
before, a length field of 0 to 6 that the bytes fill, and a sum of FFH. -/
def receive (reception : List RxByte) : Option Telegram :=
  if reception.all (·.stopIsOne) ∧ (reception.drop 1).all (fun b => b.delay ≤ 2560) then
    readFrame (reception.map (·.value))
  else none

/-! ## Operand checks -/

/-- The kind and group pairs that the part takes (R182). -/
def takes (kind : RequestKind) (group : Byte) : Bool :=
  match kind with
  | .ask => group = 0x40 ∨ group = 0x41 ∨ group = 0x42 ∨ group = 0x50 ∨ group = 0x51 ∨ group = 0x52 ∨ group = 0x53
  | .command => 0x60 ≤ group.toNat ∧ group.toNat ≤ 0x67

/-! ## Values taken from a PUBLISH telegram -/

/-- Whether a subscription matches a telegram (R3). -/
def Subscription.matchesTelegram (e : Subscription) (m : Publish) : Bool :=
  e.enabled ∧ e.origin = m.origin ∧ e.group = m.group

/-- The value that a matching subscription takes, if the telegram is long enough (R3). -/
def Subscription.taken (e : Subscription) (m : Publish) : Option Nat :=
  if e.offset + e.width ≤ m.data.length then some (numberOf ((m.data.drop e.offset).take e.width)) else none

/-- The subscriptions that a telegram feeds, with the values taken, in entry order (R3, R4). -/
def feeds (subs : Vector Subscription 16) (m : Publish) : List (Subscription × Nat) :=
  subs.toList.filterMap fun e =>
    if e.matchesTelegram m then (e.taken m).map fun v => (e, v) else none

end Sys2Proof.Machine
end

