-- ==== Sys2Proof/Machine/LineOps.lean ====
section
/-! DEFINITION. The named operations of the Line Station (chapter 10) on its own state: the transmit queue and its rotation (R176 to
R179), the pending-answer list (R184) and the standing-ask list (R185, R186). -/

namespace Sys2Proof.Machine

/-! ## The transmit queue -/

/-- The code of a reply status (R183). -/
def Status.code : Status → Byte
  | .done => 0 | .busy => 1 | .held => 2 | .notHeld => 3 | .locked => 4 | .noLatch => 5 | .badComplement => 6
  | .notNow => 7 | .failed => 8 | .aborted => 9 | .unknown => 10

/-- The cap of a source (R176). -/
def TxSource.cap : TxSource → Nat
  | .fault => 1 | .reply => 2 | .status => 1 | .trip => 2 | .standing => 2

/-- The urgency of a source (R176). -/
def TxSource.urgency : TxSource → BitVec 3
  | .fault => 1 | .reply => 2 | .status => 4 | .trip => 5 | .standing => 6

/-- A PUBLISH telegram of the part. -/
def publishEntry (source : TxSource) (group : Byte) (data : List Byte) : TxEntry :=
  { source, kind := .publish, group, target := none, index := 0, data, attempts := 0, inFlight := false, followOn := none }

/-- The data bytes of a REPLY (R183). -/
def replyData (asker : Station) (status : Status) (values : List Byte) : List Byte :=
  asker.setWidth 8 :: status.code :: fourBytes values

/-- A REPLY of the pending-answer list or of a standing ask (R183). -/
def replyEntry (source : TxSource) (asker : Station) (group index : Byte) (status : Status) (values : List Byte) : TxEntry :=
  { source, kind := .reply, group, target := some asker, index, data := replyData asker status values, attempts := 0,
    inFlight := false, followOn := none }

/-- The same kind, group and target (R176). -/
def TxEntry.matchesEntry (a b : TxEntry) : Bool := a.kind = b.kind && a.group = b.group && a.target = b.target

/-- Whether an attempt is in flight. -/
def Line.sending (l : Line) : Bool := l.queue.any (·.inFlight)

/-- The entry in flight. -/
def Line.flying (l : Line) : Option TxEntry := l.queue.find? (·.inFlight)

/-- Whether a source has an entry queued. -/
def Line.has (l : Line) (s : TxSource) : Bool := l.queue.any fun e => e.source = s

/-- The source of a LOW rotation position. -/
def TxLow.source : TxLow → TxSource
  | .status => .status | .trip => .trip | .standing => .standing

/-- The LOW sources in cyclic order, beginning after the pointer (R177). -/
def TxLow.after : TxLow → List TxLow
  | .status => [.trip, .standing, .status]
  | .trip => [.standing, .status, .trip]
  | .standing => [.status, .trip, .standing]

/-- The HIGH positions in cyclic order, beginning after the pointer (R177). -/
def TxHigh.after : TxHigh → List TxHigh
  | .fault => [.reply, .low, .fault]
  | .reply => [.low, .fault, .reply]
  | .low => [.fault, .reply, .low]

/-- The source that a HIGH position serves, where it qualifies (R177). -/
def Line.servedAt (l : Line) : TxHigh → Option TxSource
  | .fault => if l.has .fault then some .fault else none
  | .reply => if l.has .reply then some .reply else none
  | .low => (l.lowPtr.after.find? fun x => l.has x.source).map (·.source)

/-- The source that the rotation serves (R177). -/
def Line.chosenSource (l : Line) : Option TxSource := l.highPtr.after.findSome? l.servedAt

/-- The first entry of a list that satisfies a test, changed. -/
def mapFirst {α : Type} (test : α → Bool) (f : α → α) : List α → List α
  | [] => []
  | x :: rest => if test x then f x :: rest else x :: mapFirst test f rest

/-- The transmit choice (R177): on an idle line, with no attempt in flight and the wire not held dominant, the first entry of
the source served goes in flight. -/
def Line.choose (l : Line) : Line :=
  if l.idle && !l.stuck && !l.sending then
    match l.chosenSource with
    | some src => { l with queue := mapFirst (fun e => e.source = src) (fun e => { e with inFlight := true }) l.queue,
                           idle := false }
    | none => l
  else l

/-- The start bit of another station's telegram (R172): the line is not idle, the wire has read recessive since any stuck run, and
a telegram abandoned after a collision has ended, one that begins within the gap being taken. The receiver woken by LINE
waits for the gap all the same (R191). -/
def Line.startBit (l : Line) : Line :=
  { l with idle := false, stuck := false, receiver := if l.receiver = .abandoned then .listens else l.receiver }

/-- The telegram that an entry is sent as by a station (R176, R183, R188): the urgency of its source, the station as origin, the
hold flag 0, and the repeat flag set for a standing reply. -/
def TxEntry.telegram (station : Station) (e : TxEntry) : Telegram :=
  { urgency := e.source.urgency, origin := station, group := e.group,
    kind := match e.kind with | .publish => .publish | .reply => .reply
    hold := false, again := e.source = .standing, data := e.data }

/-- The bytes that the attempt in flight puts on the wire (R172, R178). -/
def Line.wire (station : Station) (l : Line) : List Byte :=
  match l.flying with
  | some e => (e.telegram station).frame
  | none => []

/-- A telegram handed on (R176): it joins at the end of the join order, replaces the data of its like, or waits as follow-on
data; on an idle line the transmitter sends it as soon as it joins (R187). -/
def Line.handOn (e : TxEntry) (l : Line) : Line :=
  let queue :=
    if l.queue.any e.matchesEntry then
      mapFirst e.matchesEntry
        (fun q => if q.inFlight then { q with followOn := some e.data } else { q with data := e.data }) l.queue
    else l.queue ++ [e]
  { l with queue }.choose

/-- How many entries of a source the queue holds (R176). -/
def Line.entries (l : Line) (source : TxSource) : Nat := l.queue.countP fun e => e.source = source

/-- Whether a reply to an asker and group is queued, of whatever source (R176, R186). -/
def Line.repliesTo (l : Line) (asker : Station) (group : Byte) : Bool :=
  l.queue.any fun e => e.kind = .reply && e.group = group && e.target = some asker

/-- Whether a reply of a source can join (R176, R184, R186): below the cap, and no reply to the same asker and group queued. -/
def Line.canReply (l : Line) (source : TxSource) (asker : Station) (group : Byte) : Bool :=
  l.entries source < source.cap && !l.repliesTo asker group

/-- The rotation pointers after a success (R177). -/
def Line.served (source : TxSource) (l : Line) : Line :=
  match source with
  | .fault => { l with highPtr := .fault }
  | .reply => { l with highPtr := .reply }
  | .status => { l with highPtr := .low, lowPtr := .status }
  | .trip => { l with highPtr := .low, lowPtr := .trip }
  | .standing => { l with highPtr := .low, lowPtr := .standing }

/-! ## The pending-answer list -/

/-- An entry's key: asker, group and index (R184). -/
def PendingAnswer.isFor (p : PendingAnswer) (asker : Station) (group index : Byte) : Bool :=
  p.asker = asker && p.group = group && p.index = index

/-- The owner's answer: the WAITING entry becomes READY and stands last among the READY ones (R184). -/
def Line.answer (asker : Station) (group index : Byte) (status : Status) (values : List Byte) (l : Line) : Line :=
  let mine (p : PendingAnswer) : Bool := p.isFor asker group index && p.stage = .waiting
  if l.pending.any mine then
    { l with pending := l.pending.filter (fun p => !mine p) ++
               [{ asker, group, index, stage := .ready status (fourBytes values) }] }
  else l

/-- A READY entry joins the transmit queue where it can (R184). -/
def Line.joinOne (l : Line) (p : PendingAnswer) : Line :=
  match p.stage with
  | .ready status values =>
    if l.canReply .reply p.asker p.group then
      { l with pending := mapFirst (· = p) (fun p => { p with stage := .queued }) l.pending }.handOn
        (replyEntry .reply p.asker p.group p.index status values)
    else l
  | _ => l

/-- The READY entries join in the order in which they became READY (R184). -/
def Line.joinReady (l : Line) : Line := l.pending.foldl Line.joinOne l

/-- A reply made without a pending-answer entry: it joins at once or is dropped (R184). -/
def Line.replyAtOnce (asker : Station) (group index : Byte) (status : Status) (l : Line) : Line :=
  if l.canReply .reply asker group then l.handOn (replyEntry .reply asker group index status []) else l

/-- The QUEUED entry of a reply that succeeded or was discarded leaves the list (R184, R179). -/
def Line.replyGone (asker : Station) (group : Byte) (l : Line) : Line :=
  { l with pending := l.pending.filter fun p => !(p.asker = asker && p.group = group && p.stage = .queued) }

/-! ## The standing-ask list -/

/-- A registration's key (R185). -/
def StandingAsk.isFor (r : StandingAsk) (asker : Station) (group index : Byte) : Bool :=
  r.asker = asker && r.group = group && r.index = index

/-- A registration removed. -/
def Line.dropStanding (asker : Station) (group index : Byte) (l : Line) : Line :=
  { l with standing := l.standing.filter fun r => !r.isFor asker group index }

/-- A registration changed in place. -/
def Line.setStanding (r : StandingAsk) (l : Line) : Line :=
  { l with standing := l.standing.map fun x => if x.isFor r.asker r.group r.index then r else x }

/-- What an ask with the repeat flag and the answer DONE does to the list (R185): the status it is answered with. -/
def Line.register (now : Stamp) (asker : Station) (group index : Byte) (values : List Byte) (l : Line) : Status × Line :=
  match l.standing.find? (fun r => r.isFor asker group index) with
  | some r => (.done, l.setStanding { r with last := values })
  | none =>
    if l.standing.length < 4 then
      (.done, { l with standing := l.standing ++
        [{ asker, group, index, last := values, spacing := startTimer now 100, due := false }] })
    else (.busy, l)

/-- A standing reply queued for a registration and not in flight, be it from a registration of the same key made before: log entry
66. -/
def StandingAsk.queuedIn (r : StandingAsk) (e : TxEntry) : Bool :=
  e.source = .standing && e.group = r.group && e.target = some r.asker && e.index = r.index && !e.inFlight

/-- A standing reply placed (R186, third case). -/
def Line.placeStanding (now : Stamp) (r : StandingAsk) (values : List Byte) (l : Line) : Line :=
  (l.setStanding { r with last := values, spacing := startTimer now 100, due := false }).handOn
    (replyEntry .standing r.asker r.group r.index .done values)

/-- A report to one registration with the bytes its group and index would now give (R186). -/
def Line.reportStanding (now : Stamp) (r : StandingAsk) (values : List Byte) (l : Line) : Line :=
  if values = r.last then l
  else if l.queue.any r.queuedIn then
    { l with queue := mapFirst r.queuedIn (fun e => { e with data := replyData r.asker .done values }) l.queue }.setStanding
      { r with last := values }
  else if r.spacing.isSome || !l.canReply .standing r.asker r.group then l.setStanding { r with due := true }
  else l.placeStanding now r values

/-- Whether an event that took the line from `before` to `l` lets a registration try again (R186): its spacing timer has expired,
the queue has freed a STANDING place, or the reply that stood in its way has left. -/
def StandingAsk.mayTry (before l : Line) (r : StandingAsk) : Bool :=
  (r.spacing.isNone && before.standing.any fun x => x.isFor r.asker r.group r.index && x.spacing.isSome) ||
  decide (l.entries .standing < before.entries .standing) ||
  (before.repliesTo r.asker r.group && !l.repliesTo r.asker r.group)

/-- A due registration tries again with its bytes built afresh (R186): with the bytes last sent it is due no longer, and with
others it joins by the third case. One that the third case does not admit stays due, as by the second: log entry 33. -/
def Line.retryStanding (now : Stamp) (r : StandingAsk) (values : List Byte) (l : Line) : Line :=
  if values = r.last then l.setStanding { r with due := false }
  else if r.spacing.isNone && l.canReply .standing r.asker r.group then l.placeStanding now r values
  else l

end Sys2Proof.Machine
end

