-- ==== Sys2Proof/Machine/Chime.lean ====
section
/-! DEFINITION. The named operations of the Chime Arbiter (chapter 6) on its own state. `now` is the time base, `ttp` the configured
time-to-preempt in milliseconds, absent for OFF. -/

namespace Sys2Proof.Machine

/-- The length of a pattern's phrase in milliseconds (R102). -/
def phraseLength : Pattern → Nat
  | .single => 600
  | .triple => 1200
  | .slow => 4000
  | .fast => 2000
  | .tone => 2000

/-- The times at which a pattern's strikes begin, in milliseconds from the grant (R102). -/
def strikeTimes : Pattern → List Nat
  | .single => [0]
  | .triple => [0, 300, 600]
  | .slow => [0, 1000, 2000, 3000]
  | .fast => [0, 250, 500, 750, 1000, 1250, 1500, 1750]
  | .tone => []

/-- The length of a strike, and the least time a phrase sounds before a cut (R102, R110). -/
def strikeLength : Nat := 150

/-- The gap after a phrase (R111). -/
def gapLength : Nat := 200

/-- Whether an entry's request stands in the set. -/
def Chime.requested (c : Chime) (e : EntryId) : Bool := c.requests[e].isSome

/-- Whether a request other than the holder's stands in the set (R109). -/
def Chime.othersWait (c : Chime) : Bool :=
  (List.finRange 16).any fun e => c.requested e && c.holder ≠ some e

/-- The entry numbers 0 to 15 in cyclic order, beginning after a pointer (R107). -/
def cyclicAfter (p : EntryId) : List EntryId := (List.range 16).map fun k => Fin.ofNat 16 (p.val + 1 + k)

/-- Whether an entry's request stands in the set with a class. -/
def Chime.waits (c : Chime) (k : ChimeClass) (e : EntryId) : Bool :=
  match c.requests[e] with
  | some r => r.chimeClass = k
  | none => false

/-- The HIGH entries that the scan passes before the LOW position, and those after it (R107). -/
def Chime.highScan (c : Chime) : List EntryId × List EntryId :=
  match c.highPtr with
  | none => (List.finRange 16, [])
  | some p => ((List.finRange 16).filter (fun e => p < e), (List.finRange 16).filter (fun e => e ≤ p))

/-- The entry that the rotation serves, and whether it is served at the LOW position (R107). -/
def Chime.choose (c : Chime) : Option (EntryId × Bool) :=
  let scan := c.highScan
  match scan.1.find? (c.waits .high) with
  | some e => some (e, false)
  | none =>
    match (cyclicAfter c.lowPtr).find? (c.waits .low) with
    | some e => some (e, true)
    | none => (scan.2.find? (c.waits .high)).map fun e => (e, false)

/-- The preempt timer started, where the time-to-preempt is not OFF (R109). -/
def Chime.startPreempt (now : Stamp) (ttp : Option Nat) (c : Chime) : Chime :=
  { c with preempt := match ttp with | some ms => startTimer now ms | none => none }

/-- The grant of the chime to an entry (R106 to R108): the pointers move, the phrase begins with its first strike or tone, and
the preempt timer starts where other requests wait. -/
def Chime.grant (now : Stamp) (ttp : Option Nat) (c : Chime) : Chime :=
  match c.choose with
  | none => { c with phase := .idle }
  | some (e, low) =>
    let pattern := match c.requests[e] with | some r => r.pattern | none => .single
    let strikes := strikeTimes pattern
    let c := { c with
      phase := .sounding, holder := some e, pattern := pattern, granted := now,
      nextStrike := if strikes = [] then 0 else 1,
      strikeTimer := (strikes[1]?).bind fun ms => startTimer now ms,
      strikeEnd := if strikes = [] then none else startTimer now strikeLength,
      phraseTimer := startTimer now (phraseLength pattern),
      highPtr := if low then none else some e,
      lowPtr := if low then e else c.lowPtr,
      preempt := none, cutPending := false, cutTimer := none, gapTimer := none,
      output := if strikes = [] then .tone else .strike }
    if c.othersWait then c.startPreempt now ttp else c

/-- The grant decision of R106 once the event that called for it has been taken whole: made in IDLE where a request waits. -/
def Chime.settle (now : Stamp) (ttp : Option Nat) (c : Chime) : Chime :=
  if c.phase = .idle ∧ (List.finRange 16).any c.requested then c.grant now ttp else c

/-- A request joins the set (R105); in SOUNDING the first to wait starts the preempt timer (R109). -/
def Chime.place (now : Stamp) (ttp : Option Nat) (e : EntryId) (r : ChimeRequest) (c : Chime) : Chime :=
  let waited := c.othersWait
  let c := { c with requests := c.requests.set e (some r) }
  if c.phase = .sounding && !waited && c.othersWait && !c.cutPending then c.startPreempt now ttp else c

/-- The phrase in progress ended: the output silent, no holder, its timers stopped. -/
def Chime.silence (c : Chime) : Chime :=
  { c with holder := none, output := .silent, strikeTimer := none, strikeEnd := none, phraseTimer := none,
           preempt := none, cutPending := false, cutTimer := none }

/-- A request leaves the set (R105). The holder's phrase ends at once without a gap (R112); otherwise the preempt timer
stops where no request waits any longer (R109). -/
def Chime.withdraw (e : EntryId) (c : Chime) : Chime :=
  let c := { c with requests := c.requests.set e none }
  if c.phase = .sounding ∧ c.holder = some e then { c.silence with phase := .idle }
  else if c.phase = .sounding ∧ !c.othersWait then { c with preempt := none, cutPending := false, cutTimer := none }
  else c

/-- The end of a phrase by completion or cut (R111, steps 1 and 2); step 3 is the Warning Monitor's. -/
def Chime.endPhrase (now : Stamp) (c : Chime) : Chime :=
  { c.silence with phase := .gap, gapTimer := startTimer now gapLength }

/-- Whether the preempt expiry cuts at once (R110): a TONE that has sounded 150 ms, a strike pattern between strikes. -/
def Chime.cutsNow (now : Stamp) (c : Chime) : Bool :=
  if c.pattern = .tone then strikeLength ≤ now.since c.granted else c.strikeEnd.isNone

/-- A cut that waits: for the end of the strike now sounding, or for 150 ms of a TONE (R110). -/
def Chime.awaitCut (c : Chime) : Chime :=
  { c with preempt := none, cutPending := true,
           cutTimer := if c.pattern = .tone then startTimer c.granted strikeLength else c.strikeEnd }

/-- A strike begins (R102). -/
def Chime.strike (now : Stamp) (c : Chime) : Chime :=
  { c with nextStrike := c.nextStrike + 1
           strikeTimer := ((strikeTimes c.pattern)[c.nextStrike + 1]?).bind fun ms => startTimer c.granted ms
           strikeEnd := startTimer now strikeLength
           output := .strike }

/-- A strike ends with no cut pending: silence until the next (R102). -/
def Chime.endStrike (c : Chime) : Chime := { c with strikeEnd := none, output := .silent }

/-- The arbiter at entry to ASLEEP (R104). -/
def Chime.sleep (c : Chime) : Chime :=
  { c.silence with phase := .idle, requests := Vector.replicate 16 none, gapTimer := none }

end Sys2Proof.Machine
end

