-- ==== Sys2Proof/Machine/Text.lean ====
section
/-! DEFINITION. What the display shows as characters (sections 7.6 and 7.7): page lines, message texts and the odometer field. -/

namespace Sys2Proof.Machine

/-- A number in decimal digits without leading zeros. -/
def digits (n : Nat) : List Char := Nat.toDigits 10 n

/-- A figure in tenths with one decimal (R129). -/
def tenthsText (n : Nat) : List Char := digits (n / 10) ++ ['.'] ++ digits (n % 10)

/-- Minutes as hours and two digits of minutes (R129). -/
def timeText (minutes : Nat) : List Char :=
  digits (minutes / 60) ++ [':'] ++ digits (minutes % 60 / 10) ++ digits (minutes % 60 % 10)

/-- A whole number with a minus sign where it is negative (R129). -/
def signedText (x : Int) : List Char := if x < 0 then '-' :: digits x.natAbs else digits x.natAbs

/-- Text right-aligned in a field. -/
def alignRight (n : Nat) (t : List Char) : List Char := List.replicate (n - t.length) ' ' ++ t

/-- Text left-aligned in a field. -/
def alignLeft (n : Nat) (t : List Char) : List Char := t ++ List.replicate (n - t.length) ' '

/-- The figure of no value (R129). -/
def dashes : List Char := ['-', '-', '-', '-']

/-- The text of a figure, or four dashes where it is no value. -/
def figureText (f : Nat → List Char) : Option Nat → List Char
  | some n => f n
  | none => dashes

/-- An outside temperature in the seven value positions; one too wide for them is a free value (log entry 8). -/
def temperatureText (x : Int) : List Char :=
  if (signedText x).length ≤ 7 then signedText x else alignRight 7 ((Config.overlongTemperature x).take 7)

/-- The label of a page, five characters (R129). -/
def pageLabel : Page → List Char
  | .distance .a => ['A', ' ', 'D', 'S', 'T']
  | .avgSpeed .a => ['A', ' ', 'S', 'P', 'D']
  | .avgCons .a => ['A', ' ', 'C', 'N', 'S']
  | .fuelUsed .a => ['A', ' ', 'F', 'U', 'L']
  | .time .a => ['A', ' ', 'T', 'I', 'M']
  | .distance .b => ['B', ' ', 'D', 'S', 'T']
  | .avgSpeed .b => ['B', ' ', 'S', 'P', 'D']
  | .avgCons .b => ['B', ' ', 'C', 'N', 'S']
  | .fuelUsed .b => ['B', ' ', 'F', 'U', 'L']
  | .time .b => ['B', ' ', 'T', 'I', 'M']
  | .range => ['R', 'A', 'N', 'G', 'E']
  | .outsideTemp => ['O', 'U', 'T', ' ', 'T']

/-- The unit suffix of a page by the UNITS strap (R129). -/
def pageSuffix (u : Units) : Page → List Char
  | .distance _ => if u = .metric then ['k', 'm'] else ['m', 'i']
  | .avgSpeed _ => if u = .metric then ['k', 'm', '/', 'h'] else ['m', 'p', 'h']
  | .avgCons _ => if u = .metric then ['L', '1', '0', '0'] else ['m', 'p', 'g']
  | .fuelUsed _ => ['L']
  | .time _ => ['h']
  | .range => if u = .metric then ['k', 'm'] else ['m', 'i']
  | .outsideTemp => ['°', 'C']

/-- A trip record by its name. -/
def Trip.record (x : Trip) : TripName → TripRecord
  | .a => x.a
  | .b => x.b

/-- The figure of a page in PRIMARY role (R76). -/
def primaryFigure (s : State) : Page → List Char
  | .distance n => tenthsText (tripTenths s.image.params.p (s.trip.record n))
  | .avgSpeed n => figureText tenthsText (averageSpeed s.image.params.p (s.trip.record n))
  | .avgCons n =>
    figureText tenthsText (averageConsumption s.key.units s.image.params.p s.image.params.q (s.trip.record n))
  | .fuelUsed n => tenthsText (fuelUsed s.image.params.q (s.trip.record n))
  | .time n => timeText (min ((s.trip.record n).secs / 60) 5999)
  | .range => figureText digits (primaryRange s)
  | .outsideTemp => match slotValue s 7 with | some v => temperatureText ((v : Int) - 40) | none => dashes

/-- The figure of a page in MIRROR role (R77); the pages a mirror drops from its list show no value. -/
def mirrorFigure (s : State) : Page → List Char
  | .distance .a => figureText (fun v => tenthsText (min v 999999)) (slotValue s 14)
  | .avgCons .a => figureText (fun v => tenthsText (min v 999)) (slotValue s 15)
  | .avgSpeed .a => figureText (fun v => tenthsText (min v 3000)) (slotValue s 17)
  | .time .a => figureText (fun v => timeText (min v 5999)) (slotValue s 18)
  | .range => figureText (fun v => digits (min v 999)) (slotValue s 16)
  | .outsideTemp => match slotValue s 7 with | some v => temperatureText ((v : Int) - 40) | none => dashes
  | _ => dashes

/-- The current page: a position in the page list (R72). -/
def currentPage (s : State) : Page := s.image.params.pages.getD s.trip.page .range

/-- The sixteen characters of the current page (R129). -/
def pageLine (s : State) : List Char :=
  let pg := currentPage s
  alignLeft 5 (pageLabel pg) ++ alignRight 7 (if s.primary then primaryFigure s pg else mirrorFigure s pg)
    ++ alignLeft 4 (pageSuffix s.key.units pg)

/-- The text of a message id (R130). -/
def messageText : Nat → List Char
  | 1 => ['F', 'A', 'S', 'T', 'E', 'N', ' ', 'S', 'E', 'A', 'T', ' ', 'B', 'E', 'L', 'T']
  | 2 => ['K', 'E', 'Y', ' ', 'I', 'N', ' ', 'I', 'G', 'N', 'I', 'T', 'I', 'O', 'N']
  | 3 => ['L', 'I', 'G', 'H', 'T', 'S', ' ', 'O', 'N']
  | 4 => ['D', 'O', 'O', 'R', ' ', 'O', 'P', 'E', 'N']
  | 5 => ['L', 'O', 'W', ' ', 'F', 'U', 'E', 'L']
  | 6 => ['E', 'N', 'G', 'I', 'N', 'E', ' ', 'H', 'O', 'T']
  | 7 => ['O', 'I', 'L', ' ', 'P', 'R', 'E', 'S', 'S', 'U', 'R', 'E']
  | 8 => ['C', 'H', 'A', 'R', 'G', 'E', ' ', 'F', 'A', 'U', 'L', 'T']
  | 9 => ['B', 'R', 'A', 'K', 'E', ' ', 'F', 'L', 'U', 'I', 'D', ' ', 'L', 'O', 'W']
  | 10 => ['W', 'A', 'S', 'H', 'E', 'R', ' ', 'L', 'O', 'W']
  | 11 => ['H', 'A', 'N', 'D', 'B', 'R', 'A', 'K', 'E', ' ', 'O', 'N']
  | 12 => ['E', 'N', 'G', 'I', 'N', 'E', ' ', 'C', 'H', 'E', 'C', 'K']
  | 13 => ['B', 'O', 'O', 'T', ' ', 'O', 'P', 'E', 'N']
  | 14 => ['B', 'O', 'N', 'N', 'E', 'T', ' ', 'O', 'P', 'E', 'N']
  | 15 => ['I', 'C', 'E', ' ', 'W', 'A', 'R', 'N', 'I', 'N', 'G']
  | 16 => ['R', 'A', 'N', 'G', 'E', ' ', 'L', 'O', 'W']
  | 17 => ['S', 'P', 'E', 'E', 'D', ' ', 'W', 'A', 'R', 'N', 'I', 'N', 'G']
  | 18 => ['C', 'H', 'E', 'C', 'K', ' ', 'C', 'L', 'U', 'S', 'T', 'E', 'R']
  | 19 => ['P', 'A', 'R', 'K', ' ', 'L', 'A', 'M', 'P', 'S', ' ', 'O', 'N']
  | 20 => ['S', 'V', 'C', ' ', 'S', 'O', 'O', 'N', ':', ' ', 'D', 'I', 'S', 'T']
  | 21 => ['S', 'V', 'C', ' ', 'S', 'O', 'O', 'N', ':', ' ', 'D', 'A', 'Y', 'S']
  | 22 => ['S', 'V', 'C', ' ', 'S', 'O', 'O', 'N', ':', ' ', 'W', 'E', 'A', 'R']
  | 23 => ['S', 'V', 'C', ' ', 'D', 'U', 'E', ':', ' ', 'D', 'I', 'S', 'T']
  | 24 => ['S', 'V', 'C', ' ', 'D', 'U', 'E', ':', ' ', 'D', 'A', 'Y', 'S']
  | 25 => ['S', 'V', 'C', ' ', 'D', 'U', 'E', ':', ' ', 'W', 'E', 'A', 'R']
  | 26 => ['S', 'V', 'C', ' ', 'O', 'V', 'E', 'R', 'D', 'U', 'E', ':', 'D', 'I', 'S', 'T']
  | 27 => ['S', 'V', 'C', ' ', 'O', 'V', 'E', 'R', 'D', 'U', 'E', ':', 'D', 'A', 'Y', 'S']
  | 28 => ['S', 'V', 'C', ' ', 'O', 'V', 'E', 'R', 'D', 'U', 'E', ':', 'W', 'E', 'A', 'R']
  | 29 => ['C', 'H', 'E', 'C', 'K', ' ', 'G', 'A', 'U', 'G', 'E', 'S']
  | 30 => ['P', 'A', 'S', 'S', 'E', 'N', 'G', 'E', 'R', ' ', 'B', 'E', 'L', 'T']
  | 31 => ['C', 'A', 'L', 'L', ' ', 'S', 'E', 'R', 'V', 'I', 'C', 'E']
  | _ => []

/-- The sixteen characters of a message (R129). -/
def messageLine (id : Nat) : List Char := alignLeft 16 (messageText id)

/-- The sixteen spaces of BLANK (section 7.1). -/
def blankLine : List Char := List.replicate 16 ' '

/-- The odometer field when lit: its seven digit positions, the leftmost first, a blank one being a space, and whether the point
before the last of them is lit (section 7.7). -/
structure OdometerField where
  positions : List Char
  point     : Bool
deriving DecidableEq, Repr

/-- The odometer field, none while it is unlit (R131): T right-aligned with one decimal and leading zeros blank, seven dashes in
a mirror. It shows the live value, so it is a function of the state. -/
def odometerField (s : State) : Option OdometerField :=
  if s.display.mode = .page ∨ s.display.mode = .message then
    some (if s.primary then
        { positions := alignRight 7 (digits (s.integ.tenths / 10) ++ digits (s.integ.tenths % 10)), point := true }
      else { positions := List.replicate 7 '-', point := false })
  else none

end Sys2Proof.Machine
end

