-- ==== Sys2Proof/Machine/Messages.lean ====
section
/-! DEFINITION. The named operations of the Display Controller (chapter 7) on its own state. What they read of the rest of the part comes
in as a `DisplayView`. -/

namespace Sys2Proof.Machine

/-- What the Display Controller reads: the time base, the mode that an empty queue gives (R116), and the line of the current
page (R128). -/
structure DisplayView where
  now   : Stamp
  empty : DisplayMode
  page  : List Char
deriving DecidableEq, Repr

/-- The view of a state: DARK in ASLEEP and until the start-up sequence has taken the key state, BLANK with the key OFF, PAGE
with the key at ACC or RUN (R116). -/
def State.displayView (s : State) : DisplayView :=
  { now := s.now
    empty := if !s.awake || !s.key.started then .dark else if s.key.key = .off then .blank else .page
    page := pageLine s }

/-- The minimum time of a shown message, the rotation, the refresh, in milliseconds (R123, R124, R128). -/
def minimumMillis : Nat := 2000
def rotationMillis : Nat := 3000
def refreshMillis : Nat := 250

/-- The eligible set in queue order (R122). -/
def eligible (q : List Message) : List Message :=
  match q with
  | [] => []
  | head :: _ => if head.duration.isSome then [head]
                 else q.filter fun m => m.duration.isNone && m.priority = head.priority

/-- Whether an id is among some entries. -/
def hasId (q : List Message) (id : Nat) : Bool := q.any fun m => m.id = id

/-- An entry of the queue changed in place. -/
def updateId (q : List Message) (id : Nat) (f : Message → Message) : List Message :=
  q.map fun m => if m.id = id then f m else m

/-- A new entry joins after every entry of the same or higher rank (R118). -/
def insertMessage (q : List Message) (m : Message) : List Message :=
  q.filter (fun x => x.priority ≤ m.priority) ++ [m] ++ q.filter (fun x => m.priority < x.priority)

/-- Whether the shown message is PERSISTENT. -/
def Display.shownPersists (d : Display) : Bool :=
  match d.shown with
  | some id => d.queue.any fun m => m.id = id && m.duration.isNone
  | none => false

/-- The rotation timer after a change (R124): it runs while two or more are eligible and the shown message is PERSISTENT, and
a change that leaves this so does not restart it. -/
def Display.keepRotation (now : Stamp) (d : Display) : Display :=
  if d.shownPersists ∧ 2 ≤ (eligible d.queue).length then
    if d.rotation.isSome then d else { d with rotation := startTimer now rotationMillis }
  else { d with rotation := none }

/-- A message begins to be shown (R122): the minimum timer starts, the rotation timer starts or stops, a TIMED entry shown for
the first time starts its duration, and the text is drawn. -/
def Display.beginShow (now : Stamp) (id : Nat) (d : Display) : Display :=
  let d := { d with
    shown := some id, minimum := startTimer now minimumMillis, switchPending := false, rotation := none,
    line := messageLine id,
    queue := updateId d.queue id fun m =>
      match m.duration, m.timer with
      | some secs, none => { m with timer := startTimer now (1000 * secs) }
      | _, _ => m }
  d.keepRotation now

/-- A switch: the first eligible entry begins to be shown (R122). -/
def Display.switch (now : Stamp) (d : Display) : Display :=
  match (eligible d.queue).head? with
  | some m => d.beginShow now m.id
  | none => d

/-- The comparison of the shown message with the eligible set after a change of the queue (R123). -/
def Display.compare (now : Stamp) (d : Display) : Display :=
  match d.shown with
  | none => d
  | some id =>
    if !hasId d.queue id then d.switch now
    else if hasId (eligible d.queue) id then { d with switchPending := false }.keepRotation now
    else if d.minimum.isSome then { d with switchPending := true }.keepRotation now
    else d.switch now

/-- MESSAGE mode left: nothing shown, its timers stopped (R116). -/
def Display.leaveMessage (d : Display) : Display :=
  { d with shown := none, minimum := none, rotation := none, switchPending := false }

/-- The page drawn afresh in PAGE mode (R128). -/
def Display.draw (v : DisplayView) (d : Display) : Display :=
  if d.mode = .page then { d with line := v.page } else d

/-- The mode that R116 gives. -/
def Display.wantedMode (v : DisplayView) (d : Display) : DisplayMode :=
  if v.empty = .dark then .dark else if d.queue.isEmpty then v.empty else .message

/-- The mode worked out again (R116). On entering MESSAGE nothing is shown yet, and on entering PAGE nothing is drawn yet: the
switch and the reading of the page follow once the event has been taken whole (`Display.settle`). -/
def Display.workOutMode (v : DisplayView) (d : Display) : Display :=
  let m := d.wantedMode v
  if m = d.mode then d
  else
    match m with
    | .dark => { d.leaveMessage with mode := .dark, refresh := none, line := [] }
    | .blank => { d.leaveMessage with mode := .blank, refresh := none, line := blankLine }
    | .page => { d.leaveMessage with mode := .page, refresh := startTimer v.now refreshMillis, line := [] }
    | .message => { d.leaveMessage with mode := .message, refresh := none }

/-- What follows a change of the queue: the mode (R116), then the comparison of R123. -/
def Display.queueChanged (v : DisplayView) (d : Display) : Display :=
  let d := d.workOutMode v
  if d.mode = .message then d.compare v.now else d

/-- What waits until the event has been taken whole: the switch on entering MESSAGE (R116, R123), and the reading of the page on
entering PAGE, whose figures are those after the event (R28, R128). -/
def Display.settle (v : DisplayView) (d : Display) : Display :=
  if d.mode = .message ∧ d.shown.isNone then d.switch v.now
  else if d.mode = .page ∧ d.line = [] then { d with line := v.page } else d

/-- A post as R118 describes it: `duration` is absent for PERSISTENT. -/
structure Post where
  id       : Nat
  priority : Nat
  duration : Option Nat
  poster   : Owner
deriving DecidableEq, Repr

/-- A post of an id already queued (R119). -/
def refreshMessage (now : Stamp) (p : Post) (m : Message) : Message :=
  match m.duration, p.duration with
  | none, none => if m.owners.contains p.poster then m else { m with owners := m.owners ++ [p.poster] }
  | none, some _ => m
  | some _, some secs =>
    { m with duration := some secs, timer := if m.timer.isSome then startTimer now (1000 * secs) else none }
  | some _, none =>
    let rest := m.owners.filter (· ≠ .service)
    { m with duration := none, timer := none, owners := if rest.contains p.poster then rest else rest ++ [p.poster] }

/-- A post (R118 to R120). Where it drops the tail, the comparison of R123 is made once, after the drop and the join: log entry
65. -/
def Display.post (v : DisplayView) (p : Post) (d : Display) : Display :=
  let entry : Message :=
    { id := p.id, priority := p.priority, stamp := v.now, duration := p.duration, timer := none, owners := [p.poster] }
  if hasId d.queue p.id then { d with queue := updateId d.queue p.id (refreshMessage v.now p) }.queueChanged v
  else if d.queue.length < 8 then { d with queue := insertMessage d.queue entry }.queueChanged v
  else
    match d.queue.getLast? with
    | some tail =>
      if p.priority < tail.priority then { d with queue := insertMessage d.queue.dropLast entry }.queueChanged v else d
    | none => d

/-- A withdrawal by an owner (R121). -/
def Display.withdraw (v : DisplayView) (id : Nat) (o : Owner) (d : Display) : Display :=
  if d.queue.any fun m => m.id = id && m.owners.contains o then
    { d with queue := (updateId d.queue id fun m => { m with owners := m.owners.filter (· ≠ o) }).filter
                        fun m => !m.owners.isEmpty }.queueChanged v
  else d

/-- An entry leaves the queue (R125, R127). -/
def Display.remove (v : DisplayView) (id : Nat) (d : Display) : Display :=
  { d with queue := d.queue.filter fun m => m.id ≠ id }.queueChanged v

/-- A change of key state: at OFF every TIMED entry leaves (R126); the mode is worked out again (R116). -/
def Display.keyChange (v : DisplayView) (toOff : Bool) (d : Display) : Display :=
  let q := if toOff then d.queue.filter (fun m => m.duration.isNone) else d.queue
  { d with queue := q }.queueChanged v

/-- The entry after the shown one in the eligible set, wrapping (R124). -/
def nextEligible (set : List Message) (id : Nat) : Option Nat :=
  match (set.map (·.id)).idxOf? id with
  | some i => (set[(i + 1) % set.length]?).map (·.id)
  | none => set.head?.map (·.id)

end Sys2Proof.Machine
end

