-- ==== Sys2Proof/Machine/Warnings.lean ====
section
/-! DEFINITION. The named operations of the Warning Monitor (sections 5.2 to 5.6) on the three blocks that warnings move: the Warning
Monitor, the Chime Arbiter and the Display Controller. They read the rest of the part, and change nothing else. -/

namespace Sys2Proof.Machine

/-- The blocks that a warning's change of state moves, and the changes of STATUS handed to the Line Station. -/
structure Alerts where
  monitor : Monitor
  chime   : Chime
  display : Display
  handed  : List (List Byte)
deriving DecidableEq, Repr

/-- The three blocks of a state. -/
def State.alerts (s : State) : Alerts :=
  { monitor := s.monitor, chime := s.chime, display := s.display, handed := s.handed.status }

/-- A state with the three blocks replaced. -/
def State.withAlerts (s : State) (a : Alerts) : State :=
  { s with monitor := a.monitor, chime := a.chime, display := a.display, handed := { s.handed with status := a.handed } }

/-- A change of bytes 3 to 5 of STATUS between two states handed to the Line Station (R95, R114, R138). -/
def State.handOver (before s : State) : State :=
  if statusTail s = statusTail before then s
  else { s with handed := { s.handed with status := s.handed.status ++ [statusTail s] } }

/-- An event that can change the contents of 41H and 42H reported to the Line Station (R81). -/
def State.reportTrip (s : State) : State := { s with handed := { s.handed with trip := true } }

/-- A change of the count of ACTIVE warnings or of the chime holder handed to the Line Station as soon as it is made, so that
each one made within an event is handed on (R114, R181). -/
def Alerts.tell (s : State) (a before : Alerts) : Alerts :=
  { a with handed := (State.handOver (s.withAlerts before) (s.withAlerts a)).handed.status }

/-! ## Lamps -/

/-- Whether a lamp is lit by its mapped warnings and its combine mode (R96). -/
def lampLit (image : Image) (active : List EntryId) (n : Fin 8) : Bool :=
  let mapped := (List.finRange 16).filter fun e => image.warnings[e].enabled && image.warnings[e].lamps.getLsbD n.val
  let anyOn := mapped.any fun e => active.contains e
  let allOn := mapped.all fun e => active.contains e
  match image.params.lampModes[n] with
  | .any => anyOn
  | .all => !mapped.isEmpty && allOn
  | .notAny => !anyOn
  | .notAll => mapped.isEmpty || !allOn

/-- The eight lamps from the active list (R96). -/
def lampsFrom (image : Image) (active : List EntryId) : BitVec 8 :=
  (List.finRange 8).foldl (fun w n => if lampLit image active n then w ||| (1#8 <<< n.val) else w) 0

/-- The lamps set from the list, outside the bulb check and once step 5 has given them over (R96, R97). -/
def Monitor.relight (image : Image) (m : Monitor) : Monitor :=
  if m.lampsLive && m.bulbTimer.isNone then { m with lamps := lampsFrom image m.active } else m

/-- The bulb check begins: all lamps lit for 3 s (R97). -/
def Monitor.startBulbCheck (now : Stamp) (m : Monitor) : Monitor :=
  { m with lamps := 0xFF, bulbTimer := startTimer now 3000 }

/-- The bulb check ends and the lamps are set from the list (R97). -/
def Monitor.endBulbCheck (image : Image) (m : Monitor) : Monitor := { m with bulbTimer := none }.relight image

/-! ## Tests -/

/-- The result of a test after an evaluation with a usable value x (R86). -/
def testResult (s : State) (t : Test) (hysteresis : Nat) (before : Bool) (x : Nat) : Bool :=
  match t.kind with
  | .above =>
    if t.arg < x then true
    else if (if t.arg ≤ hysteresis then x = 0 else x < t.arg - hysteresis) then false else before
  | .below =>
    if x < t.arg then true
    else if (if sourceTop s t.source ≤ t.arg + hysteresis then x = sourceTop s t.source else t.arg + hysteresis < x) then false
    else before
  | .bitSet => x.testBit t.arg
  | .bitClear => !x.testBit t.arg

/-- The result of a test whose source may be unusable, under loss behaviour FALSE (R87). -/
def testOrFalse (s : State) (t : Test) (hysteresis : Nat) (before : Bool) : Bool :=
  match sourceValue s t.source with
  | some x => testResult s t hysteresis before x
  | none => false

/-- The two test results and the condition after an evaluation (R87). -/
def judge (s : State) (d : WarningDef) (w : Warning) : Bool × Bool × Bool :=
  if !d.allows s.key.key then (w.result1, w.result2, false)
  else
    let lost (t : Test) : Bool := (sourceValue s t.source).isNone
    if d.lossHolds && (lost d.first || (match d.second with | some t => lost t | none => false)) then
      (w.result1, w.result2, w.condition)
    else
      let r1 := testOrFalse s d.first d.hysteresis w.result1
      match d.second with
      | none => (r1, w.result2, r1)
      | some t =>
        let r2 := testOrFalse s t 0 w.result2
        (r1, r2, r1 && r2)

/-! ## Moves of an entry -/

/-- An entry's own fields changed. -/
def Alerts.setEntry (a : Alerts) (e : EntryId) (w : Warning) : Alerts :=
  { a with monitor := { a.monitor with entries := a.monitor.entries.set e w } }

/-- The chime request and the message of an entry withdrawn. -/
def Alerts.withdrawBoth (s : State) (e : EntryId) (a : Alerts) : Alerts :=
  let d := s.image.warnings[e]
  { a with chime := a.chime.withdraw e
           display := if d.message = 0 then a.display else a.display.withdraw s.displayView d.message (.warning e) }

/-- Entry to ACTIVE, from PENDING (`fromPending`) or by a remind expiry (R90), the count being handed on last. -/
def Alerts.activate (s : State) (e : EntryId) (fromPending : Bool) (before : Alerts) : Alerts :=
  let d := s.image.warnings[e]
  let w := before.monitor.entries[e]
  let a := before.setEntry e { w with state := .active, phrases := 0, debounce := none, remind := none,
                                      stamp := if fromPending then s.now else w.stamp }
  let post : Post := { id := d.message, priority := if d.chimeClass = .high then 0 else 1, duration := none,
                       poster := .warning e }
  let a := if d.message = 0 then a else { a with display := a.display.post s.displayView post }
  let a := match d.pattern with
    | none => a
    | some p => { a with chime := a.chime.place s.now s.image.params.preempt e { chimeClass := d.chimeClass, pattern := p } }
  let a := if fromPending then { a with monitor := { a.monitor with active := a.monitor.active ++ [e] }.relight s.image } else a
  a.tell s before

/-- The condition of an INACTIVE entry became true (R89). -/
def Alerts.conditionTrue (s : State) (e : EntryId) (a : Alerts) : Alerts :=
  let d := s.image.warnings[e]
  let w := a.monitor.entries[e]
  if w.state ≠ .inactive then a
  else if d.debounce = 0 then (a.setEntry e { w with state := .pending }).activate s e true
  else a.setEntry e { w with state := .pending, debounce := startTimer s.now (100 * d.debounce) }

/-- The chime request and the message of an entry withdrawn, and its state then changed; a release of the grant and the change of
the count are handed on in that order (R92, R93). Log entry 41. -/
def Alerts.leaveActive (s : State) (e : EntryId) (w : Warning) (a : Alerts) : Alerts :=
  let withdrawn := (a.withdrawBoth s e).tell s a
  (withdrawn.setEntry e w).tell s withdrawn

/-- The condition became false: the entry goes to INACTIVE (R89, R92). -/
def Alerts.conditionFalse (s : State) (e : EntryId) (a : Alerts) : Alerts :=
  let w := a.monitor.entries[e]
  let w' := { w with state := .inactive, debounce := none, remind := none }
  match w.state with
  | .inactive => a
  | .pending => a.setEntry e w'
  | _ =>
    let a := a.leaveActive s e w'
    { a with monitor := { a.monitor with active := a.monitor.active.filter (· ≠ e) }.relight s.image }

/-- One entry evaluated (R87): its results, its condition, and the moves of R89 to R92 where the condition changed. -/
def evalEntry (s : State) (a : Alerts) (e : EntryId) : Alerts :=
  let d := s.image.warnings[e]
  if !d.enabled then a
  else
    let w := a.monitor.entries[e]
    let (r1, r2, c) := judge s d w
    let a := a.setEntry e { w with result1 := r1, result2 := r2, condition := c }
    if c = w.condition then a else if c then a.conditionTrue s e else a.conditionFalse s e

/-- The arbiter's decision once a report, press, key change or expiry has been taken whole by the Warning Monitor (R106). -/
def Alerts.settleChime (s : State) (a : Alerts) : Alerts :=
  { a with chime := a.chime.settle s.now s.image.params.preempt }.tell s a

/-- The entries of a list evaluated in order, each whole before the next, and then the arbiter's decision (R87, R106). -/
def evalEntries (s : State) (es : List EntryId) (a : Alerts) : Alerts := (es.foldl (evalEntry s) a).settleChime s

/-- The entries whose tests read one of some sources, in increasing order (R87). -/
def readers (s : State) (srcs : List Source) : List EntryId :=
  (List.finRange 16).filter fun e => srcs.any fun src => s.image.warnings[e].reads src

/-- A report of sources to the Warning Monitor (R87). -/
def State.reportSources (s : State) (srcs : List Source) : State := s.withAlerts (evalEntries s (readers s srcs) s.alerts)

/-- A key change taken by the Warning Monitor: every entry is evaluated (R87). -/
def State.evalAll (s : State) : State := s.withAlerts (evalEntries s (List.finRange 16) s.alerts)

/-- An acknowledgement of an entry (R93). -/
def Alerts.acknowledge (s : State) (e : EntryId) (a : Alerts) : Alerts :=
  let d := s.image.warnings[e]
  let w := a.monitor.entries[e]
  a.leaveActive s e { w with state := .acknowledged,
                             remind := if d.remind = 0 then none else startTimer s.now (60000 * d.remind) }

/-- Whether a press may acknowledge an entry: ACTIVE and acknowledgeable (R94). -/
def Alerts.mayAck (s : State) (a : Alerts) (e : EntryId) : Bool :=
  a.monitor.entries[e].state = .active && s.image.warnings[e].ackable

/-- The owners of the shown PERSISTENT message, or whether the shown message is TIMED (R127). -/
def Display.answerPress (d : Display) : List Owner × Bool :=
  match d.mode, d.shown with
  | .message, some id =>
    match d.queue.find? (fun m => m.id = id) with
    | some m => if m.duration.isSome then ([], true) else (m.owners, false)
    | none => ([], false)
  | _, _ => ([], false)

/-- The first owner of a list that is an acknowledgeable ACTIVE warning (R127). -/
def Alerts.ackOwner (s : State) (a : Alerts) (owners : List Owner) : Option EntryId :=
  owners.findSome? fun o => match o with
    | .warning e => if a.mayAck s e then some e else none
    | .service => none

/-- One acknowledge press, taken whole (R94). -/
def ackPress (s : State) (a : Alerts) : Alerts :=
  let answer := a.display.answerPress
  let a := match a.chime.holder.filter (fun e => s.image.warnings[e].ackable) with
    | some e => a.acknowledge s e
    | none =>
      match a.ackOwner s answer.1 with
      | some e => a.acknowledge s e
      | none =>
        if answer.2 then
          { a with display := match a.display.shown with
                               | some id => a.display.remove s.displayView id
                               | none => a.display }
        else a
  let a := a.settleChime s
  { a with display := a.display.settle s.displayView }

/-- A phrase reported to the Warning Monitor (R91). -/
def Alerts.phraseReported (s : State) (e : EntryId) (a : Alerts) : Alerts :=
  let d := s.image.warnings[e]
  let w := a.monitor.entries[e]
  if w.state ≠ .active then a
  else
    let n := min 15 (w.phrases + 1)
    if d.repeatLimit ≠ 0 ∧ d.repeatLimit ≤ n then
      { a.setEntry e { w with phrases := n, state := .silenced } with chime := a.chime.withdraw e }.tell s a
    else a.setEntry e { w with phrases := n }

/-- A phrase ended by completion or cut (R111): the grant is released, the gap starts, and the phrase is reported. -/
def Alerts.finishPhrase (s : State) (a : Alerts) : Alerts :=
  match a.chime.holder with
  | none => a
  | some e => ({ a with chime := a.chime.endPhrase s.now }.tell s a).phraseReported s e

end Sys2Proof.Machine
end

