-- ==== Sys2Proof/Machine/Ops.lean ====
section
/-! DEFINITION. The named operations that cross blocks: reports to the fault record (R98, R99), telegrams handed on, answers, the
standing-ask watch, receiving a telegram (R173 to R175), and the close of every event. -/

namespace Sys2Proof.Machine

/-- The Line Station changed. -/
def State.onLine (s : State) (f : Line → Line) : State := { s with line := f s.line }

/-- A PUBLISH handed on (R176). -/
def State.publish (s : State) (source : TxSource) (group : Byte) (data : List Byte) : State :=
  s.onLine (Line.handOn (publishEntry source group data))

/-- The answer of an owner to a pending ask or command (R184). -/
def State.answer (s : State) (asker : Station) (group index : Byte) (status : Status) (values : List Byte := []) : State :=
  s.onLine (Line.answer asker group index status values)

/-- An occurrence reported to the fault record (R98, R99): counted, and where it latches a kind outside the report mask, a 48H
FAULTS handed on and a change of FAULT_ANY reported. -/
def State.reportFault (s : State) (k : FaultKind) : State :=
  let mask := s.image.params.reportMask
  let isNew := !bit s.faults.latched k.code && !bit mask k.code
  let s' := { s with faults := s.faults.after k }
  let s'' := if isNew then s'.publish .fault 0x48 (faultBytes s'.faults mask) else s'
  if s''.faultAny = s.faultAny then s'' else s''.reportSources [.faultAny]

/-! ## The standing-ask watch -/

/-- The registrations of 40H are shown six bytes of STATUS (R114, R181, R186). -/
def watchStatus (s : State) (status : List Byte) : State :=
  s.onLine fun l => l.standing.foldl (fun l r =>
    let a := statusAnswer status r.index
    if r.group = 0x40 ∧ a.1 = .done then l.reportStanding s.now r a.2 else l) l

/-- Whether the owner of a group and index reports to the standing-ask list in an event that took `before` to `s`: the bytes have
changed (R64, R181), for 40H a change has been handed over (R95, R114, R138), or for 41H and 42H the event is one that R81
lists. -/
def ownerReports (before s : State) (group index : Byte) : Bool :=
  decide (watchedAnswer before group index ≠ watchedAnswer s group index) ||
  (decide (group = 0x40) && !s.handed.status.isEmpty) || (decide (group = 0x41 ∨ group = 0x42) && s.handed.trip)

/-- Every registration that its owner reports is shown the bytes its group and index would now give (R186). -/
def watchStanding (before s : State) : State :=
  s.onLine fun l => l.standing.foldl (fun l r =>
    let a := watchedAnswer s r.group r.index
    if ownerReports before s r.group r.index ∧ a.1 = .done then l.reportStanding s.now r a.2 else l) l

/-- Every due registration that may try again does (R186), the oldest first: with fewer free places than due registrations it takes
the place, log entry 72. -/
def retryStandings (mayTry : StandingAsk → Bool) (s : State) : State :=
  s.onLine fun l => l.standing.foldl (fun l r =>
    if r.due && mayTry r then l.retryStanding s.now r (watchedAnswer s r.group r.index).2 else l) l

/-! ## The close of an event -/

/-- The display's deferred switch (R116, R123). -/
def State.settleDisplay (s : State) : State := { s with display := s.display.settle s.displayView }

/-- The six bytes of STATUS after each change handed on within the event, the tenths being those after it (R28, R181). -/
def State.handedStatus (s : State) : List (List Byte) := s.handed.status.map fun tail => (statusBytes s).take 3 ++ tail

/-- The six bytes after each change of the event, in order: those handed on within it, and those now standing where they differ
from the last, as they do where the tenths alone changed (R181). -/
def State.statusChanges (before s : State) : List (List Byte) :=
  s.handedStatus ++
    if s.handedStatus.getLast?.getD (statusBytes before) = statusBytes s then [] else [statusBytes s]

/-- The registrations of 40H are shown the bytes after each change handed on within the event (R114, R186). -/
def watchChanges (s : State) : State := s.handedStatus.foldl watchStatus s

/-- A 40H handed on for each change of a byte of it, with the key OFF and the part AWAKE (R181). Log entry 41. -/
def State.statusOnChange (before s : State) : State :=
  if s.key.started && before.awake && s.awake && s.key.key = .off then
    (State.statusChanges before s).foldl (fun s b => s.publish .status 0x40 b) s
  else s

/-- The close of every event, once it has been taken whole: the display's deferred switch or page, the STATUS of the changes with
the key OFF, the READY answers that can join, the standing asks whose owners report, those of 40H being shown each change
in turn, and the due ones that the event itself lets try again. Log entry 12. -/
def State.close (before s : State) : State :=
  let mayTry := StandingAsk.mayTry before.line s.line
  let s := s.settleDisplay
  let s := State.statusOnChange before s
  let s := s.onLine Line.joinReady
  let s := watchStanding before (watchChanges s)
  retryStandings mayTry { s with handed := .nothing }

/-- What a command answers. -/
abbrev Result := Host.Outcome State Fault Refusal

/-- The close of a start: what a start gives its values is no change, and only what its step 5 moves is one (R181). Log entry
41. -/
def State.started (s : State) : Result := .next (State.close s s)

/-- A command's meaning as an outcome: the time base takes the command's stamp, the effect is made, and the event closes. -/
def State.event (s : State) (t : Stamp) (effect : State → State) : Result :=
  .next (State.close s (effect { s with now := t }))

/-- The expiry of a timer as an event: the effect is made where the timer has come due; otherwise the expiry "does not
happen" (R16, R82) and only the time base moves. Log entry 10. -/
def State.expiry (s : State) (t : Stamp) (timer : Timer) (effect : State → State) : Result :=
  s.event t fun s => if isDue t timer then effect s else s

/-! ## Receiving -/

/-- Whether the receiver takes a telegram now: not in ASLEEP, and not while it waits for the gap after a wake or a collision
of the part's own (R191, R178). -/
def State.receives (s : State) : Bool := s.awake && s.line.receiver = .listens

/-- Steps 1 and 2 of R175 for an accepted telegram, with the acknowledge slot of R173 and the quiet timer of R190. -/
def State.accept (s : State) (origin : Station) (isReply : Bool) : State :=
  let own := s.key.station
  let echo := origin = own && s.line.sending
  let s := s.onLine fun l => { l with idle := false, stuck := false, acked := !echo }
  let s := if origin = own then s else { s with key := { s.key with quiet := startTimer s.now 5000 } }
  let s := if origin = own && !echo then s.reportFault .stationClash else s
  if !isReply && origin ≠ own && s.hold.isHolder origin then
    { s with hold := { s.hold with timer := startTimer s.now 30000 } }
  else s

/-- An ask or command addressed to the part (R175, step 5, and R184): `owner` takes it with its index where a pending-answer
entry is made for it. Where two rules speak, the order here is the model's: BUSY before UNKNOWN for a telegram without
data byte 1 (log entry 59), UNKNOWN before NOT_HELD for a flagged one (log entry 60), and an ask that merges into a
pending one registers nothing (log entry 58). -/
def State.takeRequest (s : State) (group : Byte) (r : Request) (owner : Byte → State → State) : State :=
  if !s.receives then s
  else
    let s := s.accept r.asker false
    let index := r.args.headD 0
    if !s.key.started || s.draining then s.onLine (Line.replyAtOnce r.asker group index .busy)
    else if r.args.isEmpty then s.onLine (Line.replyAtOnce r.asker group index .unknown)
    else if s.line.pending.any (fun p => p.isFor r.asker group index) then s
    else if 4 ≤ s.line.pending.length then s.onLine (Line.replyAtOnce r.asker group index .busy)
    else owner index (s.onLine fun l =>
      { l with pending := l.pending ++ [{ asker := r.asker, group, index, stage := .waiting }] })

/-- A request as an event, refused by name where its operands are no telegram (R173). -/
def State.request (s : State) (t : Stamp) (mnemonic : String) (group : Byte) (r : Request) (owner : Byte → State → State) :
    Result :=
  if r.fits then s.event t fun s => s.takeRequest group r owner else .refused (.notThisTelegram mnemonic)

/-- A command refused with one PROTECTION occurrence (R144, R145). -/
def State.refuse (s : State) (r : Request) (group index : Byte) (status : Status) : State :=
  (s.reportFault .protection).answer r.asker group index status

/-- A COMMAND with the hold flag from a station that is not the holder is refused NOT_HELD with PROTECTION, whatever its
group (R144); otherwise it goes on to `then_`. -/
def State.unlessStranger (s : State) (r : Request) (group index : Byte) (then_ : State → State) : State :=
  if r.hold && !s.hold.isHolder r.asker then s.refuse r group index .notHeld else then_ s

/-- A protected command: the hold flag by R144, then step 2 of R145 (the sender must be the holder). -/
def State.ifHolder (s : State) (r : Request) (group index : Byte) (then_ : State → State) : State :=
  if s.hold.isHolder r.asker then then_ s else s.refuse r group index .notHeld

end Sys2Proof.Machine
end

