-- ==== Sys2Proof/Machine/Alarms.lean ====
section
/-! DEFINITION. The expiries of the Warning Monitor (R89, R93, R97), the Chime Arbiter (chapter 6) and the Display Controller
(chapter 7). -/

namespace Sys2Proof.Machine

/-- The three alert blocks changed, and the arbiter's decision made once that is whole (R106). -/
def State.onAlerts (s : State) (f : Alerts → Alerts) : State := s.withAlerts ((f s.alerts).settleChime s)

/-- The Chime Arbiter changed. -/
def State.onChime (s : State) (f : Chime → Chime) : State := { s with chime := f s.chime }

/-- The Display Controller changed. -/
def State.onDisplay (s : State) (f : Display → Display) : State := { s with display := f s.display }

/-- DEBOUNCE_EXPIRY (R89): a PENDING entry becomes ACTIVE. -/
def execDebounceExpiry (t : Stamp) (e : EntryId) (s : State) : Result :=
  s.expiry t s.monitor.entries[e].debounce fun s =>
    if s.monitor.entries[e].state = .pending then s.onAlerts (Alerts.activate s e true) else s

/-- REMIND_EXPIRY (R93): an ACKNOWLEDGED entry becomes ACTIVE again. -/
def execRemindExpiry (t : Stamp) (e : EntryId) (s : State) : Result :=
  s.expiry t s.monitor.entries[e].remind fun s =>
    if s.monitor.entries[e].state = .acknowledged then s.onAlerts (Alerts.activate s e false) else s

/-- BULB_CHECK_EXPIRY (R97): the lamps are set from the active list. -/
def execBulbCheckExpiry (t : Stamp) (s : State) : Result :=
  s.expiry t s.monitor.bulbTimer fun s => { s with monitor := s.monitor.endBulbCheck s.image }

/-- STRIKE_START (R102): the next strike of the phrase begins. -/
def execStrikeStart (t : Stamp) (s : State) : Result :=
  s.expiry t s.chime.strikeTimer fun s =>
    if s.chime.phase = .sounding && !s.chime.cutPending then s.onChime (Chime.strike s.now) else s

/-- PREEMPT_EXPIRY (R110): the phrase is cut at once, or the cut waits for its point. -/
def execPreemptExpiry (t : Stamp) (s : State) : Result :=
  s.expiry t s.chime.preempt fun s =>
    if s.chime.cutsNow s.now then s.onAlerts (Alerts.finishPhrase s) else s.onChime Chime.awaitCut

/-- PREEMPT_CUT (R110, R111): the pending cut point is reached. -/
def execPreemptCut (t : Stamp) (s : State) : Result :=
  s.expiry t s.chime.cutTimer fun s => if s.chime.cutPending then s.onAlerts (Alerts.finishPhrase s) else s

/-- PHRASE_COMPLETION (R111): the phrase has sounded to its length. -/
def execPhraseCompletion (t : Stamp) (s : State) : Result :=
  s.expiry t s.chime.phraseTimer fun s => s.onAlerts (Alerts.finishPhrase s)

/-- GAP_EXPIRY (R113): a grant decision where a request stands, IDLE otherwise. -/
def execGapExpiry (t : Stamp) (s : State) : Result :=
  s.expiry t s.chime.gapTimer fun s =>
    s.onAlerts fun a => { a with chime := { a.chime with phase := .idle, gapTimer := none } }

/-- STRIKE_END (R102): silence until the next strike; with a cut pending the end of the strike is the cut (PREEMPT_CUT). -/
def execStrikeEnd (t : Stamp) (s : State) : Result :=
  s.expiry t s.chime.strikeEnd fun s => if s.chime.cutPending then s else s.onChime Chime.endStrike

/-- MINIMUM_EXPIRY (R123): a pending switch is made, unless the shown message is eligible again. -/
def execMinimumExpiry (t : Stamp) (s : State) : Result :=
  s.expiry t s.display.minimum fun s =>
    s.onDisplay fun d =>
      let eligibleNow := match d.shown with | some id => hasId (eligible d.queue) id | none => false
      let d' := { d with minimum := none, switchPending := false }
      if d.switchPending && !eligibleNow then d'.switch s.now else d'

/-- ROTATION_EXPIRY (R124): the next eligible message begins to be shown. -/
def execRotationExpiry (t : Stamp) (s : State) : Result :=
  s.expiry t s.display.rotation fun s =>
    s.onDisplay fun d =>
      match d.shown.bind (nextEligible (eligible d.queue)) with
      | some id => d.beginShow s.now id
      | none => d

/-- DURATION_EXPIRY (R125): the TIMED entry of the id leaves the queue. -/
def execDurationExpiry (t : Stamp) (id : Nat) (s : State) : Result :=
  s.event t fun s =>
    if s.display.queue.any fun m => m.id = id && m.duration.isSome && isDue s.now m.timer then
      s.onDisplay (Display.remove s.displayView id)
    else s

/-- REFRESH_TIMER_EXPIRY (R128): in PAGE mode the page is read and drawn again. -/
def execRefreshTimerExpiry (t : Stamp) (s : State) : Result :=
  s.expiry t s.display.refresh fun s =>
    s.onDisplay fun d => { d.draw s.displayView with refresh := if d.mode = .page then startTimer s.now refreshMillis else none }

end Sys2Proof.Machine
end

