-- ==== Sys2Proof/Machine/HoldOps.lean ====
section
/-! DEFINITION. The named operations of the Service Monitor and the Hold Controller (chapter 8) that other blocks call: a change of the
counters, the outcome of a pending reset (R148), the end of the hold (R143), the answer of a delayed read (R142), and the
end of the hold at a RESTART (R195). -/

namespace Sys2Proof.Machine

/-! ## The service counters -/

/-- The Service Monitor changed; a change of the service state is handed to the Line Station and reported as internal source 35
(R138). -/
def State.withService (s : State) (x : Service) : State :=
  let s' := { s with service := x }
  if serviceState s' = serviceState s then s' else (State.handOver s s').reportSources [.serviceState]

/-- Whether a selector names a counter: 0 distance, 1 days, 2 wear, and 3 all three (R147). -/
def names (selector counter : Nat) : Bool := selector = counter || selector = 3

/-- The counters with zero for those that a selector names (R133, R148). -/
def Service.zeroed (x : Service) (selector : Nat) : Service :=
  { x with dist := if names selector 0 then 0 else x.dist
           days := if names selector 1 then 0 else x.days
           wear := if names selector 2 then 0 else x.wear }

/-- The write enable latch cleared (R146). -/
def State.clearLatch (s : State) : State := { s with hold := { s.hold with latch := false } }

/-- The pending reset settled by the outcome of a record that carried it (R148). A save entry queued apart from that record keeps
its RESET cause, and a further record is built for it: log entry 56. -/
def State.settleReset (s : State) (ok : Bool) : State :=
  match s.service.reset with
  | none => s
  | some r =>
    let counters := if ok then s.service.zeroed r.selector else s.service
    ((s.withService { counters with reset := none }).clearLatch).answer r.asker 0x62 (BitVec.ofNat 8 r.selector)
      (if ok then .done else .failed)

/-! ## Withdrawals at the end of the hold -/

/-- Whether a save record carrying the pending reset has been built: it is in progress or waits to be built anew (R148). -/
def Store.carriesReset (st : Store) : Bool :=
  (match st.op with | .record _ (.save _ _ _ carried _) _ _ _ _ => carried | _ => false) ||
  st.queue.any fun r => match r with | .save _ _ _ carried _ => carried | _ => false

/-- The RESET cause withdrawn from a queued save request; an entry left with no cause leaves the queue (R158). -/
def withoutResetCause : StoreRequest → Option StoreRequest
  | .save false true _ _ _ => none
  | .save keyOff _ again carried forRestart => some (.save keyOff false again carried forRestart)
  | r => some r

/-- A pending reset that no record carries is withdrawn ABORTED (R148, third case). -/
def State.withdrawReset (s : State) : State :=
  match s.service.reset with
  | none => s
  | some r =>
    if s.store.carriesReset then s
    else
      { s with service := { s.service with reset := none }
               store := { s.store with queue := s.store.queue.filterMap withoutResetCause } }.answer
        r.asker 0x62 (BitVec.ofNat 8 r.selector) .aborted

/-- Configuration programs and erases queued and not started are withdrawn ABORTED (R167). -/
def State.withdrawConfig (s : State) : State :=
  s.store.queue.foldl
    (fun s r => match r with
      | .program asker address _ => s.answer asker 0x64 address .aborted
      | .erase (.config asker) block => s.answer asker 0x63 (BitVec.ofNat 8 block.val) .aborted
      | _ => s)
    { s with store := { s.store with queue := s.store.queue.filter fun r =>
        match r with | .program .. => false | .erase (.config _) _ => false | _ => true } }

/-- The claims of delayed reads changed, queued or in progress. -/
def Store.reclaim (st : Store) (f : Claim → Claim) : Store :=
  { st with
    queue := st.queue.map fun r => match r with
      | .read asker address claim limit => .read asker address (f claim) limit
      | r => r
    op := match st.op with
      | .reading asker address claim => .reading asker address (f claim)
      | op => op }

/-- The hold ends (R143): the record is as after power-on, and what its holder had queued and not started is withdrawn. -/
def State.endHold (s : State) : State :=
  if s.hold.phase = .held then ({ s with hold := .cleared }.withdrawReset).withdrawConfig else s

/-- The service-enable line goes inactive: a hold ends (R143), a claim is dropped (R142). -/
def State.dropEnable (s : State) : State :=
  match s.hold.phase with
  | .none => s
  | .held => s.endHold
  | .opening =>
    { s with hold := .cleared, store := s.store.reclaim fun c => if c = .claiming then .dropped else c }

/-- The answer of a delayed read, `none` where it failed, and what it makes of a claim (R142, R168). -/
def State.settleRead (s : State) (asker : Station) (address : Byte) (claim : Claim) (value : Option Word) : State :=
  let plain (s : State) : State := match value with
    | some w => s.answer asker 0x52 address .done (bytesOf 2 w.toNat)
    | none => s.answer asker 0x52 address .failed
  match claim with
  | .plain => plain s
  | .dropped => s.answer asker 0x52 address .locked
  | .claiming =>
    match value with
    | some _ => plain { s with hold := { phase := .held, station := asker, timer := startTimer s.now 30000, latch := false } }
    | none => plain { s with hold := .cleared }

/-! ## RESTART -/

/-- The key-off save of a RESTART has been served: the hold ends, a claim becomes a plain read, and the store runs out (R195).
Queued configuration operations are ABORTED, queued reads FAILED, and ring erases not started leave. -/
def State.beginDrain (w : RestartWait) (s : State) : State :=
  let s := s.endHold.withdrawConfig
  let s := if s.hold.phase = .opening then
      { s with hold := .cleared, store := s.store.reclaim fun c => if c = .claiming then .plain else c }
    else s
  s.store.queue.foldl
    (fun s r => match r with
      | .read asker address claim _ => s.settleRead asker address claim none
      | _ => s)
    { s with
      store := { s.store with queue := s.store.queue.filter fun r =>
        match r with | .read .. => false | .erase .. => false | _ => true }
      key := { s.key with restart := some { w with draining := true } } }

/-- The store has completed or failed an entry of a RESTART's key-off save (R195). -/
def State.closeRestart (s : State) (commit save : Bool) : State :=
  match s.key.restart with
  | none => s
  | some w =>
    let w' := { w with commitOpen := w.commitOpen && !commit, saveOpen := w.saveOpen && !save }
    if !w'.commitOpen && !w'.saveOpen && !w.draining then s.beginDrain w'
    else { s with key := { s.key with restart := some w' } }

end Sys2Proof.Machine
end

