-- ==== Sys2Proof/Machine/StoreOps.lean ====
section
/-! DEFINITION. The named operations of the Non-Volatile Store (chapter 9): requests joining the queue (R158), the choice of the next
operation (R159), suspension (R160), the building of records (R161, R162), the rings (R155 to R157), the completions of words
and erase attempts, and the supply-low line (R163). -/

namespace Sys2Proof.Machine

/-- A word program, a word read and an erase attempt, in milliseconds (R150, R151). -/
def wordMillis : Nat := 4
def readMillis : Nat := 1
def eraseMillis : Nat := 16

/-! ## Requests and their targets -/

/-- The configuration block of a word address (section 9.1). -/
def configBlock (address : Byte) : BlockId := Fin.ofNat 16 (address.toNat / 64)

/-- The block that a request programs, reads or erases (R155, R159). -/
def Store.target (st : Store) : StoreRequest → BlockId
  | .commit .. => st.odo.current
  | .save .. => st.save.current
  | .program _ address _ => configBlock address
  | .erase _ block => block
  | .read _ address _ _ => configBlock address

/-- A commit (R158). -/
def StoreRequest.isCommit : StoreRequest → Bool
  | .commit .. => true
  | _ => false

/-- A save record (R158). -/
def StoreRequest.isSave : StoreRequest → Bool
  | .save .. => true
  | _ => false

/-- A program: a commit, a save record or a configuration program (R158). -/
def StoreRequest.isProgram : StoreRequest → Bool
  | .commit .. | .save .. | .program .. => true
  | _ => false

/-- An urgent commit. -/
def StoreRequest.isUrgent : StoreRequest → Bool
  | .commit urgent _ _ => urgent
  | _ => false

/-- A record that is being retried (R157). -/
def StoreRequest.isRetry : StoreRequest → Bool
  | .commit _ again _ => again
  | .save _ _ again _ _ => again
  | _ => false

/-- A delayed read. -/
def StoreRequest.isRead : StoreRequest → Bool
  | .read .. => true
  | _ => false

/-- A block erase. -/
def StoreRequest.isErase : StoreRequest → Bool
  | .erase .. => true
  | _ => false

/-- A ring's own requests: its commits or saves, and its erase. -/
def StoreRequest.belongsTo (r : Ring) : StoreRequest → Bool
  | .commit .. => r = .odo
  | .save .. => r = .save
  | .erase (.ring r') _ => r' = r
  | _ => false

/-- A commit joins the queue, or merges with one that has not started, in whose place it stands (R158, log entry 57), and with both
where a commit to be retried stands beside one: log entry 75. -/
def Store.joinCommit (urgent forRestart : Bool) (st : Store) : Store :=
  if st.queue.any (·.isCommit) then
    { st with queue := st.queue.map fun r => match r with
        | .commit u again fr => .commit (u || urgent) again (fr || forRestart)
        | r => r }
  else { st with queue := st.queue ++ [.commit urgent false forRestart] }

/-- A save record joins the queue, or merges with one that has not started, in whose place it stands (R158, log entry 57), and with
both where a record to be retried stands beside one: log entry 75. -/
def Store.joinSave (keyOff reset forRestart : Bool) (st : Store) : Store :=
  if st.queue.any (·.isSave) then
    { st with queue := st.queue.map fun r => match r with
        | .save k x again carried fr => .save (k || keyOff) (x || reset) again carried (fr || forRestart)
        | r => r }
  else { st with queue := st.queue ++ [.save keyOff reset false false forRestart] }

/-! ## Suspension -/

/-- A program arrives for a block: an erase in flight on another block is suspended, its time spent kept (R160). -/
def Store.suspendFor (now : Stamp) (target : BlockId) (st : Store) : Store :=
  match st.op with
  | .erasing job since =>
    if job.block = target then st
    else { st with op := .idle, opTimer := none,
                   suspended := some { job with spent := min eraseMillis (job.spent + now.since since) } }
  | _ => st

/-! ## The rings -/

/-- The next block of a ring's cycle, after a block, that is not BAD (R155). -/
def Store.nextGood (st : Store) (r : Ring) (b : BlockId) : BlockId :=
  let blocks := ringBlocks r
  let i := blocks.idxOf b
  let cycle := (List.range (blocks.length - 1)).map fun k => blocks.getD ((i + 1 + k) % blocks.length) b
  (cycle.find? fun x => st.conditions[x] ≠ .bad).getD b

/-- An erase of a ring's block queued where the block is not BLANK and none stands for it (R155, R156). -/
def Store.wantBlank (r : Ring) (b : BlockId) (st : Store) : Store :=
  if st.conditions[b] ≠ .blank && !st.eraseStands b then { st with queue := st.queue ++ [.erase (.ring r) b] } else st

/-- The look at the block after the current one, put off while the current block has an erase of its own (R155). -/
def Store.lookAhead (r : Ring) (st : Store) : Store :=
  let current := (st.ring r).current
  if (st.ring r).failed || st.eraseStands current then st else st.wantBlank r (st.nextGood r current)

/-- The next slot after a record is complete (R155). -/
def Store.advance (r : Ring) (st : Store) : Store :=
  let x := st.ring r
  match blankSlotFrom st.array r x.current (x.next + 1) with
  | some k => st.withRing r { x with next := k }
  | none => (st.withRing r { x with current := st.nextGood r x.current, next := 0 }).lookAhead r

/-! ## Records -/

/-- The sequence of the next save record (R153): one more than the newest record's, or 0. Blocks whose erase is in flight or
suspended are not read (R151), log entry 28; a block that is BAD is: log entry 74. -/
def Store.nextSequence (st : Store) : Word :=
  match newestOf (validSaves st.array ((ringSlots .save).filter fun p => !st.eraseBegun p.1)) with
  | some (_, w) => nthWord w 0 + 1
  | none => 0

/-- A trip record in its six words (section 9.2). -/
def TripRecord.words (x : TripRecord) : List Word := splitWord x.dist ++ splitWord x.fuel ++ splitWord x.secs

/-- The words 0 to 30 of a save record built from the live values, with zero for the counters that a pending reset names
(R162). -/
def saveBody (s : State) : List Word :=
  let service := match s.service.reset with
    | some r => s.service.zeroed r.selector
    | none => s.service
  let days := s.slots[13]
  [s.store.nextSequence] ++ splitWord s.integ.tenths ++ [BitVec.ofNat 16 s.integ.remainder] ++
  s.trip.a.words ++ s.trip.b.words ++ splitWord service.dist ++ [BitVec.ofNat 16 service.days] ++
  splitWord service.wear ++
  [BitVec.ofNat 16 (days.base % 256 + (if days.baseValid then 256 else 0) + (if s.integ.volume.isSome then 512 else 0))] ++
  splitWord s.integ.rangeBase ++ [BitVec.ofNat 16 ((shownVolume s.integ.volume).getD 0)] ++ List.replicate 6 0

/-- A whole save record: the body and its check (R153). -/
def saveRecord (s : State) : List Word := saveBody s ++ [~~~ (wordSum (saveBody s))]

/-! ## Outcomes of requests -/

/-- The outcome of a record that was built, reported to those who asked for it: the pending reset that it carried is settled
(R148), and a RESTART's entry closes (R195). -/
def State.recordOutcome (s : State) (r : StoreRequest) (ok : Bool) : State :=
  match r with
  | .commit _ _ forRestart => if forRestart then s.closeRestart true false else s
  | .save _ _ _ carried forRestart =>
    let s := if carried then s.settleReset ok else s
    if forRestart then s.closeRestart false true else s
  | _ => s

/-- A request reported failed before a record was built for it (R157): a reset that asked for it fails with it (R148). -/
def State.requestFailed (s : State) (r : StoreRequest) : State :=
  match r with
  | .save keyOff reset again carried forRestart => s.recordOutcome (.save keyOff reset again (carried || reset) forRestart) false
  | r => s.recordOutcome r false

/-- The store with a ring FAILED: its requests have left the queue, and a suspended erase of it is dropped with its block's words
in no defined state (R157, R151). -/
def Store.withFailedRing (st : Store) (r : Ring) (free : Nat) : Store :=
  let st := { st.withRing r { st.ring r with failed := true } with queue := st.queue.filter fun q => !q.belongsTo r }
  match st.suspended with
  | some job =>
    if job.owner = .ring r then
      { st with suspended := none, array := scrambleBlock st.array job.block free }
    else st
  | none => st

/-- A ring becomes FAILED (R157): one NV_FAILED occurrence, its queued commit or save request reported failed. -/
def State.failRing (s : State) (r : Ring) : State :=
  let gone := s.store.queue.filter fun q => q.belongsTo r
  let s := { s with store := s.store.withFailedRing r s.freeIndex
                    freeIndex := s.freeIndex + 64 }.reportFault .nvFailed
  gone.foldl State.requestFailed s

/-! ## Serving -/

/-- The first request that rows 1 to 3 and, where no erase is suspended, row 5 of R159 find. While a RESTART's wait runs the
store out, only a record being retried is served (R195, R157), and no urgent commit of the supply-low line (R163): log
entry 70. -/
def Store.chosen (supplyLow draining : Bool) (st : Store) : Option StoreRequest :=
  let free (r : StoreRequest) : Bool := r.isProgram && !st.eraseStands (st.target r) && (!draining || r.isRetry)
  match st.queue.find? fun r => r.isUrgent && free r with
  | some r => some r
  | none =>
    match st.queue.find? fun r => free r && !(r.isSave && supplyLow) with
    | some r => some r
    | none =>
      if draining then none
      else
        match st.queue.find? fun r => r.isRead && !st.eraseBegun (st.target r) with
        | some r => some r
        | none => if st.suspended.isSome then none else st.queue.find? (·.isErase)

/-- An operation begun. -/
def Store.begun (now : Stamp) (op : StoreOp) (millis : Nat) (st : Store) : Store :=
  { st with op, opTimer := startTimer now millis }

/-- A suspended erase resumes with the time that remains (R151, R159 row 4). -/
def Store.resume (now : Stamp) (job : EraseJob) (st : Store) : Store :=
  { st with suspended := none }.begun now (.erasing job now) (eraseMillis - job.spent)

/-- A request that has been chosen starts, having left the queue. `none` where it is refused before any programming (R150). -/
def Store.start (s : State) (r : StoreRequest) (st : Store) : Option Store :=
  match r with
  | .commit .. => some (st.begun s.now (.record .odo r (odoRecord s.integ.tenths) 0 false s.integ.tenths) wordMillis)
  | .save keyOff reset again carried forRestart =>
    some (st.begun s.now (.record .save (.save keyOff reset again (carried || s.service.reset.isSome) forRestart)
      (saveRecord s) 0 false s.integ.tenths) wordMillis)
  | .program asker address value =>
    let old := readWord st.array address.toNat
    if old &&& value = value then some (st.begun s.now (.word asker address value) wordMillis) else none
  | .erase owner block => some (st.begun s.now (.erasing { owner, block, attempt := 1, spent := 0 } s.now) eraseMillis)
  | .read asker address claim _ => some (st.begun s.now (.reading asker address claim) readMillis)

/-- The store serves (R159). A configuration program that asks a zero bit to become one is refused FAILED, and the store
chooses again (R165). -/
def serveUpTo : Nat → State → State
  | 0, s => s
  | fuel + 1, s =>
    if s.store.op ≠ .idle then s
    else
      match s.store.chosen s.key.pins.supplyLow s.draining with
      | some r =>
        let st := { s.store with queue := s.store.queue.erase r }
        match st.start s r with
        | some st' => { s with store := st' }
        | none =>
          serveUpTo fuel (match r with
            | .program asker address _ => ({ s with store := st }.clearLatch).answer asker 0x64 address .failed
            | _ => { s with store := st })
      | none =>
        match s.store.suspended with
        | some job => { s with store := s.store.resume s.now job }
        | none => s

/-- The store serves its queue (R159). -/
def State.serve (s : State) : State := serveUpTo (s.store.queue.length + 1) s

/-- A program arrives (R160), and the store serves. -/
def State.arrive (s : State) (target : BlockId) : State := { s with store := s.store.suspendFor s.now target }.serve

/-- An odometer commit asked for (R161). -/
def State.requestCommit (s : State) (urgent forRestart : Bool) : State :=
  if s.store.odo.failed then (if forRestart then s.closeRestart true false else s)
  else { s with store := s.store.joinCommit urgent forRestart }.arrive s.store.odo.current

/-- A save record asked for (R162). -/
def State.requestSave (s : State) (keyOff reset forRestart : Bool) : State :=
  if s.store.save.failed then s.requestFailed (.save keyOff reset false false forRestart)
  else { s with store := s.store.joinSave keyOff reset forRestart }.arrive s.store.save.current

/-- A queue with the save records that stand before the last commit moved right behind it. -/
def savesBehindCommit (queue : List StoreRequest) : List StoreRequest :=
  let rest := (queue.reverse.takeWhile fun q => !q.isCommit).reverse
  let front := queue.take (queue.length - rest.length)
  front.filter (fun q => !q.isSave) ++ front.filter (·.isSave) ++ rest

/-- The two entries of a key-off save join the queue, each where its ring is not FAILED; the save record is served after the
commit (R164), so an older save entry with which it merged moves behind the commit. Log entry 57. -/
def Store.joinKeyOff (forRestart : Bool) (st : Store) : Store :=
  let st := if st.odo.failed then st else st.joinCommit false forRestart
  let st := if st.save.failed then st else st.joinSave true false forRestart
  { st with queue := savesBehindCommit st.queue }

/-- The arrival of a key-off save suspends an erase on another block than its targets (R160). -/
def Store.suspendForKeyOff (now : Stamp) (st : Store) : Store :=
  let st := if st.odo.failed then st else st.suspendFor now st.odo.current
  if st.save.failed then st else st.suspendFor now st.save.current

/-- The key-off save: both entries enter the queue at once (R164); for a RESTART the entry of a FAILED ring is reported failed
at once (R157, R195). Then the store serves. -/
def State.keyOffSave (s : State) (forRestart : Bool) : State :=
  let s := { s with store := s.store.joinKeyOff forRestart }
  let s := if forRestart then s.closeRestart s.store.odo.failed s.store.save.failed else s
  { s with store := s.store.suspendForKeyOff s.now }.serve

/-! ## Completions -/

/-- The operation ended: the store is IDLE. -/
def Store.ended (st : Store) : Store := { st with op := .idle, opTimer := none }

/-- A record given up at a failed verify (R157): one NV_WEAR occurrence; below three consecutive failures it is built anew in the
next slot, at three the ring becomes FAILED. An abandoned record is reported failed (R163). The retry stands at the front of the
queue and is urgent as its request was: log entries 27, 73 and 75. -/
def State.verifyFailed (s : State) (r : Ring) (request : StoreRequest) (abandon : Bool) : State :=
  let x := s.store.ring r
  let retry : StoreRequest := match request with
    | .commit urgent _ forRestart => .commit urgent true forRestart
    | .save keyOff reset _ carried forRestart => .save keyOff reset true carried forRestart
    | q => q
  let st := ((s.store.ended).withRing r { x with fails := x.fails + 1 }).advance r
  let s := { s with store := st }.reportFault .nvWear
  if 3 ≤ x.fails + 1 then (s.failRing r).recordOutcome request false
  else if abandon then s.recordOutcome request false
  else { s with store := { s.store with queue := retry :: s.store.queue } }

/-- The completion of the word of a record now being programmed (R150, R155, R157, R161 to R163). A record abandoned in its last
word is reported failed, and its slot then reads as valid: log entry 54. -/
def State.recordWordDone (s : State) (r : Ring) (request : StoreRequest) (words : List Word) (pos : Nat) (abandon : Bool)
    (tenths : Nat) (stuck : Word) : State :=
  let x := s.store.ring r
  let address := slotAddress r x.current x.next pos
  let value := nthWord words pos
  let result := programmed (readWord s.store.array address) value stuck
  let st := { s.store with array := writeWord s.store.array address result
                           conditions := s.store.conditions.set x.current .used }
  if result ≠ value then ({ s with store := st }.verifyFailed r request abandon).serve
  else if abandon then ({ s with store := st.ended.advance r }.recordOutcome request false).serve
  else if pos + 1 < words.length then
    { s with store := st.begun s.now (.record r request words (pos + 1) false tenths) wordMillis }
  else
    ({ s with store := (st.ended.withRing r { x with fails := 0 }).advance r }.recordOutcome request true).serve

/-- The completion of a configuration word (R165). -/
def State.configWordDone (s : State) (asker : Station) (address : Byte) (value stuck : Word) : State :=
  let result := programmed (readWord s.store.array address.toNat) value stuck
  let s := { s with store := { s.store.ended with array := writeWord s.store.array address.toNat result } }
  let s := if result = value then s.answer asker 0x64 address .done
    else (s.answer asker 0x64 address .failed).reportFault .nvWear
  s.clearLatch.serve

/-- The good blocks of a ring are counted after one became BAD (R156). -/
def State.blockMadeBad (s : State) (r : Ring) (b : BlockId) : State :=
  let st := { s.store.ended with conditions := s.store.conditions.set b .bad }
  let s := { s with store := st }.reportFault .nvWear
  if (ringBlocks r).countP (fun x => st.conditions[x] ≠ .bad) < 2 then s.failRing r
  else
    let st := s.store
    let x := st.ring r
    let st := if x.current = b then
        let next := st.nextGood r b
        (st.withRing r { x with current := next, next := 0 }).wantBlank r next
      else st
    { s with store := st.lookAhead r }

/-- The end of an erase attempt: the blank check, a further attempt, or the outcome (R151, R156, R166). -/
def State.attemptDone (s : State) (job : EraseJob) (residue : List (Fin 64 × Word)) : State :=
  let array := eraseBlock s.store.array job.block residue
  let s := { s with store := { s.store with array } }
  if blockIsBlank array job.block then
    match job.owner with
    | .ring r =>
      let st := { s.store.ended with conditions := s.store.conditions.set job.block .blank }
      { s with store := st.lookAhead r }.serve
    | .config asker =>
      ({ s with store := s.store.ended }.answer asker 0x63 (BitVec.ofNat 8 job.block.val) .done).clearLatch.serve
  else if job.attempt < 3 then
    { s with store := s.store.begun s.now (.erasing { job with attempt := job.attempt + 1, spent := 0 } s.now) eraseMillis }
  else
    match job.owner with
    | .ring r => (s.blockMadeBad r job.block).serve
    | .config asker =>
      (({ s with store := s.store.ended }.answer asker 0x63 (BitVec.ofNat 8 job.block.val) .failed).reportFault
        .nvWear).clearLatch.serve

/-! ## The supply-low line -/

/-- Every queued commit made urgent; one enters the queue where none stands (R163). -/
def Store.makeUrgent (st : Store) : Store :=
  if st.odo.failed then st else st.joinCommit true false

/-- The queued commit that an odometer record carrying the live T counts as leaves the queue; a RESTART that waited for it
waits for the record (R163). The record keeps its own request, so that a retry of it is urgent only where that was: log entry
73. -/
def Store.absorbCommit (st : Store) : Store :=
  let waits := st.queue.any fun q => match q with | .commit _ _ forRestart => forRestart | _ => false
  { st with
    queue := st.queue.filter fun q => !q.isCommit
    op := match st.op with
      | .record r (.commit urgent again forRestart) words pos abandon tenths =>
        .record r (.commit urgent again (forRestart || waits)) words pos abandon tenths
      | op => op }

/-- The supply-low line becomes active in PRIMARY role (R163). -/
def State.supplyFailing (s : State) : State :=
  let st := s.store.makeUrgent
  match st.op with
  | .record .odo _ _ _ false tenths =>
    if tenths = s.integ.tenths then { s with store := st.absorbCommit }
    else { s with store := match st.op with
      | .record r q words pos _ t => { st with op := .record r q words pos true t }
      | _ => st }
  | .record r q words pos _ t => { s with store := { st with op := .record r q words pos true t } }
  | _ => { s with store := if st.odo.failed then st else st.suspendFor s.now st.odo.current }.serve

end Sys2Proof.Machine
end

