-- ==== Sys2Proof/Machine/Asks.lean ====
section
/-! DEFINITION. The ASK commands (R182): STATUS, TRIP A, TRIP B/RANGE, IDENTITY, SERVICE RECORD, CONFIG WORD and GAUGE STATE, with the hold
requests of R142 and the standing asks of R185. -/

namespace Sys2Proof.Machine

/-- An ask of one of the four watched groups (R181, R81, R64), with the registration of the repeat flag or its removal by a
plain ask (R185). -/
def State.askWatched (s : State) (group : Byte) (r : Request) (index : Byte) : State :=
  let a := watchedAnswer s group index
  if r.again then
    if a.1 = Status.done then
      let x := s.line.register s.now r.asker group index a.2
      { s with line := x.2 }.answer r.asker group index x.1 (if x.1 = Status.done then a.2 else [])
    else s.answer r.asker group index a.1
  else (s.onLine (Line.dropStanding r.asker group index)).answer r.asker group index a.1 a.2

/-- ASK_STATUS (R181). -/
def execAskStatus (t : Stamp) (r : Request) (s : State) : Result :=
  s.request t "ASK_STATUS" 0x40 r fun index s => s.askWatched 0x40 r index

/-- ASK_TRIP_A (R81). -/
def execAskTripA (t : Stamp) (r : Request) (s : State) : Result :=
  s.request t "ASK_TRIP_A" 0x41 r fun index s => s.askWatched 0x41 r index

/-- ASK_TRIP_B_RANGE (R81). -/
def execAskTripBRange (t : Stamp) (r : Request) (s : State) : Result :=
  s.request t "ASK_TRIP_B_RANGE" 0x42 r fun index s => s.askWatched 0x42 r index

/-- ASK_GAUGE_STATE (R64). -/
def execAskGaugeState (t : Stamp) (r : Request) (s : State) : Result :=
  s.request t "ASK_GAUGE_STATE" 0x53 r fun index s => s.askWatched 0x53 r index

/-- What an ask of 50H IDENTITY reads (R182). -/
def identityAnswer (s : State) (index : Byte) : Status × List Byte :=
  if index = 0 then (.done, Config.revision :: identityByte s :: bytesOf 2 s.image.checkWord.toNat)
  else if index = 1 then (.done, faultBytes s.faults s.image.params.reportMask)
  else (.unknown, [])

/-- ASK_IDENTITY (R182). -/
def execAskIdentity (t : Stamp) (r : Request) (s : State) : Result :=
  s.request t "ASK_IDENTITY" 0x50 r fun index s =>
    s.answer r.asker 0x50 index (identityAnswer s index).1 (identityAnswer s index).2

/-- The four value bytes of a 51H SERVICE RECORD ask (R140). -/
def serviceBytes (s : State) (index : Byte) : List Byte :=
  if index = 0 then bytesOf 3 s.service.dist ++ [BitVec.ofNat 8 (distState s)]
  else if index = 1 then bytesOf 2 s.service.days ++ [0, BitVec.ofNat 8 (daysState s)]
  else if index = 2 then bytesOf 4 s.service.wear
  else [BitVec.ofNat 8 (serviceState s), BitVec.ofNat 8 (distState s), BitVec.ofNat 8 (daysState s),
        BitVec.ofNat 8 (wearState s)]

/-- The first rows of R142, for an ask of 51H or 52H that has passed its group's own checks: what a hold request is refused
with, `none` where it goes on; the value bytes of HELD hold the station. -/
def holdRefusal (s : State) (r : Request) : Option (Status × List Byte) :=
  if !r.hold then none
  else match s.hold.phase with
    | .none => if s.key.svcEn then none else some (.locked, [])
    | .opening | .held => if s.hold.station = r.asker then none else some (.held, [s.hold.station.setWidth 8])

/-- Whether an ask opens a hold (R142): the hold flag in phase NONE with the service-enable line active. -/
def opensHold (s : State) (r : Request) : Bool := r.hold && s.hold.phase = .none && s.key.svcEn

/-- ASK_SERVICE_RECORD (R140, R142). -/
def execAskServiceRecord (t : Stamp) (r : Request) (s : State) : Result :=
  s.request t "ASK_SERVICE_RECORD" 0x51 r fun index s =>
    if !s.primary then s.answer r.asker 0x51 index .notNow
    else if 4 ≤ index.toNat then s.answer r.asker 0x51 index .unknown
    else match holdRefusal s r with
      | some (status, values) => s.answer r.asker 0x51 index status values
      | none =>
        let hold : Hold := if opensHold s r then
            { phase := .held, station := r.asker, timer := startTimer s.now 30000, latch := false }
          else s.hold
        { s with hold }.answer r.asker 0x51 index .done (serviceBytes s index)

/-- A read enters the store's queue with its limit of 1 s, and the store serves (R168, R159). -/
def State.queueRead (s : State) (asker : Station) (address : Byte) (claim : Claim) : State :=
  let entry := StoreRequest.read asker address claim (startTimer s.now 1000)
  { s with store := { s.store with queue := s.store.queue ++ [entry] } }.serve

/-- ASK_CONFIG_WORD (R168, R142): the index is the address. -/
def execAskConfigWord (t : Stamp) (r : Request) (s : State) : Result :=
  s.request t "ASK_CONFIG_WORD" 0x52 r fun index s =>
    if 2 ≤ s.store.queuedReads then s.answer r.asker 0x52 index .busy
    else match holdRefusal s r with
      | some (status, values) => s.answer r.asker 0x52 index status values
      | none =>
        if opensHold s r then
          { s with hold := { phase := .opening, station := r.asker, timer := none, latch := false } }.queueRead
            r.asker index .claiming
        else s.queueRead r.asker index .plain

end Sys2Proof.Machine
end

