-- ==== Sys2Proof/Machine/SlotOps.lean ====
section
/-! DEFINITION. The freshness machine of one signal slot (sections 1.3 and 1.4): what a counted arrival and the two expiries make of it,
and what is handed on. -/

namespace Sys2Proof.Machine

/-- What a counted arrival hands on (R17 to R20): the elapsed time, the delta of a COUNT slot with its kept-base mark, the
page, reset and acknowledge presses of BUTTONS, and whether the arrival is reported at all (R15). -/
structure Arrival where
  slot     : SlotId
  dt       : Nat
  delta    : Option Nat
  kept     : Bool
  presses  : List Nat
  reported : Bool
deriving DecidableEq, Repr

/-- The modulus of a slot's rolling count (R18). -/
def countModulus (i : SlotId) : Nat := if i = 13 then 256 else 65536

/-- The all-ones value of a LEVEL slot: no valid reading (R6, R15). -/
def noReading (i : SlotId) (e : Subscription) (v : Nat) : Bool := slotKind i = .level && v = 2 ^ (8 * e.width) - 1

/-- The increment of a rolling count (R18). -/
def rollingDelta (modulus base v : Nat) : Nat := (v % modulus + modulus - base % modulus) % modulus

/-- The three press deltas: page, reset, acknowledge (R19). -/
def pressDeltas (base v : Nat) : List Nat := [0, 1, 2].map fun n => rollingDelta 16 (base / 16 ^ n) (v / 16 ^ n)

/-- Whether an arrival yields deltas against the base: in FRESH, in LATE, and in ACQUIRING with acquire count 1 (R10, R11). -/
def Slot.continues (sl : Slot) : Bool :=
  sl.state = .fresh || sl.state = .late || (sl.state = .acquiring && sl.acquired ≠ 0)

/-- Whether a DAY_COUNT arrival is measured against a kept base (R20). -/
def Slot.keptBase (i : SlotId) (sl : Slot) : Bool := i = 13 && sl.state = .absent && sl.baseValid

/-- The arrived value stored, or the count base moved to it (R6, R18). -/
def Slot.store (i : SlotId) (v : Nat) (sl : Slot) : Slot :=
  match slotKind i with
  | .level | .bits => { sl with value := v }
  | .count | .presses => { sl with base := v, baseValid := true }

/-- A slot after a counted arrival, fed by an entry (R9 to R11, R15). -/
def Slot.afterArrival (i : SlotId) (e : Subscription) (v : Nat) (now : Stamp) (sl : Slot) : Slot :=
  if noReading i e v then { sl with state := .lost, value := 0, acquired := 0, late := none, lost := none, stamp := now }
  else
    let good := sl.continues
    { sl.store i v with
      state := if good then .fresh else .acquiring
      acquired := if good then 2 else 1
      stamp := now
      late := startTimer now (2 * e.period)
      lost := startTimer now (e.k * e.period) }

/-- What a counted arrival hands on (R15, R18 to R20), from the slot as it stood before. -/
def Slot.handsOn (i : SlotId) (e : Subscription) (v : Nat) (now : Stamp) (sl : Slot) : Arrival :=
  let measured := sl.continues || sl.keptBase i
  { slot := i
    dt := now.since sl.stamp
    delta := if slotKind i = .count && measured then some (rollingDelta (countModulus i) sl.base v) else none
    kept := sl.keptBase i
    presses := if slotKind i = .presses && sl.continues then pressDeltas sl.base v else []
    reported := !(noReading i e v && sl.state = .lost) }

/-- A slot whose late timer has expired (R12). -/
def Slot.afterLate (i : SlotId) (sl : Slot) : Slot :=
  match sl.state with
  | .fresh => { sl with state := .late, late := none }
  | .acquiring =>
    { sl with acquired := 0, late := none,
              baseValid := sl.baseValid && !(slotKind i = .count || slotKind i = .presses) }
  | _ => sl

/-- A slot whose lost timer has expired (R13). -/
def Slot.afterLost (sl : Slot) : Slot :=
  { sl with state := .lost, late := none, lost := none, acquired := 0, baseValid := false }

/-- A slot at entry to ASLEEP: cleared, but the DAY_COUNT base is kept (R8, R20). -/
def Slot.asleep (i : SlotId) (sl : Slot) : Slot :=
  if i = 13 then { Slot.cleared with base := sl.base, baseValid := sl.baseValid } else Slot.cleared

end Sys2Proof.Machine
end

