-- ==== Sys2Proof/Machine/Distance.lean ====
section
/-! DEFINITION. What counted arrivals do to the Distance and Fuel Integrator (chapter 2), the Service Monitor's days (R135), the Trip
Computer (R67, R72 to R75) and the Warning Monitor, and the order in which one telegram's arrivals are handed on (R4,
R19). -/

namespace Sys2Proof.Machine

/-! ## Derived values and their reports -/

/-- The range computed again in PRIMARY role, a change being reported as internal source 34 (R43) and to the standing asks (R81). -/
def State.refreshRange (s : State) : State :=
  if s.primary then
    let r := primaryRange s
    if r = s.trip.range then s else ({ s with trip := { s.trip with range := r } }.reportTrip).reportSources [.range]
  else s

/-- The speed set, a change being reported as internal source 32 (R31). -/
def State.setSpeed (s : State) (speed : Option Nat) : State :=
  let s' := { s with integ := { s.integ with speed } }
  if speed = s.integ.speed then s' else s'.reportSources [.speed]

/-- The filtered volume set, a change of the shown volume being reported as internal source 33 and to the range (R37, R43). -/
def State.setVolume (s : State) (volume : Option Nat) : State :=
  let s' := { s with integ := { s.integ with volume } }
  if shownVolume volume = shownVolume s.integ.volume then s' else (s'.reportSources [.fuelVolume]).refreshRange

/-- The interval mark cleared (R38). -/
def State.clearMark (s : State) : State := { s with integ := { s.integ with mark := false } }

/-- A report that DIST_COUNT is LOST or ABSENT (R32, R38). -/
def State.distanceGone (s : State) : State :=
  ({ s with integ := { s.integ with window := [], mark := false } }).setSpeed none

/-! ## Distance -/

/-- One tenth increment (R26, R27, R134, R163). A crossing of a whole unit while the supply is low asks for one commit, the urgent
one: log entry 52. -/
def State.tenth (s : State) : State :=
  let n := s.integ.tenths + 1
  let s := { s with integ := { s.integ with tenths := n, remainder := s.integ.remainder - s.image.params.p } }
  let s := s.withService { s.service with dist := min 16777215 (s.service.dist + 1) }
  if s.key.pins.supplyLow then s.requestCommit true false
  else if n % 10 = 0 then s.requestCommit false false else s

/-- Tenth increments handled one after another. -/
def State.tenths : Nat → State → State
  | 0, s => s
  | n + 1, s => (s.tenth).tenths n

/-- The odometer with an accepted delta of d pulses (R26). -/
def State.addDistance (s : State) (d : Nat) : State :=
  let r := s.integ.remainder + d
  let n := min (r / s.image.params.p) (Config.odometerLimit - s.integ.tenths)
  let s := State.tenths n { s with integ := { s.integ with remainder := r } }
  if s.integ.tenths = Config.odometerLimit then { s with integ := { s.integ with remainder := 0 } } else s

/-- The range basis after a delta that took the odometer from `before` tenths to the present ones (R38, R39). It comes after all the
tenths of the delta, also those that follow its last crossing: log entry 62. -/
def State.updateBasis (s : State) (before : Nat) : State :=
  let n := s.integ.tenths / 10 - before / 10
  if n = 0 then s
  else
    let c := s.image.params
    let base := if s.integ.mark then rangeBaseStep c.cMin c.cMax s.integ.rangeBase s.integ.quanta n else s.integ.rangeBase
    let s' := { s with integ := { s.integ with rangeBase := base, quanta := 0, mark := s.slots[5].usable } }
    if base = s.integ.rangeBase then s' else s'.refreshRange

/-- A trip record with a distance added (R67). -/
def TripRecord.withDist (x : TripRecord) (d : Nat) : TripRecord := { x with dist := saturate32 x.dist d }

/-- A trip record with fuel added (R67). -/
def TripRecord.withFuel (x : TripRecord) (f : Nat) : TripRecord := { x with fuel := saturate32 x.fuel f }

/-- The speed window with an accepted delta, and the speed computed again (R30, R31). -/
def State.enterWindow (s : State) (d dt : Nat) : State :=
  let w := windowWith s.integ.window d dt
  ({ s with integ := { s.integ with window := w } }).setSpeed (speedOf s.image.params.p w s.integ.speed)

/-- A distance delta handed on by the Signal Table (R23 to R28). The odometer, the range basis and the trips take it before the
speed window does, so its SERVICE_STATE and RANGE reports come before its SPEED report: log entry 62. One accepted is
reported to the standing asks, a delta of 0 too (R81). -/
def State.takeDistance (s : State) (d dt : Nat) : State :=
  if d ≤ distanceLimit s.image.params.vmax s.image.params.p dt then
    let s' := if s.primary then
        let s' := (s.addDistance d).updateBasis s.integ.tenths
        { s' with trip := { s'.trip with a := s'.trip.a.withDist d, b := s'.trip.b.withDist d } }.reportTrip
      else s
    s'.enterWindow d dt
  else s.clearMark.reportFault .implausible

/-! ## Fuel -/

/-- A fuel delta handed on by the Signal Table (R29), one accepted being reported to the standing asks (R81). -/
def State.takeFuel (s : State) (f dt : Nat) : State :=
  if f ≤ fuelLimit s.image.params.fmax dt then
    if s.primary then
      { s with trip := { s.trip with a := s.trip.a.withFuel f, b := s.trip.b.withFuel f }
               integ := { s.integ with quanta := min 65535 (s.integ.quanta + f) } }.reportTrip
    else s
  else s.clearMark.reportFault .implausible

/-- A TANK_LEVEL arrival report: refill detection (R36). -/
def State.tankArrived (s : State) : State :=
  let sl := s.slots[6]
  if s.integ.armed && s.keyOn && sl.state = .fresh then
    { s with integ := { s.integ with armed := false } }.setVolume
      (some (refilled s.integ.volume (senderVolume s.image.params.tank sl.value) s.image.params.refill))
  else s

/-! ## Days -/

/-- A DAY_COUNT delta judged by the Service Monitor (R135). -/
def State.countDays (s : State) (d : Nat) (kept : Bool) : State :=
  if s.primary then
    if d ≤ (if kept then 255 else 7) then s.withService { s.service with days := min 65535 (s.service.days + d) }
    else s.reportFault .implausible
  else s

/-- A DAY_COUNT delta taken by the Trip Computer (R74). -/
def State.markDay (s : State) (d : Nat) (kept : Bool) : State :=
  if s.primary && s.image.params.tripBAuto && d ≠ 0 && (kept || decide (d ≤ 7)) then
    { s with trip := { s.trip with dayMark := true } }
  else s

/-- A DAY_COUNT arrival report: the journey reset judged while the window is open and the slot FRESH (R75). A reset made is
reported to the standing asks (R81). -/
def State.judgeJourney (s : State) : State :=
  if s.trip.window.isSome && s.slots[13].state = .fresh then
    let s' := { s with trip := { s.trip with window := none, dayMark := false } }
    if s.trip.dayMark then { s' with trip := { s'.trip with b := .zero } }.reportTrip else s'
  else s

/-! ## Consumers of reports -/

/-- A mirror's range source after a report of slot 16 (R78): `before` is the source's value before it. -/
def State.mirrorRange (s : State) (before : Option Nat) : State :=
  if !s.primary && rangeValue s ≠ before then s.reportSources [.range] else s

/-- An arrival taken by the consumers other than the Warning Monitor (section 1.5); `before` is the range source before the
telegram. -/
def State.consume (before : Option Nat) (s : State) (x : Arrival) : State :=
  match x.slot.val with
  | 4 => match x.delta with | some d => s.takeDistance d x.dt | none => s
  | 5 => match x.delta with | some f => s.takeFuel f x.dt | none => s
  | 6 => s.tankArrived
  | 13 =>
    (match x.delta with | some d => (s.countDays d x.kept).markDay d x.kept | none => s).judgeJourney
  | 16 => s.mirrorRange before
  | _ => s

/-- A change of a slot to LATE or LOST taken by the consumers other than the Warning Monitor (R32, R38, R78). They take it before
the Warning Monitor does: log entry 68. -/
def State.consumeLoss (before : Option Nat) (s : State) (i : SlotId) : State :=
  match i.val with
  | 4 => if s.slots[i].usable then s else s.distanceGone
  | 5 => if s.slots[i].usable then s else s.clearMark
  | 16 => s.mirrorRange before
  | _ => s

/-! ## Presses -/

/-- A page press (R72). A press that leaves the current page as it was, the list holding one page, is no change of it: the line
waits for the refresh timer (R128). -/
def State.pagePress (s : State) : State :=
  let next := (s.trip.page + 1) % max 1 s.image.params.pages.length
  if s.keyOn && next ≠ s.trip.page then
    let s := { s with trip := { s.trip with page := next } }
    { s with display := s.display.draw s.displayView }
  else s

/-- The trip that a page belongs to (R70). -/
def Page.trip : Page → Option TripName
  | .distance n | .avgSpeed n | .avgCons n | .fuelUsed n | .time n => some n
  | .range | .outsideTemp => none

/-- A reset press (R73), a reset made being reported to the standing asks (R81). -/
def State.resetPress (s : State) : State :=
  if s.primary && s.keyOn && s.display.mode = .page then
    match (currentPage s).trip with
    | some .a => { s with trip := { s.trip with a := .zero } }.reportTrip
    | some .b => { s with trip := { s.trip with b := .zero } }.reportTrip
    | none => s
  else s

/-- An acknowledge press (R94). -/
def State.ackPress (s : State) : State := s.withAlerts (Machine.ackPress s s.alerts)

/-- The presses of one arrival, all of one button before the next (R19). -/
def State.takePresses (s : State) (presses : List Nat) : State :=
  let s := (State.pagePress^[presses.getD 0 0]) s
  let s := (State.resetPress^[presses.getD 1 0]) s
  (State.ackPress^[presses.getD 2 0]) s

/-! ## A telegram's arrivals -/

/-- The Signal Table with one value applied (R4). -/
def applyFeed (now : Stamp) (slots : Vector Slot 19) (f : Subscription × Nat) : Vector Slot 19 :=
  slots.set f.1.slot (slots[f.1.slot].afterArrival f.1.slot f.1 f.2 now)

/-- A PUBLISH telegram taken by the Signal Table (R3, R4): every slot is updated before any consumer is told, then the
consumers, the Warning Monitor, and last the presses (R19), which find the display's deferred switch and page made: log
entry 55. -/
def State.takePublish (s : State) (m : Publish) : State :=
  let fed := feeds s.image.subs m
  let arrivals := fed.map fun f => s.slots[f.1.slot].handsOn f.1.slot f.1 f.2 s.now
  let before := rangeValue s
  let s := { s with slots := fed.foldl (applyFeed s.now) s.slots }
  let s := arrivals.foldl (State.consume before) s
  let s := s.reportSources ((arrivals.filter (·.reported)).map fun x => .slot x.slot)
  let s := s.settleDisplay
  arrivals.foldl (fun s x => s.takePresses x.presses) s

end Sys2Proof.Machine
end

