-- ==== Sys2Proof/Machine/BodyLine.lean ====
section
/-! DEFINITION. The commands of the Line Station (chapter 10): receptions, the wire, transmit attempts and its timers. -/

namespace Sys2Proof.Machine

/-! ## The outcomes of an attempt -/

/-- An entry that stays after its attempt: the mark goes, and follow-on data replace its data (R178). -/
def TxEntry.stays (attempts : Nat) (e : TxEntry) : TxEntry :=
  { e with attempts, inFlight := false, data := e.followOn.getD e.data, followOn := none }

/-- The queue without the entry in flight; follow-on data stand last with attempt count 0 (R178, R179). -/
def queueAfter (queue : List TxEntry) (e : TxEntry) : List TxEntry :=
  queue.filter (fun x => !x.inFlight) ++ (if e.followOn.isSome then [e.stays 0] else [])

/-- The lists told that a reply has succeeded or been discarded (R178, R179, R184). A standing reply counts as the reply of the
registration that now has its asker, group and index: log entry 66. -/
def Line.replyEnded (e : TxEntry) (discarded : Bool) (l : Line) : Line :=
  match e.source, e.target with
  | .reply, some asker => l.replyGone asker e.group
  | .standing, some asker => if discarded then l.dropStanding asker e.group e.index else l
  | _, _ => l

/-- An attempt that failed: the count rises, and at the retry limit the entry is discarded with one occurrence (R178, R179). -/
def State.attemptFailed (s : State) (e : TxEntry) (fault : FaultKind) : State :=
  let n := e.attempts + 1
  if n < s.image.params.retryLimit then
    s.onLine fun l => { l with queue := l.queue.map fun x => if x.inFlight then x.stays n else x }
  else (s.onLine fun l => { l with queue := queueAfter l.queue e }.replyEnded e true).reportFault fault

/-- The end of the attempt in flight (R178). -/
def State.attemptEnded (s : State) (e : TxEntry) : Attempt → State
  | .lostContention =>
    s.onLine fun l => { l with queue := l.queue.map fun x => if x.inFlight then x.stays x.attempts else x }
  | .collision => (s.onLine fun l => { l with receiver := .abandoned }).attemptFailed e .lineCollision
  | .unheard => s.attemptFailed e .lineSilent
  | .success => s.onLine fun l => ({ l with queue := queueAfter l.queue e }.replyEnded e false).served e.source

/-! ## Commands -/

/-- TELEGRAM_DISCARDED (R173, R174). A reception that passes R173 is no such event. -/
def execTelegramDiscarded (t : Stamp) (reception : List RxByte) (s : State) : Result :=
  if (receive reception).isSome then .refused (.notThisTelegram "TELEGRAM_DISCARDED")
  else s.event t fun s =>
    if s.receives then
      let n := s.line.rxErrors + 1
      let s := s.onLine fun l =>
        { l with rxErrors := if 16 ≤ n then 0 else n, idle := false, stuck := false, acked := false }
      if 16 ≤ n then s.reportFault .rxCheck else s
    else s

/-- LINE_STUCK (R180): one occurrence for each run of a dominant wire. A further one needs the wire to have read recessive, which
a gap, a reception or the falling edge of a new run (WAKE) shows: log entry 19. -/
def execLineStuck (t : Stamp) (s : State) : Result :=
  s.event t fun s =>
    if s.awake && !s.line.stuck then
      (s.onLine fun l => { l with stuck := true, idle := false }).reportFault .lineStuck
    else s

/-- INTERFRAME_GAP_ELAPSED (R172, R177): the line is idle, the receiver takes the next telegram, and the transmitter chooses. In
ASLEEP it only shows that the wire has read recessive (R180): log entries 19 and 24. -/
def execInterframeGapElapsed (t : Stamp) (s : State) : Result :=
  s.event t fun s =>
    if s.awake then
      s.onLine fun l => { l with idle := !l.sending, stuck := false, receiver := .listens }.choose
    else s.onLine fun l => { l with stuck := false }

/-- TRANSMIT_OUTCOME (R178, R179): the end of the attempt in flight. -/
def execTransmitOutcome (t : Stamp) (outcome : Attempt) (s : State) : Result :=
  s.event t fun s =>
    match s.line.flying with
    | some e => (s.onLine fun l => { l with idle := false }).attemptEnded e outcome
    | none => s

/-- PUBLISH_RECEIVED (R3, R175): a telegram of the part's own number is not matched, and before step 5 it counts for no slot
(R193). -/
def execPublishReceived (t : Stamp) (m : Publish) (s : State) : Result :=
  if m.fits then
    s.event t fun s =>
      if s.receives then
        let s := s.accept m.origin false
        if s.key.started && m.origin ≠ s.key.station then s.takePublish m else s
      else s
  else .refused (.notThisTelegram "PUBLISH_RECEIVED")

/-- OTHER_TELEGRAM_ACCEPTED (R175): a REPLY, or an ASK or COMMAND not addressed to the part, goes no further. -/
def execOtherTelegramAccepted (t : Stamp) (origin : Station) (isReply : Bool) (s : State) : Result :=
  s.event t fun s => if s.receives then s.accept origin isReply else s

/-- UNKNOWN_ASK_OR_COMMAND (R182): a pair of kind and group that the part does not take is answered UNKNOWN, or NOT_HELD for a
COMMAND with the hold flag from a station that is not the holder (R144). -/
def execUnknownAskOrCommand (t : Stamp) (kind : RequestKind) (group : Byte) (r : Request) (s : State) : Result :=
  if takes kind group then .refused (.notThisTelegram "UNKNOWN_ASK_OR_COMMAND")
  else s.request t "UNKNOWN_ASK_OR_COMMAND" group r fun index s =>
    if kind = .command then s.unlessStranger r group index fun s => s.answer r.asker group index .unknown
    else s.answer r.asker group index .unknown

/-- STATUS_TIMER_EXPIRY (R181): a 40H is handed to the queue every 500 ms. -/
def execStatusTimerExpiry (t : Stamp) (s : State) : Result :=
  s.expiry t s.line.statusTimer fun s =>
    (s.onLine fun l => { l with statusTimer := startTimer s.now 500 }).publish .status 0x40 (statusBytes s)

/-- SPACING_TIMER_EXPIRY (R186): the spacing timer of the registration stops, and where it is due the close of the event lets it try
again. -/
def execSpacingTimerExpiry (t : Stamp) (asker : Station) (group index : Byte) (s : State) : Result :=
  s.event t fun s =>
    let stop (x : StandingAsk) : StandingAsk :=
      if x.isFor asker group index && isDue s.now x.spacing then { x with spacing := none } else x
    s.onLine fun l => { l with standing := l.standing.map stop }

end Sys2Proof.Machine
end

