-- ==== Sys2Proof/Machine/GaugeOps.lean ====
section
/-! DEFINITION. The pointer channels (chapter 3): the status of a source, one gauge update, key transitions, the gauge test and the
start of a channel at RESTART. -/

namespace Sys2Proof.Machine

/-- The status of a channel's source (R44); LATE and CURRENT carry the input. -/
inductive SourceStatus where
  | current (x : Int)
  | late (x : Int)
  | unusable
deriving DecidableEq, Repr

/-- The status of a source fed from a slot (R44). -/
def slotStatus (sl : Slot) (shift : Int) : SourceStatus :=
  match sl.state with
  | .fresh => .current ((sl.value : Int) - shift)
  | .late => .late ((sl.value : Int) - shift)
  | _ => .unusable

/-- Each channel's input and the status of its source (R44). -/
def gaugeSource (s : State) (i : Fin 6) : SourceStatus :=
  match i.val with
  | 0 =>
    match s.integ.speed with
    | some v => if s.slots[4].state = .late then .late v else .current v
    | none => .unusable
  | 1 => slotStatus s.slots[0] 0
  | 2 => match shownVolume s.integ.volume with | some v => .current v | none => .unusable
  | 3 => slotStatus s.slots[1] 40
  | 4 => slotStatus s.slots[2] 0
  | _ => slotStatus s.slots[3] 0

/-- The source check of TRACKING, HOLDING and RESTING, with the target of the state it leaves the channel in (R50, R53 to
R55). -/
def Channel.check (c : Calibration) (status : SourceStatus) (ch : Channel) : Channel :=
  match status with
  | .current x => { ch with state := .tracking, target := gaugeTarget c x }
  | .late x => if ch.state = .holding then ch else { ch with state := .holding, target := gaugeTarget c x }
  | .unusable =>
    if c.holds && ch.state ≠ .resting then { ch with state := .holding }
    else { ch with state := .resting, target := 0 }

/-- The filter and the move of TRACKING, HOLDING and RESTING (R51, R52). -/
def Channel.follow (c : Calibration) (ch : Channel) : Channel :=
  let f := filterStep ch.filter (16 * ch.target) (2 ^ c.damping)
  { ch with filter := f, position := moveToward ch.position (roundDiv f 16) c.slew }

/-- A channel that leaves PARKED or completes its zeroing with the key on (R57, R61). -/
def Channel.depart (sweep : Bool) (ch : Channel) : Channel :=
  { ch with filter := 0, state := if sweep then .sweepUp else .tracking }

/-- One gauge update of an enabled channel (R49). -/
def Channel.update (c : Calibration) (status : SourceStatus) (sweep keyOn : Bool) (ch : Channel) : Channel :=
  match ch.state with
  | .zeroing =>
    let n := ch.zeroCount - min 6 ch.zeroCount
    let ch := { ch with zeroCount := n }
    if n = 0 then
      let ch := { ch with position := 0, filter := 0 }
      if keyOn then ch.depart sweep else { ch with state := .parked }
    else ch
  | .sweepUp =>
    let p := moveToward ch.position c.fs c.slew
    { ch with position := p, state := if p = c.fs then .sweepDown else .sweepUp }
  | .sweepDown =>
    let p := moveToward ch.position 0 c.slew
    if p = 0 then { ch with position := 0, filter := 0, state := .tracking } else { ch with position := p }
  | .tracking | .holding | .resting => (ch.check c status).follow c
  | .returning =>
    let p := moveToward ch.position 0 c.returnSlew
    { ch with position := p, state := if p = 0 then .parked else .returning }
  | .parked => ch

/-- One gauge update of all six channels; a disabled channel takes no part (R47, R49). -/
def gaugeUpdate (s : State) : Vector Channel 6 :=
  Vector.ofFn fun i =>
    let c := s.image.gauges[i]
    if c.enabled then
      (s.gauges.channels[i]).update c (gaugeSource s i) s.image.params.sweep s.keyOn
    else s.gauges.channels[i]

/-- The key state became OFF (R59). -/
def Channel.keyOff (ch : Channel) : Channel :=
  match ch.state with
  | .sweepUp | .sweepDown | .tracking | .holding | .resting => { ch with state := .returning }
  | .zeroing | .returning | .parked => ch

/-- The key state left OFF (R61). -/
def Channel.keyLeavesOff (sweep : Bool) (ch : Channel) : Channel :=
  match ch.state with
  | .parked => ch.depart sweep
  | .returning => { ch with filter := 16 * ch.position, state := .tracking }
  | _ => ch

/-- The enabled channels changed. -/
def State.mapChannels (s : State) (f : Channel → Channel) : State :=
  let channels := Vector.ofFn fun i =>
    if s.image.gauges[i].enabled then f s.gauges.channels[i] else s.gauges.channels[i]
  { s with gauges := { s.gauges with channels } }

/-- Whether a channel is addressed by the argument of a gauge test: its own number, or 7 for all enabled channels (R63). -/
def addressed (s : State) (arg : Nat) (i : Fin 6) : Bool := (arg = i.val || arg = 7) && s.image.gauges[i].enabled

/-- The answer to a gauge test (R63). -/
def gaugeTestStatus (s : State) (arg : Nat) : Status :=
  if arg = 6 ∨ 7 < arg then .unknown
  else if s.key.key = .off then .notNow
  else if (List.finRange 6).any fun i => arg = i.val && !s.image.gauges[i].enabled then .notNow
  else if (List.finRange 6).any fun i => addressed s arg i && s.gauges.channels[i].state = .zeroing then .notNow
  else .done

/-- The addressed channels sent on their sweep (R63). -/
def State.sweepAddressed (s : State) (arg : Nat) : State :=
  let channels := Vector.ofFn fun i =>
    if addressed s arg i then { s.gauges.channels[i] with state := .sweepUp } else s.gauges.channels[i]
  { s with gauges := { s.gauges with channels } }

/-- A channel at RESTART, from its old calibration to its new one (R62). -/
def Channel.restarted (before after : Calibration) (ch : Channel) : Channel :=
  if !after.enabled then { state := .parked, position := 0, target := 0, filter := 0, zeroCount := 0 }
  else if before.enabled && ch.state ≠ .zeroing && decide (ch.position ≤ after.fs) then
    { state := .resting, position := ch.position, target := 0, filter := 16 * ch.position, zeroCount := 0 }
  else Channel.powered after

end Sys2Proof.Machine
end

