-- ==== Sys2Proof/Machine/Commands.lean ====
section
/-! DEFINITION. The COMMAND telegrams 60H to 67H (R182): the hold and its latch (chapter 8), the configuration writes (section 9.7), the
fault record (R100), the gauge test (R63) and RESTART (R195). -/

namespace Sys2Proof.Machine

/-- HOLD_RELEASE (R144). -/
def execHoldRelease (t : Stamp) (r : Request) (s : State) : Result :=
  s.request t "HOLD_RELEASE" 0x60 r fun index s =>
    s.unlessStranger r 0x60 index fun s =>
      if s.hold.isHolder r.asker then s.endHold.answer r.asker 0x60 index .done
      else s.answer r.asker 0x60 index .notHeld

/-- WRITE_ENABLE (R146). -/
def execWriteEnable (t : Stamp) (r : Request) (s : State) : Result :=
  s.request t "WRITE_ENABLE" 0x61 r fun index s =>
    s.ifHolder r 0x61 index fun s =>
      { s with hold := { s.hold with latch := true } }.answer r.asker 0x61 index .done

/-- A BAD_COMPLEMENT refusal: one PROTECTION occurrence, and the latch is cleared (R147, R165). -/
def State.badComplement (s : State) (r : Request) (group index : Byte) : State :=
  (s.refuse r group index .badComplement).clearLatch

/-- The checks of R147 after steps 1 and 2 of R145. -/
def State.takeReset (s : State) (r : Request) (index : Byte) : State :=
  if r.arg 1 ≠ some (~~~index) then s.badComplement r 0x62 index
  else if 3 < index.toNat then s.answer r.asker 0x62 index .unknown
  else if !s.hold.latch then s.refuse r 0x62 index .noLatch
  else if s.service.reset.isSome then s.answer r.asker 0x62 index .busy
  else if s.key.pins.supplyLow then s.answer r.asker 0x62 index .notNow
  else
    { s with service := { s.service with reset := some { asker := r.asker, selector := index.toNat } } }.requestSave
      false true false

/-- SERVICE_RESET (R145, R147). -/
def execServiceReset (t : Stamp) (r : Request) (s : State) : Result :=
  s.request t "SERVICE_RESET" 0x62 r fun index s =>
    s.unlessStranger r 0x62 index fun s =>
      if !s.primary then s.answer r.asker 0x62 index .notNow
      else s.ifHolder r 0x62 index fun s => s.takeReset r index

/-- ERASE_CONFIG_BLOCK (R145, R166). -/
def execEraseConfigBlock (t : Stamp) (r : Request) (s : State) : Result :=
  s.request t "ERASE_CONFIG_BLOCK" 0x63 r fun index s =>
    s.ifHolder r 0x63 index fun s =>
      if 3 < index.toNat then s.answer r.asker 0x63 index .unknown
      else if !s.hold.latch then s.refuse r 0x63 index .noLatch
      else if s.store.configBusy then s.answer r.asker 0x63 index .busy
      else if s.key.pins.supplyLow then s.answer r.asker 0x63 index .notNow
      else
        let entry := StoreRequest.erase (.config r.asker) (Fin.ofNat 16 index.toNat)
        { s with store := { s.store with queue := s.store.queue ++ [entry] } }.serve

/-- Whether the value and its complement of a WRITE CONFIG WORD are present and agree (R165). -/
def complementHolds (r : Request) : Bool :=
  match r.word 1, r.word 3 with
  | some v, some c => c = ~~~v
  | _, _ => false

/-- WRITE_CONFIG_WORD (R145, R165): the index is the address. -/
def execWriteConfigWord (t : Stamp) (r : Request) (s : State) : Result :=
  s.request t "WRITE_CONFIG_WORD" 0x64 r fun index s =>
    s.ifHolder r 0x64 index fun s =>
      if !complementHolds r then s.badComplement r 0x64 index
      else if !s.hold.latch then s.refuse r 0x64 index .noLatch
      else if s.store.configBusy then s.answer r.asker 0x64 index .busy
      else if s.key.pins.supplyLow then s.answer r.asker 0x64 index .notNow
      else
        let entry := StoreRequest.program r.asker index ((r.word 1).getD 0)
        { s with store := { s.store with queue := s.store.queue ++ [entry] } }.arrive (configBlock index)

/-- The fault record cleared (R100): FAULT_ANY's change is reported, and a queued 48H takes the cleared record. -/
def State.clearFaults (s : State) : State :=
  let had := s.faultAny
  let s := { s with faults := .cleared }
  let s := if had then s.reportSources [.faultAny] else s
  if s.line.has .fault then s.publish .fault 0x48 (faultBytes .cleared s.image.params.reportMask) else s

/-- FAULT_CLEAR (R100, R145). -/
def execFaultClear (t : Stamp) (r : Request) (s : State) : Result :=
  s.request t "FAULT_CLEAR" 0x65 r fun index s =>
    s.ifHolder r 0x65 index fun s => s.clearFaults.answer r.asker 0x65 index .done

/-- GAUGE_TEST (R63). -/
def execGaugeTest (t : Stamp) (r : Request) (s : State) : Result :=
  s.request t "GAUGE_TEST" 0x66 r fun index s =>
    s.unlessStranger r 0x66 index fun s =>
      let status := gaugeTestStatus s index.toNat
      (if status = .done then s.sweepAddressed index.toNat else s).answer r.asker 0x66 index status

/-- A RESTART taken (R195): the key-off save in PRIMARY role, the end of the hold at once in MIRROR role. -/
def State.beginRestart (s : State) : State :=
  if s.primary then
    { s with key := { s.key with restart := some { commitOpen := true, saveOpen := true, draining := false } } }.keyOffSave true
  else s.beginDrain { commitOpen := false, saveOpen := false, draining := false }

/-- RESTART (R145, R195). -/
def execRestart (t : Stamp) (r : Request) (s : State) : Result :=
  s.request t "RESTART" 0x67 r fun index s =>
    s.ifHolder r 0x67 index fun s =>
      if s.key.restart.isSome || s.service.reset.isSome then s.answer r.asker 0x67 index .busy
      else (s.answer r.asker 0x67 index .done).beginRestart

end Sys2Proof.Machine
end

