-- ==== Sys2Proof/Machine/KeyOps.lean ====
section
/-! DEFINITION. The named operations of the Key and Supply Monitor (chapter 11) that run through the blocks: a change of key state taken
by all of them (R189), wake (R191) and entry to ASLEEP (R190). -/

namespace Sys2Proof.Machine

/-! ## A change of key state, block by block in the order of R189's table -/

/-- The Gauge Drive takes a key change (R59, R61). -/
def State.gaugesTakeKey (s : State) (before : KeyState) : State :=
  if !s.keyOn then s.mapChannels Channel.keyOff
  else if before = .off then s.mapChannels (Channel.keyLeavesOff s.image.params.sweep)
  else s

/-- The Warning Monitor takes a key change: every condition is evaluated (R87), and the bulb check begins at the first RUN since
OFF or ends at OFF (R97). -/
def State.warningsTakeKey (s : State) (firstRun : Bool) : State :=
  let s := s.evalAll
  if firstRun then { s with monitor := s.monitor.startBulbCheck s.now }
  else if !s.keyOn then { s with monitor := s.monitor.endBulbCheck s.image }
  else s

/-- The message of the key-on announcement, where the service state is not CLEAR (R139). -/
def announcement (s : State) : Option Nat :=
  let n := serviceState s
  if n = 0 then none
  else
    let counter := if distState s = n then 0 else if daysState s = n then 1 else 2
    some (20 + 3 * (n - 1) + counter)

/-- The key-on announcement posted (R139). -/
def State.announce (s : State) : State :=
  match announcement s with
  | some id =>
    { s with display := s.display.post s.displayView { id, priority := 2, duration := some 4, poster := .service } }
  | none => s

/-- The Service Monitor takes a key change (R136, R139). -/
def State.serviceTakesKey (s : State) (before : KeyState) (firstRun : Bool) : State :=
  if s.primary then
    let timer := if s.key.key = .run then (if before = .run then s.service.secTimer else startTimer s.now 1000) else none
    let s := { s with service := { s.service with secTimer := timer } }
    if firstRun then s.announce else s
  else s

/-- The Trip Computer takes a key change (R68, R75). -/
def State.tripTakesKey (s : State) (before : KeyState) : State :=
  if s.primary then
    if s.key.key = .run then
      if before = .run then s
      else
        { s with trip := { s.trip with
            tripTimer := startTimer s.now 1000
            window := if s.image.params.tripBAuto then startTimer s.now 10000 else none } }
    else { s with trip := { s.trip with tripTimer := none, window := none } }
  else s

/-- The integrator takes a key change: refill detection is armed when the key leaves OFF (R36). -/
def State.integTakesKey (s : State) (before : KeyState) : State :=
  if before = .off && s.keyOn then { s with integ := { s.integ with armed := true } } else s

/-- The Display Controller takes a key change (R116, R126). -/
def State.displayTakesKey (s : State) : State :=
  { s with display := s.display.keyChange s.displayView (!s.keyOn) }

/-- The store takes a key change: the key-off save (R164). -/
def State.storeTakesKey (s : State) : State := if s.primary && !s.keyOn then s.keyOffSave false else s

/-- The Line Station takes a key change: the STATUS timer (R181), the standing-ask list (R185). -/
def State.lineTakesKey (s : State) (before : KeyState) : State :=
  if !s.keyOn then s.onLine fun l => { l with statusTimer := none, standing := [] }
  else if before = .off then s.onLine fun l => { l with statusTimer := startTimer s.now 500 }
  else s

/-- A change of key state taken and reported to every block (R189). -/
def State.takeKey (s : State) (after : KeyState) : State :=
  let before := s.key.key
  let firstRun := decide (after = .run) && !s.key.runSeen
  let runSeen := decide (after ≠ .off) && (s.key.runSeen || decide (after = .run))
  let s := { s with key := { s.key with key := after, runSeen := runSeen } }
  let s := s.gaugesTakeKey before
  let s := s.warningsTakeKey firstRun
  let s := s.serviceTakesKey before firstRun
  let s := s.tripTakesKey before
  let s := s.integTakesKey before
  let s := s.displayTakesKey
  let s := s.storeTakesKey
  s.lineTakesKey before

/-! ## Power modes -/

/-- The duration of the key and service-enable counts (R189). -/
def settleMillis : Nat := 20

/-- Wake from ASLEEP (R191): the quiet, gauge update and fuel timers start, the lamps are set from the list, the display mode is
worked out, and the receiver waits for the gap. -/
def State.wake (s : State) : State :=
  let key := { s.key with
    mode := .awake, quiet := startTimer s.now 5000, svcEn := s.key.pins.svcEn, svcTimer := none
    keyTimer := if derivedKey s.key.pins = s.key.key then none else startTimer s.now settleMillis }
  let s := { s with
    key := key
    gauges := { s.gauges with updateTimer := startTimer s.now 20 }
    integ := { s.integ with fuelTimer := startTimer s.now 1000 }
    monitor := { s.monitor with lampsLive := true }.relight s.image
    line := { s.line with idle := false, receiver := .woken } }
  { s with display := s.display.workOutMode s.displayView }

/-- Entry to ASLEEP, block by block (R8, R22, R66, R88, R96, R104, R116, R185, R190). -/
def State.sleep (s : State) : State :=
  let s := { s with
    key := { s.key with mode := .asleep, quiet := none, keyTimer := none, svcTimer := none }
    slots := Vector.ofFn fun i => (s.slots[i]).asleep i
    integ := { s.integ with window := [], speed := none, mark := false, fuelTimer := none }
    gauges := { s.gauges with updateTimer := none }
    trip := { s.trip with window := none, tripTimer := none }
    monitor := .cleared
    chime := s.chime.sleep
    service := { s.service with secTimer := none }
    line := { s.line with standing := [], statusTimer := none } }
  { s with display := s.display.workOutMode s.displayView }

end Sys2Proof.Machine
end

