-- ==== Sys2Proof/Machine/Loader.lean ====
section
/-! DEFINITION. Loading the configuration image at a start (R194): the word map and entry layouts of section 9.2, the range checks and
fallbacks of R1, R2, R21, R33, R45, R70, R83, R96, R99, R103, R137 and R179. Every loader answers its items together with
the number of CONFIG_CONFLICT occurrences it reports. -/

namespace Sys2Proof.Machine

/-- Configuration word n of an image of 256 words. -/
def cfg (w : List Word) (n : Nat) : Word := w.getD n Config.erasedWord

/-- The 256 configuration words as read from the array (R194). -/
def configWords (a : Array16) : List Word := (List.range 256).map (readWord a)

/-- The configuration check: the 16-bit sum of words 0 to 255 is FFFFH (R194). -/
def configPasses (w : List Word) : Bool := wordSum w = 0xFFFF

/-- An item with its range and built-in value: the value taken, and 1 where the built-in value replaces it. -/
def item (v lo hi builtIn : Nat) : Nat × Nat := if lo ≤ v ∧ v ≤ hi then (v, 0) else (builtIn, 1)

/-! ## Subscriptions -/

/-- The periods Tp by their code (section 9.2). -/
def periodOf (code : Nat) : Nat := [20, 50, 100, 200, 500, 1000, 2000, 5000].getD code 20

/-- The widths that a slot accepts (R1). -/
def widthSuits (slot width : Nat) : Bool :=
  if slot = 4 ∨ slot = 5 ∨ slot = 12 then width = 2 else if slot = 13 then width = 1 else true

/-- Subscription entry n with the range checks of R1. -/
def loadSub (w : List Word) (n : Nat) : Subscription × Nat :=
  let x := cfg w (2 * n)
  let y := cfg w (2 * n + 1)
  if bit x 15 then
    let offset := field x 7 3
    let width := field x 5 2
    let slot := field x 0 5
    let k := field y 4 4
    if h : slot < 19 then
      if offset ≤ 5 ∧ 1 ≤ width ∧ 3 ≤ k ∧ widthSuits slot width then
        ({ enabled := true, origin := BitVec.ofNat 5 (field x 10 5), group := BitVec.ofNat 8 (field y 8 8), offset, width,
           slot := ⟨slot, h⟩, period := periodOf (field y 1 3), k }, 0)
      else (.disabled, 1)
    else (.disabled, 1)
  else (.disabled, 0)

/-- The whole subscription table: range checks first, then R2 over the entries still enabled. -/
def loadSubs (w : List Word) : Vector Subscription 16 × Nat :=
  let first : Vector (Subscription × Nat) 16 := Vector.ofFn fun n => loadSub w n.val
  let shadowed (n : Fin 16) : Bool :=
    first[n].1.enabled &&
      (List.finRange 16).any fun m => m < n && first[m].1.enabled && first[m].1.slot = first[n].1.slot
  (Vector.ofFn fun n => if shadowed n then .disabled else first[n].1,
   (first.toList.map (·.2)).sum + (List.finRange 16).countP fun n => shadowed n)

/-! ## Gauges -/

/-- A breakpoint input: unsigned, or two's complement for channel 3 (R45). -/
def breakpointInput (channel : Nat) (w : Word) : Int := if channel = 3 then w.toInt else w.toNat

/-- Gauge channel c with the checks of R45. A channel whose enabled field says no is disabled "without a fault". -/
def loadGauge (w : List Word) (c : Fin 6) : Calibration × Nat :=
  let x (k : Nat) : Word := cfg w (32 + 9 * c.val + k)
  let b := builtInGauges[c]
  if bit (x 0) 15 then
    let point (k : Nat) : Breakpoint := ⟨breakpointInput c.val (x (2 * k + 1)), field (x (2 * k + 2)) 0 10⟩
    let rising := (point 0).input < (point 1).input ∧ (point 1).input < (point 2).input ∧ (point 2).input < (point 3).input
    let onScale := (point 0).steps ≤ 960 ∧ (point 1).steps ≤ 960 ∧ (point 2).steps ≤ 960 ∧ (point 3).steps ≤ 960
    let fs := item (field (x 0) 0 10) 120 960 b.fs
    let d := item (field (x 0) 11 3) 0 4 b.damping
    let slew := item (field (x 2) 10 5) 1 24 b.slew
    let ret := item (field (x 4) 10 5) 1 24 b.returnSlew
    let good : Bool := rising ∧ onScale
    ({ enabled := good, fs := fs.1,
       points := if good then #v[point 0, point 1, point 2, point 3] else b.points,
       damping := d.1, slew := slew.1, returnSlew := ret.1, holds := !bit (x 0) 14 },
     fs.2 + d.2 + slew.2 + ret.2 + if good then 0 else 1)
  else ({ b with enabled := false }, 0)

/-- The six calibrations. -/
def loadGauges (w : List Word) : Vector Calibration 6 × Nat :=
  let all : Vector (Calibration × Nat) 6 := Vector.ofFn fun c => loadGauge w c
  (Vector.ofFn fun c => all[c].1, (all.toList.map (·.2)).sum)

/-! ## Warnings -/

/-- A warning source by its code, where the table may name it (R83). -/
def sourceOfCode (code : Nat) : Option Source :=
  if h : code < 19 then
    if code = 4 ∨ code = 5 ∨ code = 12 ∨ code = 13 then none else some (.slot ⟨code, h⟩)
  else if code = 32 then some .speed
  else if code = 33 then some .fuelVolume
  else if code = 34 then some .range
  else if code = 35 then some .serviceState
  else if code = 36 then some .faultAny
  else none

/-- A test kind by its code (section 9.2). -/
def testKindOf (code : Nat) : TestKind :=
  if code = 0 then .above else if code = 1 then .below else if code = 2 then .bitSet else .bitClear

/-- A test, where its source and its bit number are accepted (R83). -/
def loadTest (source kind arg : Nat) : Option Test :=
  let k := testKindOf kind
  if (k = .bitSet ∨ k = .bitClear) ∧ 23 < arg then none
  else (sourceOfCode source).map fun src => ⟨src, k, arg⟩

/-- A pattern by its code, the outer `none` for codes out of range (section 9.2). -/
def patternOf (code : Nat) : Option (Option Pattern) :=
  [some none, some (some .single), some (some .triple), some (some .slow), some (some .fast), some (some .tone)].getD code none

/-- Warning entry n with the checks of R83. -/
def loadWarning (w : List Word) (n : Nat) : WarningDef × Nat :=
  let x (k : Nat) : Word := cfg w (86 + 5 * n + k)
  let y (k : Nat) : Word := cfg w (205 + 2 * n + k)
  if bit (x 0) 15 then
    let first := loadTest (field (x 0) 9 6) (field (x 0) 7 2) (x 1).toNat
    let second := loadTest (field (x 0) 0 6) (field (x 4) 0 2) (x 2).toNat
    let present := bit (x 0) 6
    let remind := field (y 1) 0 6
    let masked := bit (x 4) 15 || bit (x 4) 14 || bit (x 4) 13
    match first, patternOf (field (x 4) 9 3) with
    | some f, some p =>
      if (present → second.isSome) ∧ masked ∧ remind ≤ 60 then
        ({ enabled := true, first := f, second := if present then second else none,
           hysteresis := field (x 3) 8 8, inOff := bit (x 4) 15, inAcc := bit (x 4) 14, inRun := bit (x 4) 13,
           debounce := field (x 3) 0 8, lossHolds := bit (x 4) 12, pattern := p,
           chimeClass := if bit (x 4) 8 then .low else .high, ackable := bit (x 4) 7,
           repeatLimit := field (y 0) 4 4, remind, lamps := BitVec.ofNat 8 (field (y 0) 8 8),
           message := field (x 4) 2 5 }, 0)
      else (.disabled, 1)
    | _, _ => (.disabled, 1)
  else (.disabled, 0)

/-- The warning table. -/
def loadWarnings (w : List Word) : Vector WarningDef 16 × Nat :=
  let all : Vector (WarningDef × Nat) 16 := Vector.ofFn fun n => loadWarning w n.val
  (Vector.ofFn fun n => all[n].1, (all.toList.map (·.2)).sum)

/-! ## Parameters -/

/-- The tank table with the checks of R33. -/
def loadTank (w : List Word) : Vector TankPoint 8 × Nat :=
  let t : Vector TankPoint 8 :=
    Vector.ofFn fun n => ⟨(cfg w (166 + 2 * n.val)).toNat, (cfg w (167 + 2 * n.val)).toNat⟩
  let rising := (List.finRange 7).all fun i : Fin 7 => t[i.val].raw < t[i.val + 1].raw
  if rising && t.toList.all (fun p => p.raw ≤ 254 && p.volume ≤ 9999) then (t, 0) else (builtInTank, 1)

/-- A page by its code (R70). -/
def pageOf (code : Nat) : Option Page :=
  [some (.distance .a), some (.avgSpeed .a), some (.avgCons .a), some (.fuelUsed .a), some (.time .a),
   some (.distance .b), some (.avgSpeed .b), some (.avgCons .b), some (.fuelUsed .b), some (.time .b),
   some .range, some .outsideTemp].getD code none

/-- Whether a mirror has a page (R70). -/
def mirrorHas : Page → Bool
  | .distance .a | .avgSpeed .a | .avgCons .a | .time .a | .range | .outsideTemp => true
  | _ => false

/-- The eight page codes of words 201 and 202 (section 9.2). -/
def pageCodes (w : List Word) : List Nat :=
  (List.range 8).map fun n => field (cfg w (201 + n / 4)) (12 - 4 * (n % 4)) 4

/-- The page list as formed from the codes, entry by entry (R70): the pages, the codes already standing in the list, the
conflicts, and whether a page was dropped because a mirror has it not. -/
def formPages (role : Role) : List Nat → List Page → Nat → Bool → List Page × Nat × Bool
  | [], got, bad, dropped => (got, bad, dropped)
  | c :: rest, got, bad, dropped =>
    if c = 15 then (got, bad, dropped)
    else match pageOf c with
      | none => formPages role rest got (bad + 1) dropped
      | some p =>
        if got.contains p then formPages role rest got (bad + 1) dropped
        else if role = .mirror ∧ !mirrorHas p then formPages role rest got bad true
        else formPages role rest (got ++ [p]) bad dropped

/-- The page list with its fallback (R70): an empty list takes the built-in one, with one occurrence unless the list emptied
in MIRROR role only through pages a mirror has not. -/
def loadPages (role : Role) (w : List Word) : List Page × Nat :=
  match formPages role (pageCodes w) [] 0 false with
  | ([], bad, dropped) => (builtInPages role, bad + if role = .mirror ∧ dropped ∧ bad = 0 then 0 else 1)
  | (pages, bad, _) => (pages, bad)

/-- A lamp combine mode by its code (section 9.2). -/
def lampModeOf (code : Nat) : LampMode :=
  if code = 0 then .any else if code = 1 then .all else if code = 2 then .notAny else .notAll

/-- The time-to-preempt in milliseconds by its code (R103). -/
def loadPreempt (code : Nat) : Option Nat × Nat :=
  [(some 0, 0), (some 250, 0), (some 500, 0), (some 1000, 0), (some 2000, 0), (some 4000, 0), (none, 0)].getD code
    (some 1000, 1)

/-- The cold threshold, two's complement (R137). -/
def loadCold (w : Word) : Int × Nat := if -40 ≤ w.toInt ∧ w.toInt ≤ 100 then (w.toInt, 0) else (60, 1)

/-- A limit and its margin, in stored units, with the check that the margin is less than the limit (R137). -/
def loadLimit (limit margin : Word) (limLo limHi limBuilt marLo marHi marBuilt : Nat) : (Nat × Nat) × Nat :=
  let l := item limit.toNat limLo limHi limBuilt
  let m := item margin.toNat marLo marHi marBuilt
  if m.1 < l.1 then ((l.1, m.1), l.2 + m.2) else ((limBuilt, marBuilt), l.2 + m.2 + 1)

/-- The range basis items with the check C_min ≤ R_q default ≤ C_max (R21). -/
def loadBasis (w : List Word) : (Nat × Nat × Nat) × Nat :=
  let lo := item (cfg w 187).toNat 100 10000 500
  let hi := item (cfg w 188).toNat 1000 60000 20000
  let rq := item (cfg w 189).toNat 100 60000 3000
  let n := lo.2 + hi.2 + rq.2
  if lo.1 ≤ rq.1 ∧ rq.1 ≤ hi.1 then ((lo.1, hi.1, rq.1), n) else ((500, 20000, 3000), n + 1)

/-- The parameters of words 166 to 204. -/
def loadParams (role : Role) (w : List Word) : Params × Nat :=
  let p := item (cfg w 182).toNat 100 4000 1000
  let q := item (cfg w 183).toNat 1 255 50
  let vmax := item (cfg w 184).toNat 100 350 300
  let fmax := item (cfg w 185).toNat 1 2000 600
  let refill := item (cfg w 186).toNat 10 500 50
  let basis := loadBasis w
  let tank := loadTank w
  let dist := loadLimit (cfg w 190) (cfg w 191) 1000 60000 15000 1 10000 1000
  let days := loadLimit (cfg w 192) (cfg w 193) 7 3650 365 1 365 30
  let wear := loadLimit (cfg w 194) (cfg w 195) 10 60000 2400 1 10000 240
  let cold := loadCold (cfg w 196)
  let high := item (cfg w 197).toNat 1000 16000 4500
  let retry := item (cfg w 198).toNat 1 15 8
  let preempt := loadPreempt (cfg w 199).toNat
  let pages := loadPages role w
  ({ p := p.1, q := q.1, vmax := vmax.1, fmax := fmax.1, refill := refill.1,
     cMin := basis.1.1, cMax := basis.1.2.1, rqDefault := basis.1.2.2, tank := tank.1,
     distLimit := 10 * dist.1.1, distMargin := 10 * dist.1.2, daysLimit := days.1.1, daysMargin := days.1.2,
     wearLimit := 1000 * wear.1.1, wearMargin := 1000 * wear.1.2, cold := cold.1, highRpm := high.1,
     retryLimit := retry.1, preempt := preempt.1,
     lampModes := Vector.ofFn fun n => lampModeOf (field (cfg w 200) (2 * n.val) 2),
     pages := pages.1, tripBAuto := bit (cfg w 203) 0, sweep := bit (cfg w 203) 1, reportMask := cfg w 204 },
   p.2 + q.2 + vmax.2 + fmax.2 + refill.2 + basis.2 + tank.2 + dist.2 + days.2 + wear.2 + cold.2 + high.2 + retry.2
     + preempt.2 + pages.2)

/-- The configuration image of a start with the faults it reports (R194): the items with one CONFIG_CONFLICT per fallback when
the check passes, the built-in image with one CONFIG_BAD when it fails. -/
def loadImage (role : Role) (a : Array16) : Image × List FaultKind :=
  let w := configWords a
  if configPasses w then
    let subs := loadSubs w
    let gauges := loadGauges w
    let warnings := loadWarnings w
    let params := loadParams role w
    ({ subs := subs.1, gauges := gauges.1, warnings := warnings.1, params := params.1, checkWord := cfg w 255 },
     List.replicate (subs.2 + gauges.2 + warnings.2 + params.2) .configConflict)
  else (builtInImage role, [.configBad])

end Sys2Proof.Machine
end

