-- ==== Sys2Proof/Machine/Startup.lean ====
section
/-! DEFINITION. The start-up sequence (R193): the straps (R188), the recovery scan (R169), the restored values (R170), the image (R194),
what every block takes at a start, and the taking of the key state. POWER_ON and the end of the restart wait share it. -/

namespace Sys2Proof.Machine

/-! ## The straps -/

/-- The station number of a strap level (R188). -/
def stationOf : StrapLevel → Station
  | .zero => 12 | .pulledDown => 13 | .floating => 14 | .one => 15

/-- The role of a strap level (R188). -/
def roleOf : StrapLevel → Role
  | .one => .mirror
  | .zero | .pulledDown | .floating => .primary

/-- The unit system of a strap level (R188). -/
def unitsOf : StrapLevel → Units
  | .zero | .pulledDown => .metric
  | .floating => .imperial
  | .one => .us

/-- The STRAP_INVALID occurrences of a start (R188). -/
def strapFaults (x : Straps) : List FaultKind :=
  (if x.role = .pulledDown ∨ x.role = .floating then [.strapInvalid] else []) ++
  (if x.units = .pulledDown then [.strapInvalid] else [])

/-! ## The recovery scan -/

/-- The slot of a ring's newest record (R152, R153). -/
def newestPlace (a : Array16) : Ring → Option (BlockId × Nat)
  | .odo => (newestOdo a).map (·.1)
  | .save => (newestSave a).map (·.1)

/-- The conditions of a ring's blocks from their words (R169). -/
def scanConditions (st : Store) (r : Ring) : Store :=
  let found (b : BlockId) : BlockCondition := if blockIsBlank st.array b then .blank else .used
  { st with conditions := (ringBlocks r).foldl (fun c (b : BlockId) => c.set b (found b)) st.conditions }

/-- The scan of one ring (R169): conditions, current block, next slot, and the erases it queues. A block that becomes current
and is not BLANK has an erase of it queued; log entry 21. -/
def scanRing (r : Ring) (st : Store) : Store :=
  let st := scanConditions st r
  let first : BlockId := (ringBlocks r).headD 0
  let place (b : BlockId) (slot : Nat) : Store :=
    st.withRing r { failed := false, current := b, next := slot, fails := 0 }
  let st := match newestPlace st.array r with
    | some (b, k) =>
      match blankSlotFrom st.array r b (k + 1) with
      | some j => place b j
      | none => (place (st.nextGood r b) 0).wantBlank r (st.nextGood r b)
    | none =>
      match (ringBlocks r).find? fun (b : BlockId) => decide (st.conditions[b] = BlockCondition.blank) with
      | some b => place b 0
      | none => (place first 0).wantBlank r first
  st.lookAhead r

/-- The store after the scan of both rings, in PRIMARY role (R169). The odometer ring is scanned first, so that its erase is queued
before that of the save ring: log entry 71. -/
def scanStore (array : Array16) : Store :=
  scanRing .save (scanRing .odo
    { array, op := .idle, opTimer := none, suspended := none, queue := [],
      conditions := Vector.replicate 16 .blank,
      odo := { failed := false, current := 4, next := 0, fails := 0 },
      save := { failed := false, current := 8, next := 0, fails := 0 } })

/-- The store of a mirror: no scan is made and blocks 4 to 15 are not classified (R154, R169). -/
def unscannedStore (array : Array16) : Store :=
  { array, op := .idle, opTimer := none, suspended := none, queue := [],
    conditions := Vector.replicate 16 .blank,
    odo := { failed := false, current := 4, next := 0, fails := 0 },
    save := { failed := false, current := 8, next := 0, fails := 0 } }

/-- The ODO_RECOVERY occurrence of a scan (R169). -/
def scanFaults (array : Array16) : List FaultKind :=
  if (newestOdo array).isNone ∧ ¬ (ringBlocks .odo).all (blockIsBlank array) then [.odoRecovery] else []

/-! ## Restored values -/

/-- The live odometer of a start (R170): `live` is the T held when a restart wait ended, 0 at power-on. -/
def restoredTenths (array : Array16) (live : Nat) : Nat :=
  let odo := ((newestOdo array).map (·.2)).getD 0
  let save := ((newestSave array).map fun r => twoWords r.2 1).getD 0
  max odo (max save live)

/-- The words of the record that supplies the restored values, in PRIMARY role (R170). -/
def restoredRecord (role : Role) (array : Array16) : Option (List Word) :=
  if role = .primary then (newestSave array).map (·.2) else none

/-- The integrator at a start (R22). -/
def startInteg (now : Stamp) (p : Params) (tenths : Nat) (w : Option (List Word)) : Integrator :=
  { tenths
    remainder := match w with
      | some w => if twoWords w 1 = tenths ∧ (nthWord w 3).toNat < p.p then (nthWord w 3).toNat else 0
      | none => 0
    window := [], speed := none
    volume := match w with
      | some w => if bit (nthWord w 21) 9 then some (16 * (nthWord w 24).toNat) else none
      | none => none
    armed := true
    rangeBase := match w with
      | some w => clamp p.cMin p.cMax (twoWords w 22)
      | none => p.rqDefault
    quanta := 0, mark := false, fuelTimer := startTimer now 1000 }

/-- A trip record from six words of a save record (R66). -/
def restoredTrip (w : List Word) (n : Nat) : TripRecord :=
  { dist := twoWords w n, fuel := twoWords w (n + 2), secs := twoWords w (n + 4) }

/-- The Trip Computer at a start (R66). The range is no value until step 5 first computes it: log entry 53. -/
def startTrip (w : Option (List Word)) : Trip :=
  { a := match w with | some w => restoredTrip w 4 | none => .zero
    b := match w with | some w => restoredTrip w 10 | none => .zero
    dayMark := false, window := none, tripTimer := none, page := 0, range := none }

/-- The Service Monitor at a start (R133). -/
def startService (w : Option (List Word)) : Service :=
  { dist := match w with | some w => min 16777215 (twoWords w 16) | none => 0
    days := match w with | some w => (nthWord w 18).toNat | none => 0
    wear := match w with | some w => twoWords w 19 | none => 0
    secTimer := none, reset := none }

/-- The slots at a start: ABSENT, with the DAY_COUNT base of the save record (R8, R20). -/
def startSlots (w : Option (List Word)) : Vector Slot 19 :=
  (Vector.replicate 19 Slot.cleared).set 13
    { Slot.cleared with
      base := match w with | some w => field (nthWord w 21) 0 8 | none => 0
      baseValid := match w with | some w => bit (nthWord w 21) 8 | none => false }

/-! ## Steps 1 to 4 -/

/-- The occurrences that steps 1 to 3 report, in their order (R188, R169, R194). -/
def startFaults (straps : Straps) (array : Array16) : List FaultKind :=
  let role := roleOf straps.role
  strapFaults straps ++ (if role = .primary then scanFaults array else []) ++ (loadImage role array).2

/-- An occurrence of the start-up sequence: counted, and its 48H handed on (R98, R99). Nothing is evaluated: the entries are
set INACTIVE at step 4; log entry 22. -/
def State.startFault (s : State) (k : FaultKind) : State :=
  let mask := s.image.params.reportMask
  let isNew := !bit s.faults.latched k.code && !bit mask k.code
  let s := { s with faults := s.faults.after k }
  if isNew then s.publish .fault 0x48 (faultBytes s.faults mask) else s

/-- Steps 1 to 4 of the start-up sequence (R193) on an array, with the pins and the Key and Supply Monitor's own items as
`key` gives them, the channels that the new image gives, and the live T of a RESTART. The store serves from the end of
step 2. -/
def startUp (now : Stamp) (array : Array16) (straps : Straps) (key : KeyMonitor) (line : Line) (live : Nat)
    (gauges : Image → Gauges) (freeIndex : Nat) (pending : List Instr) : State :=
  let role := roleOf straps.role
  let image := (loadImage role array).1
  let tenths := if role = .primary then restoredTenths array live else 0
  let w := restoredRecord role array
  let store := if role = .primary then scanStore array else unscannedStore array
  let store := if role = .primary ∧ ((newestOdo array).map (·.2)).getD 0 < tenths then store.joinCommit false false else store
  let s : State :=
    { now, image
      slots := startSlots w
      integ := startInteg now image.params tenths w
      gauges := gauges image
      trip := startTrip w
      monitor := .cleared, faults := .cleared, chime := .cleared, display := .cleared
      service := startService w
      hold := .cleared, store, line
      key := { key with station := stationOf straps.station, role, units := unitsOf straps.units,
                        mode := .awake, quiet := startTimer now 5000, restart := none, runSeen := false, key := .off }
      freeIndex, handed := .nothing, pending }
  ((startFaults straps array).foldl State.startFault s).serve

/-! ## Step 5 -/

/-- Step 5 of the start-up sequence (R193): the key state taken as a change from OFF, the lamps given over to the list (R96), the range computed
(R43), and a supply-low line already active taken as becoming active (R192). -/
def State.finishStart (s : State) (key : KeyState) : State :=
  let s := { s with key := { s.key with started := true, key := .off, runSeen := false }
                    monitor := { s.monitor with lampsLive := true } }
  let s := if key = .off then (s.mapChannels Channel.keyOff).displayTakesKey else s.takeKey key
  let s := { s with monitor := s.monitor.relight s.image }
  let s := if s.primary then
      ({ s with trip := { s.trip with range := primaryRange s } }.reportTrip).reportSources [.range]
    else s
  if s.primary && s.key.pins.supplyLow then s.supplyFailing else s

/-! ## Power-on and RESTART -/

/-- An array with a word program cut off: some of the bits to be cleared are clear, which ones being a free value. The second
part counts the free values used. Log entry 7. -/
def cutProgram (a : Array16) (address : Nat) (value : Word) (free : Nat) : Array16 × Nat :=
  (writeWord a address (readWord a address &&& (value ||| Config.freeBits free)), free + 1)

/-- An array with an erase of a block cut off: its words are in no defined state (R151). Log entry 6. -/
def cutErase (a : Array16 × Nat) (b : BlockId) : Array16 × Nat := (scrambleBlock a.1 b a.2, a.2 + 64)

/-- The array as a loss of supply leaves it: the operation in progress and a suspended erase are cut off. -/
def arrayAfterLoss (st : Store) (free : Nat) : Array16 × Nat :=
  let a : Array16 × Nat := match st.op with
    | .record r _ words pos _ _ =>
      cutProgram st.array (slotAddress r (st.ring r).current (st.ring r).next pos) (nthWord words pos) free
    | .word _ address value => cutProgram st.array address.toNat value free
    | .erasing job _ => cutErase (st.array, free) job.block
    | _ => (st.array, free)
  match st.suspended with
  | some job => cutErase a job.block
  | none => a

/-- Power-on (R193): steps 1 to 4 with everything but the array lost. -/
def State.powerOn (s : State) (straps : Straps) (pins : Pins) : State :=
  let a := arrayAfterLoss s.store s.freeIndex
  startUp s.now a.1 straps
    { pins, station := 0, role := .primary, units := .metric, key := .off,
      keyTimer := startTimer s.now settleMillis, svcEn := false, svcTimer := startTimer s.now settleMillis,
      mode := .awake, quiet := none, started := false, runSeen := false, restart := none }
    Line.cleared 0
    (fun image => { channels := Vector.ofFn fun i => Channel.powered image.gauges[i], updateTimer := startTimer s.now 20 })
    a.2 s.pending

/-- The end of the restart wait (R196): the sequence from step 1 with the channels by R62 and the key state already taken. The
journey window stays closed at RUN too (R66): log entry 63. An attempt in flight goes with its queue: log entry 64. -/
def State.restarted (s : State) (straps : Straps) : State :=
  let s := (startUp s.now s.store.array straps { s.key with started := false }
    { Line.cleared with stuck := s.line.stuck, receiver := s.line.receiver, acked := s.line.acked }
    (if s.primary then s.integ.tenths else 0)
    (fun image => { s.gauges with
      channels := Vector.ofFn fun i => (s.gauges.channels[i]).restarted s.image.gauges[i] image.gauges[i] })
    s.freeIndex s.pending).finishStart s.key.key
  { s with trip := { s.trip with window := none } }

end Sys2Proof.Machine
end

