-- ==== Sys2Proof/Machine/Power.lean ====
section
/-! DEFINITION. The commands of the Key and Supply Monitor (chapter 11): starts, the key and service-enable lines, the supply-low line,
sleep and wake. -/

namespace Sys2Proof.Machine

/-- POWER_ON (R193): the start-up sequence from step 1, with everything but the array lost. -/
def execPowerOn (t : Stamp) (straps : Straps) (pins : Pins) (s : State) : Result :=
  State.started ({ s with now := t }.powerOn straps pins)

/-- STARTUP_KEY_TAKEN (R193, step 5): the derived key state has held for 20 ms, and the SVC_EN level is taken where it has held
as long. -/
def execStartupKeyTaken (t : Stamp) (s : State) : Result :=
  s.event t fun s =>
    if !s.key.started && isDue s.now s.key.keyTimer then
      let held := isDue s.now s.key.svcTimer
      { s with key := { s.key with
          keyTimer := none
          svcEn := if held then s.key.pins.svcEn else s.key.svcEn
          svcTimer := if held then none else s.key.svcTimer } }.finishStart (derivedKey s.key.pins)
    else s

/-- The count of R189 after a change of the key lines: a new derived state restarts it, and after the start a return to the
key state stops it. -/
def State.countKey (s : State) (before : KeyState) : State :=
  let d := derivedKey s.key.pins
  if d = before then s
  else if s.key.started && d = s.key.key then { s with key := { s.key with keyTimer := none } }
  else { s with key := { s.key with keyTimer := startTimer s.now settleMillis } }

/-- KEY_LINE_CHANGE (R189, R191): the levels are recorded, an active line wakes the part, and the count of 20 ms moves. -/
def execKeyLineChange (t : Stamp) (acc run : Bool) (s : State) : Result :=
  s.event t fun s =>
    let before := derivedKey s.key.pins
    let s := { s with key := { s.key with pins := { s.key.pins with keyAcc := acc, keyRun := run } } }
    if s.awake then s.countKey before else if acc || run then s.wake else s

/-- KEY_STATE_CHANGE (R189): a derived state that has held for 20 ms is taken and reported to every block. -/
def execKeyStateChange (t : Stamp) (s : State) : Result :=
  s.event t fun s =>
    if s.key.started && isDue s.now s.key.keyTimer then
      { s with key := { s.key with keyTimer := none } }.takeKey (derivedKey s.key.pins)
    else s

/-- SVC_EN_LINE_CHANGE (R189, R191): the level is recorded; in AWAKE a level that differs from the one taken starts the count of
20 ms. Before step 5 every change starts it (R193). -/
def execSvcEnLineChange (t : Stamp) (level : Bool) (s : State) : Result :=
  s.event t fun s =>
    let changed := level ≠ s.key.pins.svcEn
    let s := { s with key := { s.key with pins := { s.key.pins with svcEn := level } } }
    if s.awake && changed then
      { s with key := { s.key with svcTimer :=
          if s.key.started && decide (level = s.key.svcEn) then none else startTimer s.now settleMillis } }
    else s

/-- SVC_EN_CHANGE_TAKEN (R189): the level that has held for 20 ms is reported to the Hold Controller (R142, R143). -/
def execSvcEnChangeTaken (t : Stamp) (s : State) : Result :=
  s.event t fun s =>
    if s.key.started && isDue s.now s.key.svcTimer then
      let s' := { s with key := { s.key with svcEn := s.key.pins.svcEn, svcTimer := none } }
      if s.key.svcEn && !s.key.pins.svcEn then s'.dropEnable else s'
    else s

/-- SUPPLY_LOW_ACTIVE (R163, R192). In ASLEEP and before step 5 the level is recorded only (R191, R192). -/
def execSupplyLowActive (t : Stamp) (s : State) : Result :=
  s.event t fun s =>
    let changed := !s.key.pins.supplyLow
    let s := { s with key := { s.key with pins := { s.key.pins with supplyLow := true } } }
    if changed && s.primary && s.awake && s.key.started then s.supplyFailing else s

/-- SUPPLY_LOW_INACTIVE (R163, R192): the store goes on with its queue. A save record that has waited for the line starts at once,
but where an erase is in flight it starts after it: log entry 69. -/
def execSupplyLowInactive (t : Stamp) (s : State) : Result :=
  s.event t fun s =>
    let s := { s with key := { s.key with pins := { s.key.pins with supplyLow := false } } }
    if s.awake then s.serve else s

/-- WAKE (R191): a dominant level on LINE. In ASLEEP it wakes the part. In AWAKE it is the start bit of another station's telegram
(R172): the line is no longer idle, and a receiver that let an abandoned telegram pass takes the one now beginning. In both
modes the wire had read recessive before it, so a stuck run has ended (R180). Log entries 18 and 19. -/
def execWake (t : Stamp) (s : State) : Result :=
  s.event t fun s =>
    let s := s.onLine Line.startBit
    if s.awake then s else s.wake

/-- ENTER_ASLEEP (R190): where all the sleep conditions hold. -/
def execEnterAsleep (t : Stamp) (s : State) : Result := s.event t fun s => if sleepReady s then s.sleep else s

/-- QUIET_TIMER_EXPIRY (R190). -/
def execQuietTimerExpiry (t : Stamp) (s : State) : Result :=
  s.expiry t s.key.quiet fun s => { s with key := { s.key with quiet := none } }

/-- RESTART_WAIT_END (R195, R196): where the conditions of the wait's end hold. -/
def execRestartWaitEnd (t : Stamp) (straps : Straps) (s : State) : Result :=
  if restartReady s then State.started ({ s with now := t }.restarted straps) else s.event t id

end Sys2Proof.Machine
end

