-- ==== Sys2Proof/Machine/ServiceStore.lean ====
section
/-! DEFINITION. The expiries of the Service Monitor and the Hold Controller (R136, R143), and the completions of the Non-Volatile Store
(R150, R151, R168). -/

namespace Sys2Proof.Machine

/-- The wear weight of a second, from the slots as they stand (R136). -/
def wearNow (s : State) : Nat :=
  let cold := match slotValue s 1 with | some v => decide ((v : Int) - 40 < s.image.params.cold) | none => false
  let fast := match slotValue s 0 with | some v => decide (s.image.params.highRpm < v) | none => false
  wearWeight cold fast

/-- Whether the engine runs, as ENGINE_FLAGS tells it (R136). -/
def engineRuns (s : State) : Bool := match slotValue s 11 with | some v => v.testBit 0 | none => false

/-- SERVICE_TIMER_EXPIRY (R136): a second of a running engine adds its weight to the wear counter. -/
def execServiceTimerExpiry (t : Stamp) (s : State) : Result :=
  s.expiry t s.service.secTimer fun s =>
    let s := { s with service := { s.service with secTimer := startTimer s.now 1000 } }
    if engineRuns s then s.withService { s.service with wear := min 4294967295 (s.service.wear + wearNow s) } else s

/-- HOLD_TIMER_EXPIRY (R143): the hold ends with one HOLD_EXPIRED occurrence. -/
def execHoldTimerExpiry (t : Stamp) (s : State) : Result :=
  s.expiry t s.hold.timer fun s => s.endHold.reportFault .holdExpired

/-- WORD_PROGRAM_COMPLETION (R150): the word of a record or of the configuration that is being programmed is complete. -/
def execWordProgramCompletion (t : Stamp) (stuck : Word) (s : State) : Result :=
  s.expiry t s.store.opTimer fun s =>
    match s.store.op with
    | .record r request words pos abandon tenths => s.recordWordDone r request words pos abandon tenths stuck
    | .word asker address value => s.configWordDone asker address value stuck
    | _ => s

/-- ERASE_ATTEMPT_END (R151): the erase time has run, and the blank check is made. -/
def execEraseAttemptEnd (t : Stamp) (residue : List (Fin 64 × Word)) (s : State) : Result :=
  s.expiry t s.store.opTimer fun s =>
    match s.store.op with
    | .erasing job _ => s.attemptDone job residue
    | _ => s

/-- READ_COMPLETION (R168). -/
def execReadCompletion (t : Stamp) (s : State) : Result :=
  s.expiry t s.store.opTimer fun s =>
    match s.store.op with
    | .reading asker address claim =>
      ({ s with store := s.store.ended }.settleRead asker address claim (some (readWord s.store.array address.toNat))).serve
    | _ => s

/-- READ_TIMEOUT (R168): a read not started within 1 s leaves the queue and is answered FAILED. -/
def execReadTimeout (t : Stamp) (asker : Station) (address : Byte) (s : State) : Result :=
  s.event t fun s =>
    let out (r : StoreRequest) : Bool := match r with
      | .read a b _ limit => a = asker && b = address && isDue s.now limit
      | _ => false
    match s.store.queue.find? out with
    | some (.read a b claim limit) =>
      { s with store := { s.store with queue := s.store.queue.erase (.read a b claim limit) } }.settleRead a b claim none
    | _ => s

end Sys2Proof.Machine
end

