-- ==== Sys2Proof/Machine/Signals.lean ====
section
/-! DEFINITION. The expiries of the Signal Table (R12, R13), the fuel timer (R35), the gauge update (R49) and the Trip Computer's timers
(R68, R75). -/

namespace Sys2Proof.Machine

/-- SLOT_LATE_EXPIRY (R12): in FRESH a change to LATE, reported; in ACQUIRING the acquisition begins again, unreported. -/
def execSlotLateExpiry (t : Stamp) (i : SlotId) (s : State) : Result :=
  s.expiry t s.slots[i].late fun s =>
    let before := rangeValue s
    let wasFresh := s.slots[i].state = .fresh
    let s := { s with slots := s.slots.set i ((s.slots[i]).afterLate i) }
    if wasFresh then (State.consumeLoss before s i).reportSources [.slot i] else s

/-- SLOT_LOST_EXPIRY (R13): a change to LOST, with DIST_GAP where DIST_COUNT was FRESH or LATE. The occurrence comes before the
report to the consumers and the Warning Monitor: log entry 51. At the expiry of slot 16 in MIRROR role the report of source
34 RANGE (R78) comes before that of the slot: log entry 68. -/
def execSlotLostExpiry (t : Stamp) (i : SlotId) (s : State) : Result :=
  s.expiry t s.slots[i].lost fun s =>
    let before := rangeValue s
    let gap := decide (i = 4) && s.slots[i].usable
    let s := { s with slots := s.slots.set i (s.slots[i]).afterLost }
    let s := if gap then s.reportFault .distGap else s
    (State.consumeLoss before s i).reportSources [.slot i]

/-- FUEL_TIMER_EXPIRY (R35): one step of the fuel filter where its conditions hold. -/
def execFuelTimerExpiry (t : Stamp) (s : State) : Result :=
  s.expiry t s.integ.fuelTimer fun s =>
    let s := { s with integ := { s.integ with fuelTimer := startTimer s.now 1000 } }
    match s.integ.volume, slotValue s 6 with
    | some f, some x =>
      if s.keyOn && !s.integ.armed then s.setVolume (some (fuelStep f (senderVolume s.image.params.tank x))) else s
    | _, _ => s

/-- GAUGE_UPDATE_EXPIRY (R49): one update of the six channels. -/
def execGaugeUpdateExpiry (t : Stamp) (s : State) : Result :=
  s.expiry t s.gauges.updateTimer fun s =>
    { s with gauges := { channels := gaugeUpdate s, updateTimer := startTimer s.now 20 } }

/-- A trip record one second on (R68). -/
def TripRecord.second (x : TripRecord) : TripRecord := { x with secs := saturate32 x.secs 1 }

/-- TRIP_TIMER_EXPIRY (R68, R79, R80): both records one second on, 41H and 42H handed on, and the expiry reported to the standing
asks (R81). -/
def execTripTimerExpiry (t : Stamp) (s : State) : Result :=
  s.expiry t s.trip.tripTimer fun s =>
    let s := { s with trip := { s.trip with a := s.trip.a.second, b := s.trip.b.second, tripTimer := startTimer s.now 1000 } }
    ((s.publish .trip 0x41 (tripABytes s)).publish .trip 0x42 (tripBRangeBytes s)).reportTrip

/-- JOURNEY_WINDOW_EXPIRY (R75): the window closes without a judgement. -/
def execJourneyWindowExpiry (t : Stamp) (s : State) : Result :=
  s.expiry t s.trip.window fun s => { s with trip := { s.trip with window := none } }

end Sys2Proof.Machine
end

