-- ==== Sys2Proof/Machine/Dispatch.lean ====
section
/-! DEFINITION. One arm per command: the direct call of its meaning. -/

namespace Sys2Proof.Machine

def exec (i : Instr) (s : State) : Host.Outcome State Fault Refusal :=
  match i with
  | .powerOn t straps pins => Sys2Proof.Machine.execPowerOn t straps pins s
  | .startupKeyTaken t => Sys2Proof.Machine.execStartupKeyTaken t s
  | .keyLineChange t acc run => Sys2Proof.Machine.execKeyLineChange t acc run s
  | .keyStateChange t => Sys2Proof.Machine.execKeyStateChange t s
  | .svcEnLineChange t level => Sys2Proof.Machine.execSvcEnLineChange t level s
  | .svcEnChangeTaken t => Sys2Proof.Machine.execSvcEnChangeTaken t s
  | .supplyLowActive t => Sys2Proof.Machine.execSupplyLowActive t s
  | .supplyLowInactive t => Sys2Proof.Machine.execSupplyLowInactive t s
  | .wake t => Sys2Proof.Machine.execWake t s
  | .enterAsleep t => Sys2Proof.Machine.execEnterAsleep t s
  | .quietTimerExpiry t => Sys2Proof.Machine.execQuietTimerExpiry t s
  | .telegramDiscarded t reception => Sys2Proof.Machine.execTelegramDiscarded t reception s
  | .lineStuck t => Sys2Proof.Machine.execLineStuck t s
  | .interframeGapElapsed t => Sys2Proof.Machine.execInterframeGapElapsed t s
  | .transmitOutcome t outcome => Sys2Proof.Machine.execTransmitOutcome t outcome s
  | .publishReceived t telegram => Sys2Proof.Machine.execPublishReceived t telegram s
  | .otherTelegramAccepted t origin isReply => Sys2Proof.Machine.execOtherTelegramAccepted t origin isReply s
  | .askStatus t r => Sys2Proof.Machine.execAskStatus t r s
  | .askTripA t r => Sys2Proof.Machine.execAskTripA t r s
  | .askTripBRange t r => Sys2Proof.Machine.execAskTripBRange t r s
  | .askIdentity t r => Sys2Proof.Machine.execAskIdentity t r s
  | .askServiceRecord t r => Sys2Proof.Machine.execAskServiceRecord t r s
  | .askConfigWord t r => Sys2Proof.Machine.execAskConfigWord t r s
  | .askGaugeState t r => Sys2Proof.Machine.execAskGaugeState t r s
  | .holdRelease t r => Sys2Proof.Machine.execHoldRelease t r s
  | .writeEnable t r => Sys2Proof.Machine.execWriteEnable t r s
  | .serviceReset t r => Sys2Proof.Machine.execServiceReset t r s
  | .eraseConfigBlock t r => Sys2Proof.Machine.execEraseConfigBlock t r s
  | .writeConfigWord t r => Sys2Proof.Machine.execWriteConfigWord t r s
  | .faultClear t r => Sys2Proof.Machine.execFaultClear t r s
  | .gaugeTest t r => Sys2Proof.Machine.execGaugeTest t r s
  | .restart t r => Sys2Proof.Machine.execRestart t r s
  | .unknownAskOrCommand t kind group r => Sys2Proof.Machine.execUnknownAskOrCommand t kind group r s
  | .restartWaitEnd t straps => Sys2Proof.Machine.execRestartWaitEnd t straps s
  | .slotLateExpiry t slot => Sys2Proof.Machine.execSlotLateExpiry t slot s
  | .slotLostExpiry t slot => Sys2Proof.Machine.execSlotLostExpiry t slot s
  | .fuelTimerExpiry t => Sys2Proof.Machine.execFuelTimerExpiry t s
  | .gaugeUpdateExpiry t => Sys2Proof.Machine.execGaugeUpdateExpiry t s
  | .tripTimerExpiry t => Sys2Proof.Machine.execTripTimerExpiry t s
  | .journeyWindowExpiry t => Sys2Proof.Machine.execJourneyWindowExpiry t s
  | .debounceExpiry t entry => Sys2Proof.Machine.execDebounceExpiry t entry s
  | .remindExpiry t entry => Sys2Proof.Machine.execRemindExpiry t entry s
  | .bulbCheckExpiry t => Sys2Proof.Machine.execBulbCheckExpiry t s
  | .strikeStart t => Sys2Proof.Machine.execStrikeStart t s
  | .preemptExpiry t => Sys2Proof.Machine.execPreemptExpiry t s
  | .preemptCut t => Sys2Proof.Machine.execPreemptCut t s
  | .phraseCompletion t => Sys2Proof.Machine.execPhraseCompletion t s
  | .gapExpiry t => Sys2Proof.Machine.execGapExpiry t s
  | .minimumExpiry t => Sys2Proof.Machine.execMinimumExpiry t s
  | .rotationExpiry t => Sys2Proof.Machine.execRotationExpiry t s
  | .durationExpiry t id => Sys2Proof.Machine.execDurationExpiry t id s
  | .refreshTimerExpiry t => Sys2Proof.Machine.execRefreshTimerExpiry t s
  | .serviceTimerExpiry t => Sys2Proof.Machine.execServiceTimerExpiry t s
  | .holdTimerExpiry t => Sys2Proof.Machine.execHoldTimerExpiry t s
  | .statusTimerExpiry t => Sys2Proof.Machine.execStatusTimerExpiry t s
  | .spacingTimerExpiry t asker group index => Sys2Proof.Machine.execSpacingTimerExpiry t asker group index s
  | .wordProgramCompletion t stuck => Sys2Proof.Machine.execWordProgramCompletion t stuck s
  | .eraseAttemptEnd t residue => Sys2Proof.Machine.execEraseAttemptEnd t residue s
  | .readCompletion t => Sys2Proof.Machine.execReadCompletion t s
  | .readTimeout t asker address => Sys2Proof.Machine.execReadTimeout t asker address s
  | .strikeEnd t => Sys2Proof.Machine.execStrikeEnd t s

end Sys2Proof.Machine
end

