-- ==== Sys2Proof/WellFormed.lean ====
section
/-! DEFINITION. Which commands are well formed: the bounds on operands that the types do not carry. -/

namespace Sys2Proof

/-- The groups that a standing ask can watch (R185). -/
def watchedGroup (group : Byte) : Bool := group = 0x40 || group = 0x41 || group = 0x42 || group = 0x53

/-- A command whose operands are those of an event of its row. Telegrams keep within six data bytes (R173), a discarded
reception fails R173, an unknown telegram names a pair the part does not take (R182), a duration expiry names a message id
(R117), a spacing expiry a watched group (R185), and an erase attempt leaves each word behind at most once (R151). -/
def Instr.wellFormed : Instr → Bool
  | .telegramDiscarded _ reception => (Machine.receive reception).isNone
  | .publishReceived _ telegram => telegram.fits
  | .askStatus _ r => r.fits
  | .askTripA _ r => r.fits
  | .askTripBRange _ r => r.fits
  | .askIdentity _ r => r.fits
  | .askServiceRecord _ r => r.fits
  | .askConfigWord _ r => r.fits
  | .askGaugeState _ r => r.fits
  | .holdRelease _ r => r.fits
  | .writeEnable _ r => r.fits
  | .serviceReset _ r => r.fits
  | .eraseConfigBlock _ r => r.fits
  | .writeConfigWord _ r => r.fits
  | .faultClear _ r => r.fits
  | .gaugeTest _ r => r.fits
  | .restart _ r => r.fits
  | .unknownAskOrCommand _ kind group r => r.fits && !Machine.takes kind group
  | .durationExpiry _ id => decide (1 ≤ id ∧ id ≤ 31)
  | .spacingTimerExpiry _ _ group _ => watchedGroup group
  | .eraseAttemptEnd _ residue => decide (residue.map (·.1)).Nodup && residue.all (fun r => r.2 ≠ Config.erasedWord)
  | .powerOn .. | .startupKeyTaken .. | .keyLineChange .. | .keyStateChange .. | .svcEnLineChange .. => true
  | .svcEnChangeTaken .. | .supplyLowActive .. | .supplyLowInactive .. | .wake .. | .enterAsleep .. => true
  | .quietTimerExpiry .. | .lineStuck .. | .interframeGapElapsed .. | .transmitOutcome .. => true
  | .otherTelegramAccepted .. | .restartWaitEnd .. | .slotLateExpiry .. | .slotLostExpiry .. => true
  | .fuelTimerExpiry .. | .gaugeUpdateExpiry .. | .tripTimerExpiry .. | .journeyWindowExpiry .. => true
  | .debounceExpiry .. | .remindExpiry .. | .bulbCheckExpiry .. | .strikeStart .. | .preemptExpiry .. => true
  | .preemptCut .. | .phraseCompletion .. | .gapExpiry .. | .minimumExpiry .. | .rotationExpiry .. => true
  | .refreshTimerExpiry .. | .serviceTimerExpiry .. | .holdTimerExpiry .. | .statusTimerExpiry .. => true
  | .wordProgramCompletion .. | .readCompletion .. | .readTimeout .. | .strikeEnd .. => true

end Sys2Proof
end

