-- ==== Sys2Proof/Safety.lean ====
section
/-! DEFINITION. The terms in which claims about the part are stated: the stamp of a command, what the close of an event may
still move, the answers of requests, and the laws that every step keeps. -/

namespace Sys2Proof

/-- The stamp that a command carries. -/
def Instr.stamp : Instr → Stamp
  | .powerOn t _ _ | .startupKeyTaken t | .keyLineChange t _ _ | .keyStateChange t | .svcEnLineChange t _ => t
  | .svcEnChangeTaken t | .supplyLowActive t | .supplyLowInactive t | .wake t | .enterAsleep t => t
  | .quietTimerExpiry t | .telegramDiscarded t _ | .lineStuck t | .interframeGapElapsed t | .transmitOutcome t _ => t
  | .publishReceived t _ | .otherTelegramAccepted t _ _ | .askStatus t _ | .askTripA t _ | .askTripBRange t _ => t
  | .askIdentity t _ | .askServiceRecord t _ | .askConfigWord t _ | .askGaugeState t _ | .holdRelease t _ => t
  | .writeEnable t _ | .serviceReset t _ | .eraseConfigBlock t _ | .writeConfigWord t _ | .faultClear t _ => t
  | .gaugeTest t _ | .restart t _ | .unknownAskOrCommand t _ _ _ | .restartWaitEnd t _ | .slotLateExpiry t _ => t
  | .slotLostExpiry t _ | .fuelTimerExpiry t | .gaugeUpdateExpiry t | .tripTimerExpiry t | .journeyWindowExpiry t => t
  | .debounceExpiry t _ | .remindExpiry t _ | .bulbCheckExpiry t | .strikeStart t | .preemptExpiry t => t
  | .preemptCut t | .phraseCompletion t | .gapExpiry t | .minimumExpiry t | .rotationExpiry t => t
  | .durationExpiry t _ | .refreshTimerExpiry t | .serviceTimerExpiry t | .holdTimerExpiry t | .statusTimerExpiry t => t
  | .spacingTimerExpiry t _ _ _ | .wordProgramCompletion t _ | .eraseAttemptEnd t _ | .readCompletion t => t
  | .readTimeout t _ _ | .strikeEnd t => t

/-- Whether a command is one of the two starts (R193, R196). -/
def Instr.isStart : Instr → Bool
  | .powerOn .. | .restartWaitEnd .. => true
  | _ => false

/-- The index or argument byte of a request, 0 where the telegram holds none (section 10.2). -/
def Request.index (r : Request) : Byte := r.args.headD 0

namespace Machine

/-! ## States during an event -/

/-- A state with its time base at a stamp. -/
def State.stamped (s : State) (t : Stamp) : State := { s with now := t }

/-- A line with the traffic of another: its queue, pending answers, standing asks and idle mark. -/
def Line.withTraffic (l x : Line) : Line :=
  { l with queue := x.queue, pending := x.pending, standing := x.standing, idle := x.idle }

/-- A state as the close of an event leaves it, the traffic on the line being that of `x`: the close settles the display, takes
what the event has handed over, and moves nothing else. -/
def State.withTraffic (e x : State) : State :=
  { e with line := e.line.withTraffic x.line, display := e.display.settle e.displayView, handed := .nothing }

/-- A state closed with the traffic of the line and the display of another. -/
def State.besides (e x : State) : State :=
  { e with line := e.line.withTraffic x.line, display := x.display, handed := .nothing }

/-- Nothing on the line waits for the close of the event that took `before` to `e`: no change of STATUS handed over or to be
handed on, no standing ask, no READY answer (R181, R184, R186). -/
def quietClose (before e : State) : Bool :=
  e.handed.status.isEmpty && e.line.standing.isEmpty &&
  e.line.pending.all (fun p => match p.stage with | .ready .. => false | _ => true) &&
  !(e.key.started && before.awake && e.awake && decide (e.key.key = .off) && decide (statusBytes e ≠ statusBytes before))

/-! ## Requests -/

/-- The conditions on which an ask or command reaches its owner (R175, R184): the part receives, its start is complete, no
RESTART runs the store out, the telegram holds its index, no answer to the same ask is pending, and the list has room. -/
def State.hears (s : State) (group : Byte) (r : Request) : Bool :=
  s.receives && s.key.started && !s.draining && r.fits && !r.args.isEmpty &&
  !s.line.pending.any (fun p => p.isFor r.asker group r.index) && decide (s.line.pending.length < 4)

/-- The state in which the owner of a request acts: the telegram accepted, the pending answer WAITING (R175, R184). -/
def State.heard (s : State) (t : Stamp) (group : Byte) (r : Request) : State :=
  ((s.stamped t).accept r.asker false).onLine fun l =>
    { l with pending := l.pending ++ [{ asker := r.asker, group, index := r.index, stage := .waiting }] }

/-- A request has been answered with a status and four value bytes: its READY entry waits to join, or its REPLY stands in the
transmit queue with the data of R183 (R184). -/
def Answered (l : Line) (r : Request) (group : Byte) (status : Status) (values : List Byte) : Prop :=
  (⟨r.asker, group, r.index, .ready status (fourBytes values)⟩ : PendingAnswer) ∈ l.pending ∨
  ((⟨r.asker, group, r.index, .queued⟩ : PendingAnswer) ∈ l.pending ∧
    ∃ e ∈ l.queue, e.source = .reply ∧ e.kind = .reply ∧ e.group = group ∧ e.target = some r.asker ∧ e.index = r.index ∧
      e.data = replyData r.asker status values)

/-- The request ran to a next state that leaves `e` as the close does, with the answer given. -/
def AnswersWith (o : Result) (e : State) (r : Request) (group : Byte) (status : Status) (values : List Byte) : Prop :=
  ∃ x, o = .next x ∧ x = e.withTraffic x ∧ Answered x.line r group status values

/-- The hold of `s` has ended in `x` (R143): the configuration operations queued and not started are withdrawn ABORTED (R167), and
a pending reset goes ABORTED, with the RESET cause of a queued save request, exactly where no record carrying it has been
built (R148, third case); the operation in progress and a suspended erase go on. -/
def HoldEnded (s x : State) : Prop :=
  let withdrawn := s.service.reset.isSome && !s.store.carriesReset
  let queue := if withdrawn then s.store.queue.filterMap withoutResetCause else s.store.queue
  x.service = (if withdrawn then { s.service with reset := none } else s.service) ∧
  x.store = { s.store with queue := queue.filter fun q =>
    match q with | .program .. => false | .erase (.config _) _ => false | _ => true } ∧
  (∀ (r : Request) (p : PendingReset), s.service.reset = some p → withdrawn = true → r.asker = p.asker →
    r.index = BitVec.ofNat 8 p.selector → (⟨p.asker, 0x62, r.index, .waiting⟩ : PendingAnswer) ∈ s.line.pending →
    Answered x.line r 0x62 .aborted []) ∧
  (∀ (r : Request) (v : Word), StoreRequest.program r.asker r.index v ∈ s.store.queue →
    (⟨r.asker, 0x64, r.index, .waiting⟩ : PendingAnswer) ∈ s.line.pending → Answered x.line r 0x64 .aborted []) ∧
  (∀ (r : Request) (b : BlockId), StoreRequest.erase (.config r.asker) b ∈ s.store.queue → r.index = BitVec.ofNat 8 b.val →
    (⟨r.asker, 0x63, r.index, .waiting⟩ : PendingAnswer) ∈ s.line.pending → Answered x.line r 0x63 .aborted [])

/-- The values that a start on an array restores in `x` (R20, R22, R66, R133): in PRIMARY role those of the newest save record, and
in MIRROR role or without a valid record those that their chapters give. -/
def RestoredFrom (role : Role) (array : Array16) (x : State) : Prop :=
  (∀ w, (newestSave array).map (·.2) = some w → role = .primary →
    x.integ.remainder =
      (if twoWords w 1 = x.integ.tenths ∧ (nthWord w 3).toNat < x.image.params.p then (nthWord w 3).toNat else 0) ∧
    x.integ.volume = (if (nthWord w 21).getLsbD 9 then some (16 * (nthWord w 24).toNat) else none) ∧
    x.integ.rangeBase = min x.image.params.cMax (max x.image.params.cMin (twoWords w 22)) ∧
    x.trip.a = { dist := twoWords w 4, fuel := twoWords w 6, secs := twoWords w 8 } ∧
    x.trip.b = { dist := twoWords w 10, fuel := twoWords w 12, secs := twoWords w 14 } ∧
    x.service.dist = min 16777215 (twoWords w 16) ∧ x.service.days = (nthWord w 18).toNat ∧
    x.service.wear = twoWords w 19 ∧ x.slots[(13 : SlotId)].base = (nthWord w 21).toNat % 256 ∧
    x.slots[(13 : SlotId)].baseValid = (nthWord w 21).getLsbD 8) ∧
  (role = .mirror ∨ newestSave array = none →
    x.integ.remainder = 0 ∧ x.integ.volume = none ∧ x.integ.rangeBase = x.image.params.rqDefault ∧
    x.trip.a = { dist := 0, fuel := 0, secs := 0 } ∧ x.trip.b = { dist := 0, fuel := 0, secs := 0 } ∧
    x.service.dist = 0 ∧ x.service.days = 0 ∧ x.service.wear = 0 ∧ x.slots[(13 : SlotId)] = Slot.cleared)

/-- A record of a ring that the event at `t` has begun in `x`: none was in progress in `s`, and its word 0 has started with the
live T (R161, R162). -/
def Store.NewlyBegun (x : Store) (t : Stamp) (r : Ring) (q : StoreRequest) (s : State) : Prop :=
  (∀ r' q' w n ab d, s.store.op ≠ .record r' q' w n ab d) ∧ x.opTimer = some (t + 4) ∧
  ∃ w, x.op = .record r q w 0 false s.integ.tenths ∧ (r = .odo → w = odoRecord s.integ.tenths)

/-! ## Laws -/

/-- The law of the message queue (R117): at most eight entries, no two of the same id, in order of priority, each with an
owner. -/
def DisplayLaw (s : State) : Prop :=
  s.display.queue.length ≤ 8 ∧ (s.display.queue.map (·.id)).Nodup ∧
  s.display.queue.Pairwise (fun a b => a.priority ≤ b.priority) ∧ ∀ m ∈ s.display.queue, m.owners ≠ []

/-- The law of the hold (R141): the latch is clear and the hold timer stopped whenever no hold exists, and the timer runs while
one does. -/
def HoldLaw (s : State) : Prop :=
  (s.hold.phase ≠ .held → s.hold.latch = false ∧ s.hold.timer = none) ∧ (s.hold.phase = .held → s.hold.timer ≠ none)

/-- What the entries of a source are (R176): FAULT publishes 48H, STATUS 40H, TRIP 41H and 42H; the other two reply to an
asker. -/
def TxEntry.sound (e : TxEntry) : Bool :=
  match e.source with
  | .fault => decide (e.kind = .publish ∧ e.group = 0x48 ∧ e.target = none)
  | .status => decide (e.kind = .publish ∧ e.group = 0x40 ∧ e.target = none)
  | .trip => decide (e.kind = .publish ∧ (e.group = 0x41 ∨ e.group = 0x42) ∧ e.target = none)
  | .reply | .standing => decide (e.kind = .reply ∧ e.target ≠ none)

/-- The law of the Line Station's lists: every source within its cap, so at most eight entries, no two of the same kind, group
and target, at most one in flight (R176, R177); at most four pending answers and four standing asks (R184, R185); and nothing handed
over waits, an event having taken its own (R81, R181). -/
def LineLaw (s : State) : Prop :=
  (∀ e ∈ s.line.queue, e.sound = true) ∧ s.line.queue.length ≤ 8 ∧
  s.line.queue.Pairwise (fun a b => a.matchesEntry b = false) ∧
  s.line.queue.countP (fun e => e.source = .reply) ≤ 2 ∧ s.line.queue.countP (fun e => e.source = .standing) ≤ 2 ∧
  s.line.queue.countP (·.inFlight) ≤ 1 ∧ s.line.pending.length ≤ 4 ∧ s.line.standing.length ≤ 4 ∧ s.handed = .nothing

/-- The law of the odometer and the service counters (R27, R133 to R136): T within its limit, the remainder below the pulses of a
tenth, each counter within its width. -/
def OdometerLaw (s : State) : Prop :=
  s.integ.tenths ≤ Config.odometerLimit ∧ s.integ.remainder < s.image.params.p ∧
  s.service.dist ≤ 16777215 ∧ s.service.days ≤ 65535 ∧ s.service.wear ≤ 4294967295

/-- The law of the pointers (R52, R47): positions, targets and filters of the enabled channels within the scale, a disabled
channel PARKED at 0. -/
def GaugeLaw (s : State) : Prop :=
  ∀ i : Fin 6,
    (s.image.gauges[i].enabled = true →
      s.gauges.channels[i].position ≤ s.image.gauges[i].fs ∧ s.gauges.channels[i].target ≤ s.image.gauges[i].fs ∧
      s.gauges.channels[i].filter ≤ 16 * s.image.gauges[i].fs) ∧
    (s.image.gauges[i].enabled = false → s.gauges.channels[i].state = .parked ∧ s.gauges.channels[i].position = 0)

/-- A record being programmed is at a word inside its slot, and serves a request of its ring: a commit or a save record. -/
def StoreOp.sound : StoreOp → Bool
  | .record r q words pos _ _ =>
    decide (words.length = recordSize r ∧ pos < recordSize r) && (match r with | .odo => q.isCommit | .save => q.isSave)
  | _ => true

/-- The law of the array and the rings (section 9.1, R154): the array in its canonical form, the next slots inside their blocks,
and the record being programmed sound. -/
def StoreLaw (s : State) : Prop :=
  arrayWf s.store.array = true ∧ s.store.odo.next < slotsPerBlock .odo ∧ s.store.save.next < slotsPerBlock .save ∧
  s.store.op.sound = true

end Machine

end Sys2Proof
end

