-- ==== Sys2Proof/Certificates/Slice0/Obligations.lean ====
section
/-! DEFINITION. The statements for the provers. A rule number in a docstring names the rule of spec/ that a statement formalises, in
whole or in part. `State.close s e` is the close of the event that took `s` to `e`; what it can move is said by
`CloseMovesOnlyTheTraffic`. -/

open Sys2Proof Sys2Proof.Machine

/-! ## The machine -/

/-- A step takes the command at the front of the queue and runs it with the queue's rest; with no command waiting the part idles,
the model's choice of log entry 9. -/
def Obligations.StepRunsTheFrontCommand : Prop :=
  (∀ (s : State) (c : Instr) (rest : List Instr), s.pending = c :: rest → step s = exec c { s with pending := rest }) ∧
  (∀ s : State, s.pending = [] → step s = .next s)

/-- Every well-formed command completes in every state. Whatever a command answers, it is no fault; its next state has the
command's stamp as its time base and the waiting commands as they were; and only the two starts change the configuration
image, the station number, the role and the units, which "holds until the next" start (R47, R103, R193, R194). That a
command completes in every state rests on choices of the model: one that comes early moves only the time base (log entry
10), only one that is not well formed is refused (log entry 40), the time base takes each command's stamp (log entry 3),
and no command reaches an address outside the array (log entry 43). -/
def Obligations.WellFormedCommandsComplete : Prop :=
  (∀ (c : Instr) (s : State), c.wellFormed = true → ∃ x, exec c s = .next x) ∧
  (∀ (c : Instr) (s : State) (f : Fault), exec c s ≠ .fault f) ∧
  (∀ (c : Instr) (s x : State), exec c s = .next x → x.now = c.stamp ∧ x.pending = s.pending) ∧
  (∀ (c : Instr) (s x : State), c.isStart = false → exec c s = .next x →
    x.image = s.image ∧ x.key.station = s.key.station ∧ x.key.role = s.key.role ∧ x.key.units = s.key.units)

/-- The close of an event moves the traffic of the line, settles the display and takes what the event has handed over, and nothing
else; where no standing ask, no READY answer and no STATUS of a change waits, it settles the display only; and in MESSAGE
mode with a message shown, in PAGE mode with a page drawn, or in any other mode, settling leaves the display as it is (R28,
R116, R181, R184, R186). With the key OFF each change of bytes 3 to 5 of STATUS that the event handed over is handed on as
a 40H in turn, with the tenths as they stand after the event (R181); shown six bytes of STATUS, the registrations of 40H
index 0 and 1 take their part of them (R114, R186); and in an event that R81 lists, a registration of 41H or 42H is shown the
bytes it would now be answered with, whether the event changed them or not. The moment of all this is the model's choice, log
entries 12 and 41, and so is that the registrations are shown their bytes in the order of the list, the oldest first, where
several could take the last STANDING place: log entry 72. -/
def Obligations.CloseMovesOnlyTheTraffic : Prop :=
  (∀ before e : State, State.close before e = e.withTraffic (State.close before e)) ∧
  (∀ before e : State, quietClose before e = true → State.close before e = e.settleDisplay) ∧
  (∀ e : State, (e.display.mode = .message → e.display.shown ≠ none) → (e.display.mode = .page → e.display.line ≠ []) →
    e.settleDisplay = e) ∧
  (∀ before e : State, e.handed.status.getLast? = some ((statusBytes e).drop 3) → e.key.started = true → before.awake = true →
    e.awake = true → e.key.key = .off → e.line.standing = [] → (∀ p ∈ e.line.pending, ∀ st v, p.stage ≠ .ready st v) →
    (State.close before e).line =
      e.handed.status.foldl (fun l b => l.handOn (publishEntry .status 0x40 ((statusBytes e).take 3 ++ b))) e.line) ∧
  (∀ (e : State) (b₀ b₁ b₂ b₃ b₄ b₅ : Byte), (watchStatus e [b₀, b₁, b₂, b₃, b₄, b₅]).line =
    e.line.standing.foldl (fun l r =>
      if r.group = 0x40 ∧ r.index = 0 then l.reportStanding e.now r [b₀, b₁, b₂, b₃]
      else if r.group = 0x40 ∧ r.index = 1 then l.reportStanding e.now r [b₄, b₅, 0, 0] else l) e.line) ∧
  (∀ (before e : State) (r : StandingAsk), e.line.standing = [r] → r.group = 0x41 ∨ r.group = 0x42 →
    e.handed.trip = true → (watchedAnswer e r.group r.index).1 = .done →
    (watchStanding before e).line = e.line.reportStanding e.now r (watchedAnswer e r.group r.index).2)

/-- An occurrence reported to the fault record sets the kind's flag, adds one to its count up to 255 and makes it the newest
(R98). A 48H with the new record is handed on where the flag was clear and the kind is outside the report mask, and at no
other time (R99). -/
def Obligations.FaultOccurrenceIsRecorded : Prop :=
  ∀ (s : State) (k : FaultKind),
    (s.reportFault k).faults.newest = some k ∧
    (∀ j : FaultKind, faultCount (s.reportFault k).faults j =
      if j = k then min 255 (faultCount s.faults k + 1) else faultCount s.faults j) ∧
    (∀ n : Nat, bit (s.reportFault k).faults.latched n = (decide (n = k.code) || bit s.faults.latched n)) ∧
    (s.reportFault k).line =
      (if bit s.faults.latched k.code = false ∧ bit s.image.params.reportMask k.code = false then
        s.line.handOn (publishEntry .fault 0x48 (faultBytes (s.reportFault k).faults s.image.params.reportMask))
      else s.line)

/-! ## Starts -/

/-- POWER_ON from any state (R193): everything but the array is lost, the straps are read, and every block stands as after
power-on. The array is as the loss of supply left it. In PRIMARY role T is the larger of the newest odometer record's value and
the newest save record's (R170); the save record supplies the remainder, V_f and R_q (R22), the trips (R66), the service
counters (R133) and the DAY_COUNT base (R20), and without one, or in MIRROR role, each is as its chapter gives it. The fault
record holds the occurrences of steps 1 to 3 alone (R98, R193); the rings stand as the scan found them, neither FAILED, with an
odometer commit queued or begun where T exceeds the newest odometer record (R154, R169, R170). The warnings, chime, display and
hold are as their chapters give them after power-on (R88, R104, R116, R141). Of the model: what the fields read that carry no
value after a start is its choice, log entry 13, for the position in ZEROING log entry 14, for the range log entry 53; that the
receiver listens right after power-on is its reading, log entry 23. -/
def Obligations.PowerOnStartsAfresh : Prop :=
  ∀ (t : Stamp) (straps : Straps) (pins : Pins) (s : State),
    let array := (arrayAfterLoss s.store s.freeIndex).1
    let role := roleOf straps.role
    let odo := match newestOdo array with | some (_, v) => v | none => 0
    let save := match newestSave array with | some (_, w) => twoWords w 1 | none => 0
    ∃ x, exec (.powerOn t straps pins) s = .next x ∧
      x.now = t ∧ x.store.array = array ∧ x.pending = s.pending ∧ x.image = (loadImage role array).1 ∧
      x.key = { pins, station := stationOf straps.station, role, units := unitsOf straps.units,
                key := .off, keyTimer := startTimer t 20, svcEn := false, svcTimer := startTimer t 20, mode := .awake,
                quiet := startTimer t 5000, started := false, runSeen := false, restart := none } ∧
      (∀ i : SlotId, x.slots[i].state = .absent ∧ x.slots[i].late = none ∧ x.slots[i].lost = none ∧
        x.slots[i].acquired = 0 ∧ (i ≠ 13 → x.slots[i] = Slot.cleared)) ∧
      (x.integ.window = [] ∧ x.integ.speed = none ∧ x.integ.armed = true ∧ x.integ.quanta = 0 ∧ x.integ.mark = false ∧
        x.integ.fuelTimer = startTimer t 1000) ∧
      x.integ.tenths = (if role = .primary then max odo save else 0) ∧
      RestoredFrom role array x ∧
      (∀ i : Fin 6, x.gauges.channels[i] = Channel.powered x.image.gauges[i] ∧
        driveHeld x.gauges.channels[i] = x.image.gauges[i].enabled) ∧ x.gauges.updateTimer = startTimer t 20 ∧
      (x.trip.dayMark = false ∧ x.trip.window = none ∧ x.trip.tripTimer = none ∧ x.trip.page = 0 ∧ x.trip.range = none) ∧
      x.faults = (startFaults straps array).foldl FaultRecord.after
        { latched := 0, counts := Vector.replicate 15 0, newest := none } ∧
      x.monitor = .cleared ∧ x.chime = .cleared ∧ x.display = .cleared ∧ x.hold = .cleared ∧
      x.service.secTimer = none ∧ x.service.reset = none ∧ x.store.suspended = none ∧
      x.store.odo.failed = false ∧ x.store.save.failed = false ∧
      (role = .mirror → x.store.op = .idle ∧ x.store.queue = []) ∧
      (role = .primary → x.store.conditions = (scanStore array).conditions ∧ x.store.odo = (scanStore array).odo ∧
        x.store.save = (scanStore array).save ∧ (∀ q ∈ x.store.queue, q.isCommit = true ∨ q.isErase = true) ∧
        ((x.store.queue.any (·.isCommit) = true ∨
          ∃ q, x.store.op = .record .odo q (odoRecord x.integ.tenths) 0 false x.integ.tenths) ↔ odo < x.integ.tenths)) ∧
      (x.line.pending = [] ∧ x.line.standing = [] ∧ x.line.rxErrors = 0 ∧ x.line.statusTimer = none ∧
        x.line.highPtr = .low ∧ x.line.lowPtr = .standing ∧ x.line.idle = false ∧ x.line.stuck = false ∧
        x.line.receiver = .listens ∧ ∀ e ∈ x.line.queue, e.source = .fault)

/-- A part with an erased array and no work in its store, powered on at time 0 with every strap tied to 0 and every input
inactive, stands as `State.reset` does: the built-in configuration with CONFIG_BAD reported (R194). What the array and
the straps read at reset is the model's choice, log entries 1 and 2. -/
def Obligations.ErasedPartPowersOnToReset : Prop :=
  ∀ s : State, s.store.array = [] → s.store.op = .idle → s.store.suspended = none →
    exec (.powerOn 0 { station := .zero, role := .zero, units := .zero }
      { keyAcc := false, keyRun := false, svcEn := false, supplyLow := false }) s =
    .next { State.reset with freeIndex := s.freeIndex, pending := s.pending }

/-- Step 5 of the start-up sequence (R193, R189): the derived key state that has held is taken, the lamps are given over, the
SVC_EN level is taken where it has held as long, and the range is computed (R43). ACC and RUN are taken as a change from
OFF: the channels depart (R61), the STATUS timer starts (R181), and with RUN the trip and service timers start, the journey
window opens and all lamps light for 3 s (R68, R75, R97, R136). With the key OFF no block takes a key change but the
display, which goes blank or to its messages (R116), and the channels of a restarted part, which return (R62); chime and
warnings then move by the range's report alone. Slots, configuration and fault record stay. That the journey window opens at
step 5 of a power-on, and not after a RESTART, is the model's reading, log entry 63; that step 5 does not wait for an SVC_EN
level which has not yet held 20 ms, and leaves its count to SVC_EN_CHANGE_TAKEN, is another, log entry 39. -/
def Obligations.StartupTakesTheKeyState : Prop :=
  ∀ (t : Stamp) (s : State), s.key.started = false → isDue t s.key.keyTimer = true →
    let key := derivedKey s.key.pins
    ∃ x, exec (.startupKeyTaken t) s = .next x ∧
      x.key = { s.key with
        started := true, keyTimer := none, key, runSeen := decide (key = .run)
        svcEn := if isDue t s.key.svcTimer then s.key.pins.svcEn else s.key.svcEn
        svcTimer := if isDue t s.key.svcTimer then none else s.key.svcTimer } ∧
      x.monitor.lampsLive = true ∧ x.slots = s.slots ∧ x.image = s.image ∧ x.faults = s.faults ∧
      x.integ = { s.integ with armed := s.integ.armed || decide (key ≠ .off) } ∧
      x.trip.a = s.trip.a ∧ x.trip.b = s.trip.b ∧ x.trip.page = s.trip.page ∧ x.trip.dayMark = s.trip.dayMark ∧
      (s.primary = true → x.trip.range = rangeOf (shownVolume s.integ.volume) s.integ.rangeBase s.image.params.q) ∧
      (s.awake = true → key = .off → x.display.mode = if x.display.queue = [] then .blank else .message) ∧
      (s.awake = true → key ≠ .off → x.display.mode = if x.display.queue = [] then .page else .message) ∧
      (key = .off →
        x.trip.tripTimer = s.trip.tripTimer ∧ x.trip.window = s.trip.window ∧ x.service = s.service ∧
        x.line.statusTimer = s.line.statusTimer ∧ x.monitor.bulbTimer = s.monitor.bulbTimer ∧
        ((∀ e : EntryId, s.image.warnings[e].reads .range = false) ∨ s.primary = false →
          x.monitor.entries = s.monitor.entries ∧ x.monitor.active = s.monitor.active ∧
          ((s.chime.phase = .idle → ∀ e : EntryId, s.chime.requests[e] = none) → x.chime = s.chime)) ∧
        (∀ i : Fin 6, x.gauges.channels[i] =
          if s.image.gauges[i].enabled = true ∧
              s.gauges.channels[i].state ∈ [GaugeState.sweepUp, .sweepDown, .tracking, .holding, .resting] then
            { s.gauges.channels[i] with state := .returning } else s.gauges.channels[i])) ∧
      (key ≠ .off →
        x.line.statusTimer = some (t + 500) ∧
        (s.primary = true →
          x.trip.tripTimer = (if key = .run then some (t + 1000) else none) ∧
          x.trip.window = (if key = .run ∧ s.image.params.tripBAuto = true then some (t + 10000) else none) ∧
          x.service = { s.service with secTimer := if key = .run then some (t + 1000) else none }) ∧
        (s.primary = false → x.trip = s.trip ∧ x.service = s.service) ∧
        (key = .run → x.monitor.lamps = 0xFF ∧ x.monitor.bulbTimer = some (t + 3000)) ∧
        (key = .acc → x.monitor.bulbTimer = s.monitor.bulbTimer) ∧
        (∀ i : Fin 6, x.gauges.channels[i] =
          if s.image.gauges[i].enabled = true then
            (if s.gauges.channels[i].state = .parked then
              { s.gauges.channels[i] with
                filter := 0, state := if s.image.params.sweep then GaugeState.sweepUp else .tracking }
            else if s.gauges.channels[i].state = .returning then
              { s.gauges.channels[i] with filter := 16 * s.gauges.channels[i].position, state := .tracking }
            else s.gauges.channels[i])
          else s.gauges.channels[i]))

/-- The end of the restart wait (R195, R196): the start-up sequence is made from step 1 on the array as it stands, and the key
state already taken is taken again at once. The straps are read, the image is loaded, the store stands as the scan found it, and
the odometer is not lower than the one held (R170); the save record restores the trips, the service counters and the rest
(`RestoredFrom`: R20, R22, R66, R133). A channel disabled by the new image is PARKED with its drive released; one enabled before
and now, not in ZEROING and not above the new full scale is RESTING where it stands, its filter 16 times the position, or with
the key OFF RETURNING; any other is in ZEROING for FS + 30 (R62). The fault record is cleared and holds what steps 1 to 3 report
(R98). The transmit queue is emptied, so only what this start hands on stands in it, an attempt in flight going with it; both
answer lists are empty. At RUN the trip and service timers start and all lamps light, and the journey window stays closed (R66).
The model's choices: the attempt in flight and the closed window, log entries 64 and 63; the fields without a value, log entries
13 and 14; where the conditions of the wait's end do not hold, the command moves only the time base, log entry 10. -/
def Obligations.RestartWaitEndStartsAgain : Prop :=
  (∀ (t : Stamp) (straps : Straps) (s : State), restartReady s = true →
    let array := s.store.array
    let role := roleOf straps.role
    let key := s.key.key
    let odo := match newestOdo array with | some (_, v) => v | none => 0
    let save := match newestSave array with | some (_, w) => twoWords w 1 | none => 0
    let second := if role = .primary ∧ key = .run then some (t + 1000) else none
    ∃ x, exec (.restartWaitEnd t straps) s = .next x ∧
      x.key = { s.key with
        station := stationOf straps.station, role, units := unitsOf straps.units, mode := .awake
        quiet := startTimer t 5000, restart := none, started := true, runSeen := decide (key = .run) } ∧
      x.image = (loadImage role array).1 ∧ x.store.array = array ∧
      (∀ i : SlotId, i ≠ 13 → x.slots[i] = Slot.cleared) ∧
      x.slots[(13 : SlotId)] = { Slot.cleared with
        base := x.slots[(13 : SlotId)].base, baseValid := x.slots[(13 : SlotId)].baseValid } ∧
      RestoredFrom role array x ∧
      x.integ.tenths = (if role = .primary then max odo (max save (if s.primary then s.integ.tenths else 0)) else 0) ∧
      (role = .primary → s.primary = true → s.integ.tenths ≤ x.integ.tenths) ∧
      (x.integ.window = [] ∧ x.integ.speed = none ∧ x.integ.armed = true ∧ x.integ.quanta = 0 ∧ x.integ.mark = false ∧
        x.integ.fuelTimer = startTimer t 1000) ∧
      (∀ i : Fin 6,
        let c := x.image.gauges[i]
        let ch := s.gauges.channels[i]
        x.gauges.channels[i] =
          (if c.enabled = false then { state := .parked, position := 0, target := 0, filter := 0, zeroCount := 0 }
          else if s.image.gauges[i].enabled = true ∧ ch.state ≠ .zeroing ∧ ch.position ≤ c.fs then
            { state := if key = .off then .returning else .resting, position := ch.position, target := 0
              filter := 16 * ch.position, zeroCount := 0 }
          else { state := .zeroing, position := 0, target := 0, filter := 0, zeroCount := c.fs + 30 }) ∧
        driveHeld x.gauges.channels[i] = c.enabled) ∧
      (x.trip.dayMark = false ∧ x.trip.window = none ∧ x.trip.page = 0 ∧ x.trip.tripTimer = second) ∧
      (role = .primary → x.trip.range = rangeOf (shownVolume x.integ.volume) x.integ.rangeBase x.image.params.q) ∧
      x.service.secTimer = second ∧ x.service.reset = none ∧
      x.faults = (startFaults straps array).foldl FaultRecord.after
        { latched := 0, counts := Vector.replicate 15 0, newest := none } ∧
      x.monitor.lampsLive = true ∧ (key = .run → x.monitor.lamps = 0xFF ∧ x.monitor.bulbTimer = some (t + 3000)) ∧
      x.display.mode = (if x.display.queue ≠ [] then .message else if key = .off then .blank else .page) ∧
      x.hold = .cleared ∧ x.store.odo.failed = false ∧ x.store.save.failed = false ∧
      (role = .primary → x.store.conditions = (scanStore array).conditions ∧ x.store.odo = (scanStore array).odo ∧
        x.store.save = (scanStore array).save ∧ ∀ q ∈ x.store.queue, q.isCommit = true ∨ q.isErase = true) ∧
      (x.line.pending = [] ∧ x.line.standing = [] ∧ x.line.rxErrors = 0 ∧ x.line.highPtr = .low ∧
        x.line.lowPtr = .standing ∧ x.line.idle = false ∧
        x.line.statusTimer = (if key = .off then none else some (t + 500)) ∧
        ∀ e ∈ x.line.queue, e.inFlight = false ∧ e.attempts = 0 ∧ e.followOn = none ∧
          (e.source = .fault ∨ (key = .off ∧ e.source = .status)))) ∧
  (∀ (t : Stamp) (straps : Straps) (s : State), restartReady s = false →
    exec (.restartWaitEnd t straps) s = .next (State.close s (s.stamped t)))

/-! ## Key and supply -/

/-- KEY_LINE_CHANGE and SVC_EN_LINE_CHANGE record the level (R189). In AWAKE a new derived key state restarts the count of 20 ms,
a return to the key state stops it; a changed SVC_EN level starts its count, a return to the level taken stops it. Before
step 5 every change starts the count (R193). In ASLEEP the levels are recorded, and an active key line wakes the part by
`WakeAndSleep`. -/
def Obligations.LineLevelsStartTheCounts : Prop :=
  (∀ (t : Stamp) (acc run : Bool) (s : State), s.awake = true →
    exec (.keyLineChange t acc run) s = .next (State.close s { s with
      now := t
      key := { s.key with
        pins := { s.key.pins with keyAcc := acc, keyRun := run }
        keyTimer := if (if run then KeyState.run else if acc then .acc else .off) = derivedKey s.key.pins then s.key.keyTimer
          else if s.key.started = true ∧ (if run then KeyState.run else if acc then .acc else .off) = s.key.key then none
          else some (t + 20) } })) ∧
  (∀ (t : Stamp) (s : State), s.awake = false →
    exec (.keyLineChange t false false) s = .next (State.close s { s with
      now := t, key := { s.key with pins := { s.key.pins with keyAcc := false, keyRun := false } } })) ∧
  (∀ (t : Stamp) (level : Bool) (s : State),
    exec (.svcEnLineChange t level) s = .next (State.close s { s with
      now := t
      key := { s.key with
        pins := { s.key.pins with svcEn := level }
        svcTimer := if s.awake = true ∧ level ≠ s.key.pins.svcEn then
            if s.key.started = true ∧ level = s.key.svcEn then none else some (t + 20)
          else s.key.svcTimer } }))

/-- A change of key state to OFF, taken (R189). Every enabled channel in SWEEP_UP, SWEEP_DOWN, TRACKING, HOLDING or RESTING goes
to RETURNING with commanded value 0, its filter, target and position kept; a channel in ZEROING, RETURNING or PARKED is
unchanged, as is a disabled one (R59). A channel in ZEROING completes by R57 in the key state holding at its completion, its
drive released where it goes to PARKED. -/
def Obligations.KeyOffReturnsThePointers : Prop :=
  (∀ (t : Stamp) (s : State), s.key.started = true → isDue t s.key.keyTimer = true → derivedKey s.key.pins = .off →
    ∃ x, exec (.keyStateChange t) s = .next x ∧ x.key.key = .off ∧ x.gauges.updateTimer = s.gauges.updateTimer ∧
      ∀ i : Fin 6,
        (s.image.gauges[i].enabled = true →
          s.gauges.channels[i].state ∈ [GaugeState.sweepUp, .sweepDown, .tracking, .holding, .resting] →
          x.gauges.channels[i] = { s.gauges.channels[i] with state := .returning } ∧
          commanded s.image.gauges[i] x.gauges.channels[i] = 0) ∧
        (s.image.gauges[i].enabled = false ∨ s.gauges.channels[i].state ∈ [GaugeState.zeroing, .returning, .parked] →
          x.gauges.channels[i] = s.gauges.channels[i])) ∧
  (∀ (c : Calibration) (status : SourceStatus) (sweep keyOn : Bool) (ch : Channel),
    ch.state = .zeroing → ch.zeroCount ≤ 6 →
    (ch.update c status sweep keyOn).state = (if keyOn then (if sweep then .sweepUp else .tracking) else .parked) ∧
    driveHeld (ch.update c status sweep keyOn) = keyOn)

/-- A change of key state to OFF, taken by the other blocks (R189): the trip, journey and service timers stop (R68, R75, R136),
the bulb check ends (R97), no TIMED message stays (R126), the STATUS timer stops and the standing-ask list is emptied
(R181, R185), and in PRIMARY role each ring that is not FAILED gets its part of the key-off save: a commit and a save record
queued, or newly begun where no record was in progress, and no save record queued before a commit (R164). A save with which
the key-off save merged stands behind the commit, the model's reading of log entry 57. The Signal Table takes no action. -/
def Obligations.KeyOffStopsTheTimers : Prop :=
  ∀ (t : Stamp) (s : State), s.key.started = true → isDue t s.key.keyTimer = true → derivedKey s.key.pins = .off →
    ∃ x, exec (.keyStateChange t) s = .next x ∧
      x.key.key = .off ∧ x.key.keyTimer = none ∧ x.key.runSeen = false ∧ x.key.pins = s.key.pins ∧ x.slots = s.slots ∧
      x.image = s.image ∧ x.faults = s.faults ∧ x.integ = s.integ ∧ x.trip.a = s.trip.a ∧ x.trip.b = s.trip.b ∧
      (s.primary = true → x.trip.tripTimer = none ∧ x.trip.window = none ∧ x.service.secTimer = none) ∧
      x.monitor.bulbTimer = none ∧ (∀ m ∈ x.display.queue, m.duration = none) ∧
      x.line.statusTimer = none ∧ x.line.standing = [] ∧
      (s.primary = false → x.store = s.store) ∧
      (s.primary = true →
        (s.store.odo.failed = false → x.store.queue.any (·.isCommit) = true ∨ ∃ q, x.store.NewlyBegun t .odo q s) ∧
        (s.store.save.failed = false → x.store.queue.any (·.isSave) = true ∨ ∃ q, x.store.NewlyBegun t .save q s) ∧
        x.store.queue.Pairwise (fun a b => ¬ (a.isSave = true ∧ b.isCommit = true)))

/-- A change of key state to ACC or RUN, taken (R189): the channels that were PARKED or RETURNING depart on leaving OFF (R61),
the refill detection is armed (R36), the STATUS timer starts (R181); on entering RUN the trip and service timers start and
the journey window opens (R68, R75, R136), on leaving RUN they stop; the first RUN since OFF lights all lamps for 3 s
(R97), and in PRIMARY role with a service state SOON, DUE or OVERDUE it posts the message of the first counter in that
state for 4 s (R139). The Signal Table takes no action, and no record is asked for. -/
def Obligations.KeyOnStartsTheTimers : Prop :=
  ∀ (t : Stamp) (s : State), s.key.started = true → isDue t s.key.keyTimer = true → derivedKey s.key.pins ≠ .off →
    ∃ x, exec (.keyStateChange t) s = .next x ∧
      x.key = { s.key with key := derivedKey s.key.pins, keyTimer := none,
                           runSeen := s.key.runSeen || decide (derivedKey s.key.pins = .run) } ∧
      x.slots = s.slots ∧ x.image = s.image ∧ x.faults = s.faults ∧ x.store = s.store ∧ x.hold = s.hold ∧
      x.integ = { s.integ with armed := s.integ.armed || decide (s.key.key = .off) } ∧
      (s.primary = true →
        x.trip = (if derivedKey s.key.pins ≠ .run then { s.trip with tripTimer := none, window := none }
          else if s.key.key = .run then s.trip
          else { s.trip with tripTimer := some (t + 1000)
                             window := if s.image.params.tripBAuto then some (t + 10000) else none }) ∧
        x.service.secTimer = (if derivedKey s.key.pins ≠ .run then none
          else if s.key.key = .run then s.service.secTimer else some (t + 1000)) ∧
        x.service = { s.service with secTimer := x.service.secTimer }) ∧
      (s.primary = false → x.trip = s.trip ∧ x.service = s.service) ∧
      x.line.statusTimer = (if s.key.key = .off then some (t + 500) else s.line.statusTimer) ∧
      (derivedKey s.key.pins = .run → s.key.runSeen = false →
        x.monitor.lamps = 0xFF ∧ x.monitor.bulbTimer = some (t + 3000)) ∧
      (∀ i : Fin 6, x.gauges.channels[i] =
        if s.image.gauges[i].enabled = true ∧ s.key.key = .off then
          (if s.gauges.channels[i].state = .parked then
            { s.gauges.channels[i] with
              filter := 0, state := if s.image.params.sweep then GaugeState.sweepUp else .tracking }
          else if s.gauges.channels[i].state = .returning then
            { s.gauges.channels[i] with filter := 16 * s.gauges.channels[i].position, state := .tracking }
          else s.gauges.channels[i])
        else s.gauges.channels[i]) ∧
      (derivedKey s.key.pins = .run → s.key.runSeen = false → s.primary = true → serviceState s ≠ 0 →
        let counter := if distState s = serviceState s then 0 else if daysState s = serviceState s then 1 else 2
        let id := 20 + 3 * (serviceState s - 1) + counter
        (hasId x.display.queue id = true ∨ 8 ≤ x.display.queue.length) ∧
        (s.awake = true → s.display.queue = [] → s.display.mode ≠ .message → (∀ e : EntryId, s.image.warnings[e].message = 0) →
          x.display.mode = .message ∧ x.display.shown = some id ∧ x.display.line = messageLine id ∧
          x.display.queue = [{ id, priority := 2, stamp := t, duration := some 4, timer := some (t + 4000),
                               owners := [.service] }]))

/-- The SVC_EN level that has held for 20 ms, taken (R189). A change to active, or with no hold and no claim, is recorded only. A
change to inactive ends a hold (R143): the latch is clear, the queued configuration operations are withdrawn ABORTED
(R167), and a pending reset goes ABORTED exactly where no record carrying it has been built (R148, third case). It drops a
claim whose read then answers LOCKED (R142). -/
def Obligations.ServiceEnableIsTaken : Prop :=
  ∀ (t : Stamp) (s : State), s.key.started = true → isDue t s.key.svcTimer = true →
    let e : State := { s with now := t, key := { s.key with svcEn := s.key.pins.svcEn, svcTimer := none } }
    ((s.key.svcEn = false ∨ s.key.pins.svcEn = true ∨ s.hold.phase = .none) →
      exec (.svcEnChangeTaken t) s = .next (State.close s e)) ∧
    (s.key.svcEn = true → s.key.pins.svcEn = false → s.hold.phase = .held →
      ∃ x, exec (.svcEnChangeTaken t) s = .next x ∧
        x = State.withTraffic { e with hold := .cleared, service := x.service, store := x.store } x ∧ HoldEnded s x) ∧
    (s.key.svcEn = true → s.key.pins.svcEn = false → s.hold.phase = .opening →
      exec (.svcEnChangeTaken t) s = .next (State.close s { e with
        hold := .cleared, store := s.store.reclaim fun c => if c = .claiming then .dropped else c }))

/-- SUPPLY_LOW_ACTIVE in PRIMARY role, in AWAKE after step 5 (R163, R192): unless the odometer ring is FAILED, an odometer record
of the live T is being programmed and not to be abandoned, or an urgent commit is queued; any other record in progress is
to be abandoned at the end of its word. Where it does not apply the level is recorded only. SUPPLY_LOW_INACTIVE lets the
store go on with its queue. That a record is abandoned with the odometer ring FAILED too, and that the level is recorded
only in ASLEEP and before step 5, are the model's readings, log entries 37 and 36; that a save record which has waited for the
line leaves an erase in flight alone, that an urgent commit waits in the drain of a RESTART, and which blocks the record's
sequence is read from, are its choices, log entries 69, 70, 28 and 74. -/
def Obligations.SupplyLowMovesTheStore : Prop :=
  (∀ (t : Stamp) (s : State),
    ∃ x, exec (.supplyLowActive t) s = .next x ∧
      x = State.withTraffic { s with
        now := t, key := { s.key with pins := { s.key.pins with supplyLow := true } }
        store := x.store, hold := { s.hold with latch := x.hold.latch } } x ∧
      (s.key.pins.supplyLow = true ∨ s.primary = false ∨ s.awake = false ∨ s.key.started = false →
        x.store = s.store ∧ x.hold = s.hold) ∧
      (s.key.pins.supplyLow = false → s.primary = true → s.awake = true → s.key.started = true →
        (s.store.odo.failed = false →
          (∃ q w n, x.store.op = .record .odo q w n false s.integ.tenths) ∨ x.store.queue.any (·.isUrgent) = true) ∧
        (∀ r q w n ab d, s.store.op = .record r q w n ab d → ¬ (r = .odo ∧ ab = false ∧ d = s.integ.tenths) →
          x.store.op = .record r q w n true d))) ∧
  (∀ (t : Stamp) (s : State),
    let e : State := { s with now := t, key := { s.key with pins := { s.key.pins with supplyLow := false } } }
    exec (.supplyLowInactive t) s = .next (State.close s (if s.awake then e.serve else e)) ∧
    (s.store.op ≠ .idle → e.serve = e) ∧
    (s.store.op = .idle → s.store.queue = [.save true false false false false] → s.store.suspended = none →
      s.draining = false →
      e.serve = { e with store := { s.store with
        queue := []
        op := .record .save (.save true false false s.service.reset.isSome false) (saveRecord e) 0 false s.integ.tenths
        opTimer := some (t + 4) } }))

/-- Sleep and wake. ENTER_ASLEEP, where all the conditions of R190 hold, clears the slots but for the DAY_COUNT base (R8, R20),
stops the timers of every block, darkens lamps and display and silences the chime (R22, R49, R66, R88, R96, R104, R116,
R185), and keeps the odometer, the records, the counters and the store; no telegram joins the line's queue. WAKE, and a key
line active in ASLEEP, start the quiet, gauge and fuel timers, set the lamps from the list, work the display mode out and
leave the receiver waiting for the gap (R191). The model's choices: where a condition of R190 fails ENTER_ASLEEP moves only
the time base (log entry 10), and before step 5 of a start none of them makes it sleep (log entry 67); a WAKE shows that the
wire has read recessive, so a stuck run has ended (R180, log entry 19), and in AWAKE it is another station's start bit, which
ends the idle line and the passing of an abandoned telegram (R172, log entries 18 and 38). -/
def Obligations.WakeAndSleep : Prop :=
  (∀ (t : Stamp) (s : State), sleepReady s = true →
    ∃ x, exec (.enterAsleep t) s = .next x ∧
      x.key = { s.key with mode := .asleep, quiet := none, keyTimer := none, svcTimer := none } ∧
      (∀ i : SlotId, x.slots[i] = if i = 13 then
        { Slot.cleared with base := s.slots[i].base, baseValid := s.slots[i].baseValid } else Slot.cleared) ∧
      x.integ = { s.integ with window := [], speed := none, mark := false, fuelTimer := none } ∧
      x.gauges = { s.gauges with updateTimer := none } ∧ x.trip = { s.trip with window := none, tripTimer := none } ∧
      x.monitor = .cleared ∧ x.faults = s.faults ∧ x.service = { s.service with secTimer := none } ∧ x.store = s.store ∧
      x.hold = s.hold ∧ x.display.mode = .dark ∧
      x.chime = { s.chime with
        phase := .idle, requests := Vector.replicate 16 none, gapTimer := none, holder := none, output := .silent,
        strikeTimer := none, strikeEnd := none, phraseTimer := none, preempt := none, cutPending := false,
        cutTimer := none } ∧
      x.line.standing = [] ∧ x.line.statusTimer = none ∧ x.line.rxErrors = s.line.rxErrors ∧
      x.line.highPtr = s.line.highPtr ∧ x.line.lowPtr = s.line.lowPtr ∧
      ((∀ p ∈ s.line.pending, ∀ st v, p.stage ≠ .ready st v) →
        x.line.queue = s.line.queue ∧ x.line.pending = s.line.pending)) ∧
  (∀ (t : Stamp) (s : State), sleepReady s = false →
    exec (.enterAsleep t) s = .next (State.close s (s.stamped t))) ∧
  (∀ (t : Stamp) (s : State), s.awake = true → exec (.wake t) s = .next (State.close s { s with
    now := t
    line := { s.line with
      idle := false, stuck := false
      receiver := if s.line.receiver = .abandoned then .listens else s.line.receiver } })) ∧
  (∀ (c : Instr) (pins : Pins) (stuck : Bool) (s : State), s.awake = false →
    ((c = .wake c.stamp ∧ pins = s.key.pins ∧ stuck = false) ∨
      ∃ acc run, c = .keyLineChange c.stamp acc run ∧ (acc || run) = true ∧
        pins = { s.key.pins with keyAcc := acc, keyRun := run } ∧ stuck = s.line.stuck) →
    ∃ x, exec c s = .next x ∧
      x = State.besides { s with
        now := c.stamp
        key := { s.key with
          pins, mode := .awake, quiet := some (c.stamp + 5000), svcEn := pins.svcEn, svcTimer := none
          keyTimer := if derivedKey pins = s.key.key then none else some (c.stamp + 20) }
        gauges := { s.gauges with updateTimer := some (c.stamp + 20) }
        integ := { s.integ with fuelTimer := some (c.stamp + 1000) }
        monitor := { s.monitor with
          lampsLive := true
          lamps := if s.monitor.bulbTimer = none then lampsFrom s.image s.monitor.active else s.monitor.lamps }
        line := { s.line with idle := false, stuck, receiver := .woken } } x ∧
      x.display.mode =
        (if s.key.started = false then .dark
        else if s.display.queue ≠ [] then .message
        else if s.key.key = .off then .blank else .page))

/-! ## The line -/

/-- TELEGRAM_DISCARDED (R173, R174): each discarded reception counts one receive error; the sixteenth reports RX_CHECK and the
count returns to 0. The part drives no acknowledge for it. A part that does not receive counts nothing (R191, R178). That a
reception which passes all four checks is refused by name, as no such event, is the model's choice of log entry 40. -/
def Obligations.DiscardedTelegramsAreCounted : Prop :=
  ∀ (t : Stamp) (reception : List RxByte) (s : State),
    (receive reception = none → s.receives = true → s.line.rxErrors < 15 →
      exec (.telegramDiscarded t reception) s = .next (State.close s { s with
        now := t
        line := { s.line with rxErrors := s.line.rxErrors + 1, idle := false, stuck := false, acked := false } })) ∧
    (receive reception = none → s.receives = true → 15 ≤ s.line.rxErrors →
      exec (.telegramDiscarded t reception) s = .next (State.close s (State.reportFault { s with
        now := t
        line := { s.line with rxErrors := 0, idle := false, stuck := false, acked := false } } .rxCheck))) ∧
    (receive reception = none → s.receives = false →
      exec (.telegramDiscarded t reception) s = .next (State.close s (s.stamped t))) ∧
    (receive reception ≠ none →
      exec (.telegramDiscarded t reception) s = .refused (.notThisTelegram "TELEGRAM_DISCARDED"))

/-- LINE_STUCK reports one occurrence for each dominant run (R180). INTERFRAME_GAP_ELAPSED makes the line idle and the receiver
take the next telegram; with no attempt in flight and an entry queued, the first entry of the source that the rotation
serves goes in flight, the HIGH positions being scanned FAULT, REPLY, LOW and the LOW sources STATUS, TRIP, STANDING, each
from after its pointer (R172, R177). The model's choices: in ASLEEP the first does nothing and the second only ends the
stuck mark (log entry 24), and what ends the idle mark and the stuck mark (log entries 18 and 19). -/
def Obligations.WireEventsMoveTheTransmitter : Prop :=
  (∀ (t : Stamp) (s : State),
    exec (.lineStuck t) s = .next (State.close s
      (if s.awake = true ∧ s.line.stuck = false then
        State.reportFault { s with now := t, line := { s.line with stuck := true, idle := false } } .lineStuck
      else s.stamped t))) ∧
  (∀ (t : Stamp) (s : State), s.awake = false →
    exec (.interframeGapElapsed t) s = .next (State.close s { s with now := t, line := { s.line with stuck := false } })) ∧
  (∀ (t : Stamp) (s : State), s.awake = true → s.line.sending = true →
    exec (.interframeGapElapsed t) s = .next (State.close s { s with
      now := t, line := { s.line with idle := false, stuck := false, receiver := .listens } })) ∧
  (∀ (t : Stamp) (s : State), s.awake = true → s.line.queue = [] →
    exec (.interframeGapElapsed t) s = .next (State.close s { s with
      now := t, line := { s.line with idle := true, stuck := false, receiver := .listens } })) ∧
  (∀ (t : Stamp) (s : State), s.awake = true → s.line.sending = false → s.line.queue ≠ [] →
    let low : TxSource :=
      if s.line.lowPtr = .standing then
        (if s.line.has .status then .status else if s.line.has .trip then .trip else .standing)
      else if s.line.lowPtr = .status then
        (if s.line.has .trip then .trip else if s.line.has .standing then .standing else .status)
      else (if s.line.has .standing then .standing else if s.line.has .status then .status else .trip)
    let anyLow := s.line.has .status || s.line.has .trip || s.line.has .standing
    let src : TxSource := match s.line.highPtr with
      | .low => if s.line.has .fault then .fault else if s.line.has .reply then .reply else low
      | .fault => if s.line.has .reply then .reply else if anyLow then low else .fault
      | .reply => if anyLow then low else if s.line.has .fault then .fault else .reply
    ∃ (l₁ : List TxEntry) (e : TxEntry) (l₂ : List TxEntry),
      s.line.queue = l₁ ++ e :: l₂ ∧ e.source = src ∧ (∀ a ∈ l₁, a.source ≠ src) ∧
      exec (.interframeGapElapsed t) s = .next (State.close s { s with
        now := t
        line := { s.line with
          queue := l₁ ++ { e with inFlight := true } :: l₂, idle := false, stuck := false, receiver := .listens } }))

/-- TRANSMIT_OUTCOME (R178, R179) for the entry in flight, its queue holding no other one. Lost contention leaves the count, a
collision or an unheard telegram raises it; an entry that stays loses its mark and takes any follow-on data; after a
collision the receiver lets the telegram in progress pass. At the retry limit the entry is discarded with one occurrence,
LINE_COLLISION or LINE_SILENT by the last attempt, and a standing reply's registration goes. A success leaves the queue, or
with follow-on data waiting takes the last place with count 0, and moves the pointers; a REPLY that succeeded or was
discarded frees its pending answer (R184). The end of an attempt is no report of an owner: a standing reply that stays is
sent again with its old bytes, though the registration is due (R186). To which registration a standing reply belongs is the
model's choice, log entry 66. -/
def Obligations.TransmitOutcomesSettleTheAttempt : Prop :=
  ∀ (t : Stamp) (s : State) (l₁ l₂ : List TxEntry) (e : TxEntry),
    s.line.queue = l₁ ++ e :: l₂ → e.inFlight = true → (∀ a ∈ l₁ ++ l₂, a.inFlight = false) →
    let kept (n : Nat) : TxEntry :=
      { e with attempts := n, inFlight := false, data := e.followOn.getD e.data, followOn := none }
    let stays (n : Nat) (receiver : Receiver) : State := { s with
      now := t, line := { s.line with queue := l₁ ++ kept n :: l₂, idle := false, receiver } }
    let queue := l₁ ++ l₂ ++ (if e.followOn = none then [] else [kept 0])
    let pending := match e.source, e.target with
      | .reply, some asker => s.line.pending.filter fun p => !(p.asker = asker && p.group = e.group && p.stage = .queued)
      | _, _ => s.line.pending
    let standing := match e.source, e.target with
      | .standing, some asker => s.line.standing.filter fun r => !r.isFor asker e.group e.index
      | _, _ => s.line.standing
    let gone (receiver : Receiver) : State := { s with
      now := t, line := { s.line with queue, pending, standing, idle := false, receiver } }
    exec (.transmitOutcome t .lostContention) s = .next (State.close s (stays e.attempts s.line.receiver)) ∧
    (e.attempts + 1 < s.image.params.retryLimit →
      exec (.transmitOutcome t .collision) s = .next (State.close s (stays (e.attempts + 1) .abandoned)) ∧
      exec (.transmitOutcome t .unheard) s = .next (State.close s (stays (e.attempts + 1) s.line.receiver))) ∧
    (s.image.params.retryLimit ≤ e.attempts + 1 →
      exec (.transmitOutcome t .collision) s = .next (State.close s ((gone .abandoned).reportFault .lineCollision)) ∧
      exec (.transmitOutcome t .unheard) s = .next (State.close s ((gone s.line.receiver).reportFault .lineSilent))) ∧
    exec (.transmitOutcome t .success) s = .next (State.close s { s with
      now := t
      line := { s.line with
        queue, pending, idle := false
        highPtr := match e.source with | .fault => .fault | .reply => .reply | _ => .low
        lowPtr := match e.source with | .status => .status | .trip => .trip | .standing => .standing | _ => s.line.lowPtr } }) ∧
    (∀ (asker : Station) (r : StandingAsk), e.source = .standing → e.kind = .reply → e.target = some asker →
      s.line.standing = [r] → r.isFor asker e.group e.index = true → s.handed = .nothing →
      (∀ p ∈ s.line.pending, ∀ st v, p.stage ≠ .ready st v) → e.attempts + 1 < s.image.params.retryLimit →
      ∃ x y z, exec (.transmitOutcome t .lostContention) s = .next x ∧ exec (.transmitOutcome t .collision) s = .next y ∧
        exec (.transmitOutcome t .unheard) s = .next z ∧
        x.line.queue = l₁ ++ kept e.attempts :: l₂ ∧ y.line.queue = l₁ ++ kept (e.attempts + 1) :: l₂ ∧
        z.line.queue = l₁ ++ kept (e.attempts + 1) :: l₂ ∧
        x.line.standing = [r] ∧ y.line.standing = [r] ∧ z.line.standing = [r])

/-- An accepted telegram (R173, R175, R190): the part acknowledges it unless it is the part's own; any other station's telegram
starts the quiet timer afresh; the holder's telegram, other than a REPLY, starts the hold timer afresh (R141); a telegram
of the part's own number that it is not sending reports STATION_CLASH. A REPLY, or an ask or command for another station,
goes no further. A part that does not receive takes nothing (R178, R191). -/
def Obligations.AcceptedTelegramsAreHeard : Prop :=
  ∀ (t : Stamp) (origin : Station) (isReply : Bool) (s : State),
    (s.receives = true → origin ≠ s.key.station →
      exec (.otherTelegramAccepted t origin isReply) s = .next (State.close s { s with
        now := t
        line := { s.line with idle := false, stuck := false, acked := true }
        key := { s.key with quiet := some (t + 5000) }
        hold := { s.hold with timer :=
          if isReply = false ∧ s.hold.phase = .held ∧ s.hold.station = origin then some (t + 30000) else s.hold.timer } })) ∧
    (s.receives = true → origin = s.key.station → s.line.sending = false →
      exec (.otherTelegramAccepted t origin isReply) s = .next (State.close s (State.reportFault { s with
        now := t, line := { s.line with idle := false, stuck := false, acked := true } } .stationClash))) ∧
    (s.receives = true → origin = s.key.station → s.line.sending = true →
      exec (.otherTelegramAccepted t origin isReply) s = .next (State.close s { s with
        now := t, line := { s.line with idle := false, stuck := false, acked := false } })) ∧
    (s.receives = false →
      exec (.otherTelegramAccepted t origin isReply) s = .next (State.close s (s.stamped t)))

/-- What a PUBLISH does to the slots (R3, R4, R6, R9 to R11, R15, R18, R175), before any consumer is told: a slot that one feed
reaches goes by its freshness state, a slot that none reaches stays. From ABSENT and LOST, and from ACQUIRING with acquire
count 0, it goes to ACQUIRING with count 1; from ACQUIRING with count 1, FRESH and LATE it goes to FRESH, its count 2. Its
value or count base is the value taken, its stamp the arrival's, and both timers start afresh. All ones on a LEVEL slot
makes it LOST. A telegram with the part's own number, or before step 5, counts for no slot (R193). -/
def Obligations.PublishMovesTheSlots : Prop :=
  ∀ (t : Stamp) (m : Publish) (s : State), m.fits = true →
    ∃ x, exec (.publishReceived t m) s = .next x ∧ x.image = s.image ∧
      ((s.receives && s.key.started && decide (m.origin ≠ s.key.station)) = false → x.slots = s.slots) ∧
      (s.receives = true → s.key.started = true → m.origin ≠ s.key.station → ∀ i : SlotId,
        ((∀ f ∈ feeds s.image.subs m, f.1.slot ≠ i) → x.slots[i] = s.slots[i]) ∧
        ∀ (f₁ f₂ : List (Subscription × Nat)) (e : Subscription) (v : Nat),
          feeds s.image.subs m = f₁ ++ (e, v) :: f₂ → e.slot = i → (∀ f ∈ f₁ ++ f₂, f.1.slot ≠ i) →
          (slotKind i = .level → v = 2 ^ (8 * e.width) - 1 →
            x.slots[i].state = .lost ∧ x.slots[i].late = none ∧ x.slots[i].lost = none ∧ x.slots[i].acquired = 0) ∧
          (¬ (slotKind i = .level ∧ v = 2 ^ (8 * e.width) - 1) →
            (if s.slots[i].state = .fresh ∨ s.slots[i].state = .late ∨
                (s.slots[i].state = .acquiring ∧ s.slots[i].acquired ≠ 0) then
              x.slots[i].state = .fresh ∧ x.slots[i].acquired = 2
            else x.slots[i].state = .acquiring ∧ x.slots[i].acquired = 1) ∧
            x.slots[i].stamp = t ∧
            x.slots[i].late = some (t + BitVec.ofNat 32 (2 * e.period)) ∧
            x.slots[i].lost = some (t + BitVec.ofNat 32 (e.k * e.period)) ∧
            (slotKind i = .level ∨ slotKind i = .bits → x.slots[i].value = v) ∧
            (slotKind i = .count ∨ slotKind i = .presses → x.slots[i].base = v ∧ x.slots[i].baseValid = true)))

/-- What the consumers make of a PUBLISH that feeds one slot, the slot having been FRESH or LATE. DIST_COUNT (R18, R24 to R28,
R39, R134, R161): a delta within the limit goes to the remainder, each full P making a tenth, up to 9,999,999 where the
remainder becomes 0; the service distance and both trips grow and saturate; at a crossing of a whole unit R_q takes its step
where the mark is set, C_acc returns to 0, and a commit is queued or begun, as it is, urgent, at every tenth with the supply low
(R163; one request for both is log entry 52). The delta enters the speed window of at most four pairs, one without time being
added to the newest, and the speed is computed from the window's sums, or stays where they hold no time (R30, R31). FUEL_COUNT
(R29): a delta within the limit goes to both trips and to C_acc. Above its limit either reports IMPLAUSIBLE, clears the interval
mark and adds nothing. TANK_LEVEL (R36): armed detection is taken with the key at ACC or RUN. DAY_COUNT (R74, R75, R135): up to
7 days are counted and set the day mark, more report IMPLAUSIBLE; an open journey window closes, and trip B is zeroed where the
mark is set; the first arrival after sleep, against a base kept with its mark, takes the slot to ACQUIRING and counts up to 255
days, and judges no journey (R20). BUTTONS (R19, R72, R73, R94), where no warning reads it: page presses turn the page, reset
presses zero the trip of the page shown, an acknowledge press acknowledges the holder of the chime where it may. In MIRROR role
window, speed, fuel volume and plausibility act alike, and odometer, range basis, trips, counters and store do not (R23, R74,
R133). -/
def Obligations.PublishFeedsTheBlocks : Prop :=
  (∀ (t : Stamp) (m : Publish) (s : State) (e : Subscription) (v : Nat),
    m.fits = true → s.receives = true → s.key.started = true → m.origin ≠ s.key.station →
    feeds s.image.subs m = [(e, v)] → s.slots[e.slot].usable = true → 0 < s.image.params.p → OdometerLaw s →
    let c := s.image.params
    let dt := (t - s.slots[e.slot].stamp).toNat
    let base := s.slots[e.slot].base
    let delta (k : Nat) : Nat := (v % k + k - base % k) % k
    let press (n : Nat) : Nat := (v / 16 ^ n % 16 + 16 - base / 16 ^ n % 16) % 16
    let implausible (x : State) : Prop :=
      x.integ = { s.integ with mark := false } ∧ x.service = s.service ∧ x.trip = s.trip ∧ x.store = s.store ∧
      x.faults = s.faults.after .implausible
    ∃ x, exec (.publishReceived t m) s = .next x ∧
      (e.slot = 4 →
        let d := delta 65536
        let n := min ((s.integ.remainder + d) / c.p) (9999999 - s.integ.tenths)
        let units := (s.integ.tenths + n) / 10 - s.integ.tenths / 10
        let committed (urgent : Bool) : Prop :=
          (∃ u a f, StoreRequest.commit u a f ∈ x.store.queue ∧ (urgent = true → u = true)) ∨
          ∃ q w k, x.store.op = .record .odo q w 0 false k ∧ s.integ.tenths < k ∧ k ≤ s.integ.tenths + n
        let window : List SpeedPair :=
          if dt ≠ 0 then (if s.integ.window.length < 4 then s.integ.window else s.integ.window.drop 1) ++ [⟨d, dt⟩]
          else match s.integ.window.reverse with
            | [] => [⟨d, 0⟩]
            | newest :: older => older.reverse ++ [⟨newest.pulses + d, newest.millis⟩]
        let pulses := (window.map (·.pulses)).sum
        let millis := (window.map (·.millis)).sum
        if d ≤ (c.vmax * 10 * c.p * dt + 3599999) / 3600000 + 2 then
          x.integ.window = window ∧ (millis = 0 → x.integ.speed = s.integ.speed) ∧
          (millis ≠ 0 → ∃ speed : Nat, x.integ.speed = some (min speed 3000) ∧
            speed * (c.p * millis) ≤ pulses * 3600000 ∧ pulses * 3600000 < (speed + 1) * (c.p * millis)) ∧
          x.integ.volume = s.integ.volume ∧ x.integ.armed = s.integ.armed ∧ x.integ.fuelTimer = s.integ.fuelTimer ∧
          x.faults = s.faults ∧
          (s.primary = false →
            x.integ = { s.integ with window := x.integ.window, speed := x.integ.speed } ∧
            x.service = s.service ∧ x.trip = s.trip ∧ x.store = s.store) ∧
          (s.primary = true →
            x.integ.tenths = s.integ.tenths + n ∧
            x.integ.remainder = (if s.integ.tenths + n = 9999999 then 0 else (s.integ.remainder + d) % c.p) ∧
            x.service.dist = min 16777215 (s.service.dist + n) ∧
            x.trip.a = { s.trip.a with dist := min (s.trip.a.dist + d) 4294967295 } ∧
            x.trip.b = { s.trip.b with dist := min (s.trip.b.dist + d) 4294967295 } ∧
            (units = 0 → x.integ.rangeBase = s.integ.rangeBase ∧ x.integ.quanta = s.integ.quanta ∧
              x.integ.mark = s.integ.mark) ∧
            (units ≠ 0 → x.integ.quanta = 0 ∧ x.integ.mark = s.slots[(5 : SlotId)].usable ∧
              let last := min c.cMax (max c.cMin (s.integ.quanta / units))
              x.integ.rangeBase = (if s.integ.mark then
                ((s.integ.rangeBase : Int) + ((last : Int) - s.integ.rangeBase).tdiv 16).toNat else s.integ.rangeBase)) ∧
            (n = 0 ∨ (units = 0 ∧ s.key.pins.supplyLow = false) → x.store = s.store) ∧
            (s.store.odo.failed = false → units ≠ 0 → s.key.pins.supplyLow = false → committed false) ∧
            (s.store.odo.failed = false → n ≠ 0 → s.key.pins.supplyLow = true → committed true))
        else implausible x) ∧
      (e.slot = 5 →
        let f := delta 65536
        if f ≤ (c.fmax * dt + 999) / 1000 + 2 then
          x.faults = s.faults ∧ x.service = s.service ∧ x.store = s.store ∧
          (s.primary = false → x.trip = s.trip ∧ x.integ = s.integ) ∧
          (s.primary = true →
            x.trip.a = { s.trip.a with fuel := min (s.trip.a.fuel + f) 4294967295 } ∧
            x.trip.b = { s.trip.b with fuel := min (s.trip.b.fuel + f) 4294967295 } ∧
            x.integ = { s.integ with quanta := min 65535 (s.integ.quanta + f) })
        else implausible x) ∧
      (e.slot = 6 → v ≠ 2 ^ (8 * e.width) - 1 →
        let goal := 16 * senderVolume c.tank v
        x.integ = if s.integ.armed = true ∧ s.keyOn = true then
            { s.integ with armed := false, volume := some (match s.integ.volume with
                | none => goal
                | some f => if f + 16 * c.refill ≤ goal then goal else f) }
          else s.integ) ∧
      (e.slot = 13 → s.primary = false → s.trip.window = none →
        x.service = s.service ∧ x.trip = s.trip ∧ x.faults = s.faults) ∧
      (e.slot = 13 → s.primary = true →
        let d := delta 256
        let marked := s.trip.dayMark || (c.tripBAuto && decide (1 ≤ d ∧ d ≤ 7))
        x.service = (if d ≤ 7 then { s.service with days := min 65535 (s.service.days + d) } else s.service) ∧
        x.faults = (if d ≤ 7 then s.faults else s.faults.after .implausible) ∧
        x.trip = (if s.trip.window = none then { s.trip with dayMark := marked }
          else { s.trip with window := none, dayMark := false,
                             b := if marked then { dist := 0, fuel := 0, secs := 0 } else s.trip.b })) ∧
      (e.slot = 12 → (∀ w : EntryId, s.image.warnings[w].reads (.slot 12) = false) →
        s.trip.page < max 1 c.pages.length → (s.chime.phase = .idle → ∀ w : EntryId, s.chime.requests[w] = none) →
        (x.trip.page = if s.keyOn = true then (s.trip.page + press 0) % max 1 c.pages.length else s.trip.page) ∧
        (let reset := press 1 ≠ 0 ∧ s.primary = true ∧ s.keyOn = true ∧ s.display.mode = .page
         x.trip.a = (if reset ∧ (currentPage x).trip = some .a then { dist := 0, fuel := 0, secs := 0 } else s.trip.a) ∧
         x.trip.b = (if reset ∧ (currentPage x).trip = some .b then { dist := 0, fuel := 0, secs := 0 } else s.trip.b)) ∧
        (press 2 = 0 → x.monitor = s.monitor ∧ x.chime = s.chime) ∧
        (∀ h : EntryId, press 2 = 1 → s.chime.holder = some h → s.image.warnings[h].ackable = true →
          x.monitor = { s.monitor with entries := s.monitor.entries.set h { s.monitor.entries[h] with
            state := .acknowledged
            remind := if s.image.warnings[h].remind = 0 then none
              else some (t + BitVec.ofNat 32 (60000 * s.image.warnings[h].remind)) } } ∧
          x.chime.requests = s.chime.requests.set h none ∧
          ∀ q ∈ x.display.queue, q.id = s.image.warnings[h].message → q.id ≠ 0 → Owner.warning h ∉ q.owners))) ∧
  (∀ (t : Stamp) (m : Publish) (s : State) (e : Subscription) (v : Nat),
    m.fits = true → s.receives = true → s.key.started = true → m.origin ≠ s.key.station →
    feeds s.image.subs m = [(e, v)] → e.slot = 13 → s.slots[(13 : SlotId)].state = .absent →
    s.slots[(13 : SlotId)].baseValid = true →
    let d := (v % 256 + 256 - s.slots[(13 : SlotId)].base % 256) % 256
    ∃ x, exec (.publishReceived t m) s = .next x ∧ x.faults = s.faults ∧
      x.slots[(13 : SlotId)].state = .acquiring ∧ x.slots[(13 : SlotId)].acquired = 1 ∧
      x.slots[(13 : SlotId)].base = v ∧ x.slots[(13 : SlotId)].baseValid = true ∧
      x.service = (if s.primary then { s.service with days := min 65535 (s.service.days + d) } else s.service) ∧
      x.trip = { s.trip with
        dayMark := s.trip.dayMark || (s.primary && s.image.params.tripBAuto && decide (d ≠ 0)) })

/-! ## Asks -/

/-- Asks and commands that do not reach their owner (R175, R184, R193, R195): before step 5, or while a RESTART runs the store
out, one is answered BUSY at once; without an index it is answered UNKNOWN at once (R182); an ask whose answer is pending is
taken as the same ask and gets no second answer; one that finds the list full is answered BUSY at once. A reply at once joins
the queue if it can and is dropped otherwise. A part that does not receive does nothing. The model's choices: a request of more
than five bytes after its target is refused by name (R173, log entry 40); one without an index is BUSY, not UNKNOWN, before step
5 or in the drain (log entry 59), and UNKNOWN without PROTECTION where it is a flagged command (log entry 60); a merged ask with
the repeat flag registers nothing (log entry 58); a plain ask that merges or is answered BUSY removes no registration (log entry
32). -/
def Obligations.RequestsAreTurnedAway : Prop :=
  ∀ (t : Stamp) (group : Byte) (r : Request) (s : State) (o : Result),
    ((group = 0x40 ∧ o = exec (.askStatus t r) s) ∨ (group = 0x41 ∧ o = exec (.askTripA t r) s) ∨
      (group = 0x42 ∧ o = exec (.askTripBRange t r) s) ∨ (group = 0x50 ∧ o = exec (.askIdentity t r) s) ∨
      (group = 0x51 ∧ o = exec (.askServiceRecord t r) s) ∨ (group = 0x52 ∧ o = exec (.askConfigWord t r) s) ∨
      (group = 0x53 ∧ o = exec (.askGaugeState t r) s) ∨ (group = 0x60 ∧ o = exec (.holdRelease t r) s) ∨
      (group = 0x61 ∧ o = exec (.writeEnable t r) s) ∨ (group = 0x62 ∧ o = exec (.serviceReset t r) s) ∨
      (group = 0x63 ∧ o = exec (.eraseConfigBlock t r) s) ∨ (group = 0x64 ∧ o = exec (.writeConfigWord t r) s) ∨
      (group = 0x65 ∧ o = exec (.faultClear t r) s) ∨ (group = 0x66 ∧ o = exec (.gaugeTest t r) s) ∨
      (group = 0x67 ∧ o = exec (.restart t r) s) ∨
      (∃ kind, takes kind group = false ∧ o = exec (.unknownAskOrCommand t kind group r) s)) →
    let h := (s.stamped t).accept r.asker false
    (r.fits = true → s.receives = false → o = .next (State.close s (s.stamped t))) ∧
    (r.fits = true → s.receives = true → (s.key.started = false ∨ s.draining = true) →
      o = .next (State.close s (h.onLine (Line.replyAtOnce r.asker group r.index .busy)))) ∧
    (r.fits = true → s.receives = true → s.key.started = true → s.draining = false →
      (r.args = [] → o = .next (State.close s (h.onLine (Line.replyAtOnce r.asker group r.index .unknown)))) ∧
      (r.args ≠ [] → s.line.pending.any (fun p => p.isFor r.asker group r.index) = true →
        o = .next (State.close s h)) ∧
      (r.args ≠ [] → s.line.pending.any (fun p => p.isFor r.asker group r.index) = false → 4 ≤ s.line.pending.length →
        o = .next (State.close s (h.onLine (Line.replyAtOnce r.asker group r.index .busy))))) ∧
    (r.fits = false → ∃ name, o = .refused (.notThisTelegram name)) ∧
    (∀ l : Line, Line.replyAtOnce r.asker group r.index .busy l =
      if l.queue.countP (fun e => e.source = .reply) < 2 ∧
          (∀ e ∈ l.queue, ¬ (e.kind = .reply ∧ e.group = group ∧ e.target = some r.asker)) then
        l.handOn { source := .reply, kind := .reply, group, target := some r.asker, index := r.index,
                   data := [r.asker.setWidth 8, 1, 0, 0, 0, 0], attempts := 0, inFlight := false, followOn := none }
      else l)

/-- The asks of the four watched groups 40H, 41H, 42H and 53H (R64, R81, R181, R185): a plain ask is answered with what its index
reads and removes its own registration; an ask with the repeat flag registers, where what it reads is DONE and the list
holds its key or has room, with the bytes answered; where what it reads is not DONE, or the list is full and the answer
BUSY, nothing is registered. No other registration comes or goes. -/
def Obligations.WatchedAsksAreAnswered : Prop :=
  ∀ (t : Stamp) (group : Byte) (r : Request) (s : State) (o : Result),
    ((group = 0x40 ∧ o = exec (.askStatus t r) s) ∨ (group = 0x41 ∧ o = exec (.askTripA t r) s) ∨
      (group = 0x42 ∧ o = exec (.askTripBRange t r) s) ∨ (group = 0x53 ∧ o = exec (.askGaugeState t r) s)) →
    s.hears group r = true →
    let h := s.heard t group r
    let a := watchedAnswer h group r.index
    let known := s.line.standing.any fun x => x.isFor r.asker group r.index
    let keys (l : List StandingAsk) : List (Station × Byte × Byte) := l.map fun y => (y.asker, y.group, y.index)
    (r.again = false → AnswersWith o h r group a.1 a.2 ∧
      ∀ x, o = .next x → keys x.line.standing =
        keys (s.line.standing.filter fun y => !y.isFor r.asker group r.index)) ∧
    (r.again = true → a.1 ≠ .done → AnswersWith o h r group a.1 [] ∧
      ∀ x, o = .next x → keys x.line.standing = keys s.line.standing) ∧
    (r.again = true → a.1 = .done → (known = true ∨ s.line.standing.length < 4) → AnswersWith o h r group .done a.2 ∧
      ∀ x, o = .next x →
        (∃ y ∈ x.line.standing, y.isFor r.asker group r.index = true ∧ y.last = a.2) ∧
        keys x.line.standing = keys s.line.standing ++ if known then [] else [(r.asker, group, r.index)]) ∧
    (r.again = true → a.1 = .done → known = false → 4 ≤ s.line.standing.length → AnswersWith o h r group .busy [] ∧
      ∀ x, o = .next x → keys x.line.standing = keys s.line.standing)

/-- What the watched groups read (R64, R81, R181, sections 4.6 and 10.6): the odometer with the count of ACTIVE warnings, the
grant holder with the service state; the trip A distance, the form flags and the average consumption; the range, average speed
and elapsed minutes; a channel's state, pointer position and commanded value. The average consumption is no value where D < 10 P
or F = 0, and else the form of the UNITS strap rounded to nearest, halves up, and clamped to 999 (R42): F Q P / (100 D), or D
3,785,412 / (P F Q), or D 4,546,090 / (P F Q). The range is no value without a fuel volume, and else the volume times 100,000 by
R_q Q, rounded down and clamped to 999 (R43); the volume shown is V_f / 16 rounded to nearest (R37). The trip groups are NOT_NOW
in a mirror, an index outside the group is UNKNOWN. The odometer field shows T right-aligned in seven positions with leading
zeros blank, "12345.7" for 123,457 and "0.4" for 4, or seven dashes in a mirror, and is unlit in BLANK and DARK (R131). -/
def Obligations.WatchedGroupsReadTheFigures : Prop :=
  (∀ (units : Units) (p q : Nat) (r : TripRecord),
    (r.dist < 10 * p ∨ r.fuel = 0 → averageConsumption units p q r = none) ∧
    (0 < p → 0 < q → 10 * p ≤ r.dist → r.fuel ≠ 0 →
      let num := match units with
        | .metric => r.fuel * q * p | .us => r.dist * 3785412 | .imperial => r.dist * 4546090
      let den := match units with | .metric => 100 * r.dist | .us | .imperial => p * r.fuel * q
      ∃ n : Nat, averageConsumption units p q r = some (min n 999) ∧
        2 * den * n ≤ 2 * num + den ∧ 2 * num + den < 2 * den * (n + 1))) ∧
  (∀ rq q : Nat, rangeOf none rq q = none ∧ ∀ v : Nat, 0 < rq * q →
    ∃ n : Nat, rangeOf (some v) rq q = some (min n 999) ∧ n * (rq * q) ≤ v * 100000 ∧ v * 100000 < (n + 1) * (rq * q)) ∧
  (shownVolume none = none ∧ ∀ f : Nat,
    ∃ n : Nat, shownVolume (some f) = some n ∧ 16 * n ≤ f + 8 ∧ f + 8 < 16 * (n + 1)) ∧
  (∀ s : State,
    let p := s.image.params.p
    let q := s.image.params.q
    let two (v : Option Nat) : List Byte := match v with
      | some n => [BitVec.ofNat 8 (n / 256), BitVec.ofNat 8 n]
      | none => [0xFF, 0xFF]
    let three (n : Nat) : List Byte := [BitVec.ofNat 8 (n / 65536), BitVec.ofNat 8 (n / 256), BitVec.ofNat 8 n]
    let lit := s.display.mode = .page ∨ s.display.mode = .message
    watchedAnswer s 0x40 0 = (.done, (if s.primary then three s.integ.tenths else [0xFF, 0xFF, 0xFF]) ++
      [BitVec.ofNat 8 (s.monitor.active.countP fun e => s.monitor.entries[e].state = .active)]) ∧
    watchedAnswer s 0x40 1 = (.done,
      [match s.chime.holder with | some e => BitVec.ofNat 8 e.val | none => 0xFF, BitVec.ofNat 8 (serviceState s), 0, 0]) ∧
    (s.primary = true →
      watchedAnswer s 0x41 0 = (.done, three (min (s.trip.a.dist / p) 999999) ++
        ([match s.key.units with | .metric => 1 | .us => 2 | .imperial => 4] : List Byte)) ∧
      watchedAnswer s 0x41 1 = (.done, two (averageConsumption s.key.units p q s.trip.a) ++ ([0, 0] : List Byte)) ∧
      watchedAnswer s 0x42 0 = (.done, two (rangeOf (shownVolume s.integ.volume) s.integ.rangeBase q) ++
        two (averageSpeed p s.trip.a)) ∧
      watchedAnswer s 0x42 1 = (.done, two (some (min (s.trip.a.secs / 60) 65534)) ++ ([0, 0] : List Byte))) ∧
    (s.primary = false → ∀ index : Byte,
      (watchedAnswer s 0x41 index).1 = .notNow ∧ (watchedAnswer s 0x42 index).1 = .notNow) ∧
    (∀ index : Byte, 1 < index.toNat → s.primary = true →
      (watchedAnswer s 0x40 index).1 = .unknown ∧ (watchedAnswer s 0x41 index).1 = .unknown ∧
      (watchedAnswer s 0x42 index).1 = .unknown) ∧
    (∀ index : Byte, 5 < index.toNat → (watchedAnswer s 0x53 index).1 = .unknown) ∧
    (∀ i : Fin 6, watchedAnswer s 0x53 (BitVec.ofNat 8 i.val) = (.done,
      if s.image.gauges[i].enabled = true then
        BitVec.ofNat 8 s.gauges.channels[i].state.code ::
          three (4096 * (match s.gauges.channels[i].state with
              | .zeroing => 4095 | .parked => 0 | _ => s.gauges.channels[i].position) +
            commanded s.image.gauges[i] s.gauges.channels[i])
      else [0x87, 0, 0, 0])) ∧
    (¬ lit → odometerField s = none) ∧
    (lit → s.primary = false → ∃ f, odometerField s = some f ∧ f.positions = ['-', '-', '-', '-', '-', '-', '-']) ∧
    (lit → s.primary = true → s.integ.tenths ≤ 9999999 →
      ∃ f blanks, odometerField s = some f ∧ f.point = true ∧ f.positions.length = 7 ∧
        f.positions = List.replicate blanks ' ' ++ Nat.toDigits 10 (s.integ.tenths / 10) ++
          Nat.toDigits 10 (s.integ.tenths % 10)) ∧
    (lit → s.primary = true → s.integ.tenths = 123457 →
      ∃ f, odometerField s = some f ∧ f.positions = [' ', '1', '2', '3', '4', '5', '7']) ∧
    (lit → s.primary = true → s.integ.tenths = 4 →
      ∃ f, odometerField s = some f ∧ f.positions = [' ', ' ', ' ', ' ', ' ', '0', '4']))

/-- ASK_IDENTITY (R182): index 0 is answered with the revision 01H, the station, role and units byte and the configuration check
word, index 1 with the bytes of 48H FAULTS (R99), any other index UNKNOWN. -/
def Obligations.IdentityAskIsAnswered : Prop :=
  ∀ (t : Stamp) (r : Request) (s : State), s.hears 0x50 r = true →
    let h := s.heard t 0x50 r
    (r.index = 0 → AnswersWith (exec (.askIdentity t r) s) h r 0x50 .done
      [0x01,
       BitVec.ofNat 8 (s.key.station.toNat + (if s.key.role = .mirror then 32 else 0) +
         (match s.key.units with | .metric => 0 | .us => 64 | .imperial => 128)),
       BitVec.ofNat 8 (s.image.checkWord.toNat / 256), BitVec.ofNat 8 s.image.checkWord.toNat]) ∧
    (r.index = 1 → AnswersWith (exec (.askIdentity t r) s) h r 0x50 .done
      (faultBytes h.faults s.image.params.reportMask)) ∧
    (1 < r.index.toNat → AnswersWith (exec (.askIdentity t r) s) h r 0x50 .unknown [])

/-- ASK_SERVICE_RECORD (R140, R142): NOT_NOW in a mirror, UNKNOWN for an index above 3; otherwise, without the hold flag or from
the station that holds or is opening the hold, the record of the index; with the hold flag and no hold, LOCKED while the
service-enable line is inactive, and while it is active the hold with 30 s and the latch clear; HELD with the station's number
where another station holds. -/
def Obligations.ServiceRecordAskIsAnswered : Prop :=
  ∀ (t : Stamp) (r : Request) (s : State), s.hears 0x51 r = true →
    let h := s.heard t 0x51 r
    let o := exec (.askServiceRecord t r) s
    let code (n : Nat) : Byte := BitVec.ofNat 8 n
    let record (i : Nat) : List Byte :=
      if i = 0 then [code (s.service.dist / 65536), code (s.service.dist / 256), code s.service.dist, code (distState s)]
      else if i = 1 then [code (s.service.days / 256), code s.service.days, 0, code (daysState s)]
      else if i = 2 then [code (s.service.wear / 16777216), code (s.service.wear / 65536), code (s.service.wear / 256),
        code s.service.wear]
      else [code (max (distState s) (max (daysState s) (wearState s))), code (distState s), code (daysState s),
        code (wearState s)]
    (s.primary = false → AnswersWith o h r 0x51 .notNow []) ∧
    (s.primary = true → 3 < r.index.toNat → AnswersWith o h r 0x51 .unknown []) ∧
    (s.primary = true → r.index.toNat ≤ 3 →
      (r.hold = false ∨ (s.hold.phase ≠ .none ∧ s.hold.station = r.asker) →
        AnswersWith o h r 0x51 .done (record r.index.toNat)) ∧
      (r.hold = true → s.hold.phase = .none → s.key.svcEn = false → AnswersWith o h r 0x51 .locked []) ∧
      (r.hold = true → s.hold.phase = .none → s.key.svcEn = true →
        AnswersWith o { h with hold := { phase := .held, station := r.asker, timer := some (t + 30000), latch := false } }
          r 0x51 .done (record r.index.toNat)) ∧
      (r.hold = true → s.hold.phase ≠ .none → s.hold.station ≠ r.asker →
        AnswersWith o h r 0x51 .held [s.hold.station.setWidth 8]))

/-- ASK_CONFIG_WORD (R142, R168): BUSY while two reads are queued; with the hold flag the refusals of R142; otherwise a read joins
the store's queue with its limit of 1 s, as a claim where the hold flag opens a hold, and an idle store starts it at
once. That a read in progress is not counted among the two is the model's reading, log entry 34: a read has left the queue
when it starts, and R158 counts what is queued and not started. -/
def Obligations.ConfigWordAskQueuesARead : Prop :=
  ∀ (t : Stamp) (r : Request) (s : State), s.hears 0x52 r = true →
    let h := s.heard t 0x52 r
    let o := exec (.askConfigWord t r) s
    let reads := s.store.queue.countP fun q => match q with | .read .. => true | _ => false
    let taken (claim : Claim) (hold : Hold) : State := { h with
      hold, store := { s.store with queue := s.store.queue ++ [.read r.asker r.index claim (some (t + 1000))] } }
    let opening : Hold := { phase := .opening, station := r.asker, timer := none, latch := false }
    (2 ≤ reads → AnswersWith o h r 0x52 .busy []) ∧
    (reads < 2 →
      (r.hold = false ∨ (s.hold.phase ≠ .none ∧ s.hold.station = r.asker) →
        o = .next (State.close s (taken .plain h.hold).serve)) ∧
      (r.hold = true → s.hold.phase = .none → s.key.svcEn = false → AnswersWith o h r 0x52 .locked []) ∧
      (r.hold = true → s.hold.phase = .none → s.key.svcEn = true →
        o = .next (State.close s (taken .claiming opening).serve)) ∧
      (r.hold = true → s.hold.phase ≠ .none → s.hold.station ≠ r.asker →
        AnswersWith o h r 0x52 .held [s.hold.station.setWidth 8]) ∧
      (∀ (claim : Claim) (hold : Hold), s.store.op = .idle → s.store.queue = [] →
        (∀ j, s.store.suspended = some j → j.block.val ≠ r.index.toNat / 64) →
        (taken claim hold).serve = { taken claim hold with store := { s.store with
          queue := [], op := .reading r.asker r.index claim, opTimer := some (t + 1) } }))

/-- UNKNOWN_ASK_OR_COMMAND (R144, R182): a pair of kind and group that the part does not take is answered UNKNOWN; a COMMAND
with the hold flag from a station that is not the holder is answered NOT_HELD with one PROTECTION occurrence. That a pair which
the part takes is refused by name, as no such event, is the model's choice of log entry 40. -/
def Obligations.UnknownRequestsAreAnswered : Prop :=
  ∀ (t : Stamp) (kind : RequestKind) (group : Byte) (r : Request) (s : State),
    let o := exec (.unknownAskOrCommand t kind group r) s
    (takes kind group = true → o = .refused (.notThisTelegram "UNKNOWN_ASK_OR_COMMAND")) ∧
    (takes kind group = false → s.hears group r = true →
      (kind = .ask ∨ r.hold = false ∨ s.hold.isHolder r.asker = true →
        AnswersWith o (s.heard t group r) r group .unknown []) ∧
      (kind = .command → r.hold = true → s.hold.isHolder r.asker = false →
        AnswersWith o ((s.heard t group r).reportFault .protection) r group .notHeld [])) ∧
    (∀ g : Byte, takes .ask g = true ↔ g ∈ [0x40, 0x41, 0x42, 0x50, 0x51, 0x52, 0x53]) ∧
    (∀ g : Byte, takes .command g = true ↔ g ∈ [0x60, 0x61, 0x62, 0x63, 0x64, 0x65, 0x66, 0x67])

/-! ## Commands -/

/-- A protected command from a station that does not hold the hold, or any command with the hold flag from such a station, is
answered NOT_HELD with one PROTECTION occurrence and changes nothing else (R144, R145); a SERVICE RESET without the hold flag
meets the role check first. -/
def Obligations.StrangersAreRefused : Prop :=
  ∀ (t : Stamp) (group : Byte) (r : Request) (s : State) (o : Result),
    ((group = 0x60 ∧ r.hold = true ∧ o = exec (.holdRelease t r) s) ∨ (group = 0x61 ∧ o = exec (.writeEnable t r) s) ∨
      (group = 0x62 ∧ (r.hold = true ∨ s.primary = true) ∧ o = exec (.serviceReset t r) s) ∨
      (group = 0x63 ∧ o = exec (.eraseConfigBlock t r) s) ∨ (group = 0x64 ∧ o = exec (.writeConfigWord t r) s) ∨
      (group = 0x65 ∧ o = exec (.faultClear t r) s) ∨ (group = 0x66 ∧ r.hold = true ∧ o = exec (.gaugeTest t r) s) ∨
      (group = 0x67 ∧ o = exec (.restart t r) s)) →
    s.hears group r = true → ¬ (s.hold.phase = .held ∧ s.hold.station = r.asker) →
    AnswersWith o ((s.heard t group r).reportFault .protection) r group .notHeld []

/-- HOLD_RELEASE and WRITE_ENABLE (R144, R146): the holder's release ends the hold at once and is answered DONE, the queued
configuration operations being ABORTED and a pending reset ABORTED exactly where no record carrying it has been built (R143,
R148, R167); without the hold flag another station's release is answered NOT_HELD. The holder's WRITE ENABLE sets the latch
and is answered DONE, set or not before. -/
def Obligations.HoldCommandsMoveTheHold : Prop :=
  (∀ (t : Stamp) (r : Request) (s : State), s.hears 0x60 r = true → s.hold.phase = .held → s.hold.station = r.asker →
    ∃ x, exec (.holdRelease t r) s = .next x ∧ Answered x.line r 0x60 .done [] ∧
      x = State.withTraffic { s.heard t 0x60 r with hold := .cleared, service := x.service, store := x.store } x ∧
      HoldEnded s x) ∧
  (∀ (t : Stamp) (r : Request) (s : State), s.hears 0x60 r = true → r.hold = false →
    ¬ (s.hold.phase = .held ∧ s.hold.station = r.asker) →
    AnswersWith (exec (.holdRelease t r) s) (s.heard t 0x60 r) r 0x60 .notHeld []) ∧
  (∀ (t : Stamp) (r : Request) (s : State), s.hears 0x61 r = true → s.hold.phase = .held → s.hold.station = r.asker →
    AnswersWith (exec (.writeEnable t r) s)
      { s.heard t 0x61 r with hold := { (s.heard t 0x61 r).hold with latch := true } } r 0x61 .done [])

/-- SERVICE_RESET from the holder (R145, R147): NOT_NOW in a mirror; BAD_COMPLEMENT with PROTECTION and the latch cleared where
data byte 2 is not the complement of the selector; UNKNOWN for a selector above 3; NO_LATCH with PROTECTION while the latch is
clear; BUSY while a reset is pending; NOT_NOW while the supply is low; FAILED at once where the save ring is FAILED (R157);
otherwise the reset stands pending, the counters as they were, with a save record under way or queued for it. -/
def Obligations.ServiceResetIsTaken : Prop :=
  ∀ (t : Stamp) (r : Request) (s : State), s.hears 0x62 r = true → s.hold.phase = .held → s.hold.station = r.asker →
    let h := s.heard t 0x62 r
    let o := exec (.serviceReset t r) s
    let good := r.arg 1 = some (~~~ r.index)
    (s.primary = false → AnswersWith o h r 0x62 .notNow []) ∧
    (s.primary = true →
      (¬ good → AnswersWith o (h.reportFault .protection).clearLatch r 0x62 .badComplement []) ∧
      (good → 3 < r.index.toNat → AnswersWith o h r 0x62 .unknown []) ∧
      (good → r.index.toNat ≤ 3 → s.hold.latch = false → AnswersWith o (h.reportFault .protection) r 0x62 .noLatch []) ∧
      (good → r.index.toNat ≤ 3 → s.hold.latch = true → s.service.reset ≠ none → AnswersWith o h r 0x62 .busy []) ∧
      (good → r.index.toNat ≤ 3 → s.hold.latch = true → s.service.reset = none → s.key.pins.supplyLow = true →
        AnswersWith o h r 0x62 .notNow []) ∧
      (good → r.index.toNat ≤ 3 → s.hold.latch = true → s.service.reset = none → s.key.pins.supplyLow = false →
        (s.store.save.failed = true → ∃ x, o = .next x ∧ Answered x.line r 0x62 .failed [] ∧
          x.service = s.service ∧ x.hold.latch = false ∧ x.store = s.store) ∧
        (s.store.save.failed = false → ∃ x, o = .next x ∧
          x = State.withTraffic { h with
            service := { s.service with reset := some { asker := r.asker, selector := r.index.toNat } }
            store := x.store, hold := { h.hold with latch := x.hold.latch } } x ∧
          ((∃ k again fr, StoreRequest.save k true again true fr ∈ x.store.queue ∨
              StoreRequest.save k true again false fr ∈ x.store.queue) ∨
            ∃ k again fr w n ab d, x.store.op = .record .save (.save k true again true fr) w n ab d))))

/-- ERASE_CONFIG_BLOCK and WRITE_CONFIG_WORD from the holder (R145, R165, R166): the refusals in their order, then the operation
joins the store's queue, and an idle store with an empty queue starts it at once: an erase of 16 ms, a word program of 4 ms. A
program that asks a zero bit to become one is answered FAILED with the latch cleared and programs nothing (R150); that the store
finds this out within the command itself, where it is idle, is the model's choice of log entry 30. -/
def Obligations.ConfigWritesEnterTheStore : Prop :=
  ∀ (t : Stamp) (r : Request) (s : State), s.hold.phase = .held → s.hold.station = r.asker →
    (s.hears 0x63 r = true →
      let h := s.heard t 0x63 r
      let o := exec (.eraseConfigBlock t r) s
      let block : BlockId := Fin.ofNat 16 r.index.toNat
      let e : State := { h with store := { s.store with queue := s.store.queue ++ [.erase (.config r.asker) block] } }
      (3 < r.index.toNat → AnswersWith o h r 0x63 .unknown []) ∧
      (r.index.toNat ≤ 3 → s.hold.latch = false → AnswersWith o (h.reportFault .protection) r 0x63 .noLatch []) ∧
      (r.index.toNat ≤ 3 → s.hold.latch = true → s.store.configBusy = true → AnswersWith o h r 0x63 .busy []) ∧
      (r.index.toNat ≤ 3 → s.hold.latch = true → s.store.configBusy = false → s.key.pins.supplyLow = true →
        AnswersWith o h r 0x63 .notNow []) ∧
      (r.index.toNat ≤ 3 → s.hold.latch = true → s.store.configBusy = false → s.key.pins.supplyLow = false →
        o = .next (State.close s e.serve) ∧
        (s.store.op = .idle → s.store.queue = [] → s.store.suspended = none →
          e.serve = { e with store := { s.store with
            op := .erasing { owner := .config r.asker, block, attempt := 1, spent := 0 } t, opTimer := some (t + 16) } }))) ∧
    (s.hears 0x64 r = true →
      let h := s.heard t 0x64 r
      let o := exec (.writeConfigWord t r) s
      let good := ∃ v, r.word 1 = some v ∧ r.word 3 = some (~~~ v)
      (¬ good → AnswersWith o (h.reportFault .protection).clearLatch r 0x64 .badComplement []) ∧
      (good → s.hold.latch = false → AnswersWith o (h.reportFault .protection) r 0x64 .noLatch []) ∧
      (good → s.hold.latch = true → s.store.configBusy = true → AnswersWith o h r 0x64 .busy []) ∧
      (good → s.hold.latch = true → s.store.configBusy = false → s.key.pins.supplyLow = true →
        AnswersWith o h r 0x64 .notNow []) ∧
      (∀ v, r.word 1 = some v → r.word 3 = some (~~~ v) →
        s.hold.latch = true → s.store.configBusy = false → s.key.pins.supplyLow = false →
        let e : State := { h with store := { s.store with queue := s.store.queue ++ [.program r.asker r.index v] } }
        let old := readWord s.store.array r.index.toNat
        o = .next (State.close s (e.arrive (configBlock r.index))) ∧
        (s.store.op = .idle → s.store.queue = [] → s.store.suspended = none → old &&& v = v →
          e.arrive (configBlock r.index) = { e with store := { s.store with
            op := .word r.asker r.index v, opTimer := some (t + 4) } }) ∧
        (s.store.op = .idle → s.store.queue = [] → s.store.suspended = none → old &&& v ≠ v →
          AnswersWith o h.clearLatch r 0x64 .failed [])))

/-- FAULT_CLEAR from the holder (R100): every flag and count is cleared and no kind is newest, a queued 48H takes the cleared
record, and the command is answered DONE. Nothing but the alerts, the fault record and the line changes. -/
def Obligations.FaultClearEmptiesTheRecord : Prop :=
  ∀ (t : Stamp) (r : Request) (s : State), s.hears 0x65 r = true → s.hold.phase = .held → s.hold.station = r.asker →
    ∃ x, exec (.faultClear t r) s = .next x ∧ Answered x.line r 0x65 .done [] ∧
      x.faults = { latched := 0, counts := Vector.replicate 15 0, newest := none } ∧
      x = State.besides { s.heard t 0x65 r with faults := x.faults, monitor := x.monitor, chime := x.chime } x ∧
      (s.line.has .fault = true → ∃ e ∈ x.line.queue, e.kind = .publish ∧ e.group = 0x48 ∧
        (e.data = [0, 0, 0xFF, 0] ∨ e.followOn = some [0, 0, 0xFF, 0])) ∧
      ((s.heard t 0x65 r).faultAny = false →
        x.monitor = (s.heard t 0x65 r).monitor ∧ x.chime = (s.heard t 0x65 r).chime)

/-- GAUGE_TEST (R63), without the hold flag or from the holder: an argument of 6 or above 7 is UNKNOWN; with the key OFF, an
addressed channel disabled, or an addressed channel in ZEROING it is NOT_NOW; otherwise DONE, and every addressed channel
goes to SWEEP_UP from where it stands. The argument 7 addresses every enabled channel. -/
def Obligations.GaugeTestSweeps : Prop :=
  ∀ (t : Stamp) (r : Request) (s : State), s.hears 0x66 r = true → r.hold = false ∨ s.hold.isHolder r.asker = true →
    let h := s.heard t 0x66 r
    let o := exec (.gaugeTest t r) s
    let n := r.index.toNat
    let addressed (i : Fin 6) : Bool := decide (n = i.val) || (decide (n = 7) && s.image.gauges[i].enabled)
    let barred := s.key.key = .off ∨
      ∃ i : Fin 6, addressed i = true ∧ (s.image.gauges[i].enabled = false ∨ s.gauges.channels[i].state = .zeroing)
    let swept : Vector Channel 6 := Vector.ofFn fun i =>
      if addressed i then { s.gauges.channels[i] with state := .sweepUp } else s.gauges.channels[i]
    (n = 6 ∨ 7 < n → AnswersWith o h r 0x66 .unknown []) ∧
    (n ≠ 6 → n ≤ 7 → barred → AnswersWith o h r 0x66 .notNow []) ∧
    (n ≠ 6 → n ≤ 7 → ¬ barred →
      AnswersWith o { h with gauges := { s.gauges with channels := swept } } r 0x66 .done [])

/-- RESTART from the holder (R145, R195): BUSY while a RESTART or a service reset is pending; otherwise DONE, and the restart
waits. In PRIMARY role each ring that is not FAILED gets its part of the key-off save, queued, or newly begun where no record
was in progress, the save record behind the commit (R164); the entry of a FAILED ring counts as failed at once (R157), and the
hold lasts until the others are served; in MIRROR role, or with both rings FAILED, the hold ends at once and the store runs out. -/
def Obligations.RestartIsTaken : Prop :=
  ∀ (t : Stamp) (r : Request) (s : State), s.hears 0x67 r = true → s.hold.phase = .held → s.hold.station = r.asker →
    let o := exec (.restart t r) s
    let odo := s.primary && !s.store.odo.failed
    let save := s.primary && !s.store.save.failed
    (s.key.restart ≠ none ∨ s.service.reset ≠ none → AnswersWith o (s.heard t 0x67 r) r 0x67 .busy []) ∧
    (s.key.restart = none → s.service.reset = none →
      ∃ x, o = .next x ∧ Answered x.line r 0x67 .done [] ∧ x.key.key = s.key.key ∧ x.key.started = s.key.started ∧
        x.slots = s.slots ∧ x.integ = s.integ ∧ x.gauges = s.gauges ∧ x.trip = s.trip ∧ x.service = s.service ∧
        x.key.restart = some { commitOpen := odo, saveOpen := save, draining := !(odo || save) } ∧
        ((odo || save) = true → x.hold.phase = .held ∧ x.hold.station = r.asker) ∧
        (odo = true → x.store.queue.any (·.isCommit) = true ∨ ∃ q, x.store.NewlyBegun t .odo q s) ∧
        (save = true → x.store.queue.any (·.isSave) = true ∨ ∃ q, x.store.NewlyBegun t .save q s) ∧
        (s.primary = true → x.store.queue.Pairwise (fun a b => ¬ (a.isSave = true ∧ b.isCommit = true))) ∧
        ((odo || save) = false → x.hold = .cleared ∧ ∀ q ∈ x.store.queue, q.isCommit = true ∨ q.isSave = true))

/-! ## Slots, fuel, gauges, trips -/

/-- The late and lost expiries of a slot (R12, R13, R16). Late: FRESH becomes LATE with its value kept; in ACQUIRING the acquire
count returns to 0 and a count base becomes invalid. Lost: the slot is LOST with its base invalid, and DIST_COUNT lost from
FRESH or LATE reports one DIST_GAP; with DIST_COUNT the speed window is emptied, the speed becomes no value and the interval
mark is cleared (R32, R38). No other slot changes, and no distance is counted. What a LOST slot's value and base read is the
model's choice, log entry 13. -/
def Obligations.SlotExpiriesLoseTheSlot : Prop :=
  (∀ (t : Stamp) (i : SlotId) (s : State), isDue t s.slots[i].late = true →
    ∃ x, exec (.slotLateExpiry t i) s = .next x ∧
      (∀ j : SlotId, j ≠ i → x.slots[j] = s.slots[j]) ∧
      (s.slots[i].state = .fresh → x.slots[i] = { s.slots[i] with state := .late, late := none }) ∧
      (s.slots[i].state = .acquiring → x.slots[i] = { s.slots[i] with
        acquired := 0, late := none
        baseValid := if slotKind i = .count ∨ slotKind i = .presses then false else s.slots[i].baseValid }) ∧
      x.faults = s.faults ∧ x.integ.tenths = s.integ.tenths ∧ x.trip = s.trip ∧ x.service = s.service ∧ x.store = s.store) ∧
  (∀ (t : Stamp) (i : SlotId) (s : State), isDue t s.slots[i].lost = true →
    ∃ x, exec (.slotLostExpiry t i) s = .next x ∧
      (∀ j : SlotId, j ≠ i → x.slots[j] = s.slots[j]) ∧
      x.slots[i] = { s.slots[i] with state := .lost, late := none, lost := none, acquired := 0, baseValid := false } ∧
      x.faults = (if i = 4 ∧ (s.slots[i].state = .fresh ∨ s.slots[i].state = .late) then s.faults.after .distGap
        else s.faults) ∧
      (i = 4 → x.integ.window = [] ∧ x.integ.speed = none ∧ x.integ.mark = false) ∧
      x.integ.tenths = s.integ.tenths ∧ x.trip = s.trip ∧ x.service = s.service ∧ x.store = s.store)

/-- One expiry of the fuel timer (R34, R35, R37). With the key at ACC or RUN, TANK_LEVEL usable, V_f a value and refill detection
disarmed, V_f goes by trunc((16 V - V_f) / 64), or by 1 toward 16 V where that is 0 and they differ, V being the sender
volume of the reading; in every other case V_f stays. The timer starts again, and no other item of the integrator
changes. -/
def Obligations.FuelFilterTakesOneStep : Prop :=
  ∀ (t : Stamp) (s : State), isDue t s.integ.fuelTimer = true →
    ∃ x, exec (.fuelTimerExpiry t) s = .next x ∧
      x.integ = { s.integ with fuelTimer := some (t + 1000), volume := x.integ.volume } ∧
      x.slots = s.slots ∧ x.gauges = s.gauges ∧ x.service = s.service ∧ x.store = s.store ∧ x.faults = s.faults ∧
      x.trip = { s.trip with range := x.trip.range } ∧
      (∀ f : Nat, s.keyOn = true → s.slots[(6 : SlotId)].usable = true → s.integ.volume = some f → s.integ.armed = false →
        ∃ f' : Nat, x.integ.volume = some f' ∧
          let goal : Int := 16 * (senderVolume s.image.params.tank s.slots[(6 : SlotId)].value : Int)
          let step := (goal - (f : Int)).tdiv 64
          (f' : Int) = (if step ≠ 0 then (f : Int) + step else if (f : Int) < goal then f + 1
            else if goal < (f : Int) then f - 1 else f)) ∧
      (s.keyOn = false ∨ s.slots[(6 : SlotId)].usable = false ∨ s.integ.volume = none ∨ s.integ.armed = true →
        x.integ.volume = s.integ.volume)

/-- A gauge update and the channels in RETURNING and PARKED (R60, R49, R47). A channel in RETURNING has commanded value 0; its
pointer moves toward 0 by the return slew, or by p if that is less; where p is 0 after the move, a first update with p at 0
included, it goes to PARKED and its drive is released, and until then it is held. In PARKED p stays 0 and the drive released,
and filter and target are kept throughout. Nothing but the channels and the update timer changes. -/
def Obligations.ReturningPointersPark : Prop :=
  ∀ (t : Stamp) (s : State), isDue t s.gauges.updateTimer = true →
    ∃ x, exec (.gaugeUpdateExpiry t) s = .next x ∧
      x = State.withTraffic { s with now := t, gauges := x.gauges } x ∧ x.gauges.updateTimer = some (t + 20) ∧
      ∀ i : Fin 6,
        let c := s.image.gauges[i]
        let ch := s.gauges.channels[i]
        (c.enabled = true → ch.state = .returning →
          commanded c ch = 0 ∧ commanded c x.gauges.channels[i] = 0 ∧
          x.gauges.channels[i] = { ch with
            position := ch.position - min ch.position c.returnSlew
            state := if ch.position - min ch.position c.returnSlew = 0 then .parked else .returning } ∧
          (driveHeld x.gauges.channels[i] = false ↔ ch.position ≤ c.returnSlew)) ∧
        (ch.state = .parked → x.gauges.channels[i] = ch ∧ commanded c ch = 0 ∧ driveHeld ch = false) ∧
        (c.enabled = false → x.gauges.channels[i] = ch)

/-- A gauge update of a channel in TRACKING, HOLDING or RESTING (R51 to R55): the source check chooses state and target, the
filter goes by trunc((16 target - f) / 2^d) or by 1, and the pointer goes to the rounded f / 16 by at most the slew limit; the
drive is held, in RESTING at position 0 too. A channel in ZEROING counts 6 down, and at 0 stands at position 0 and goes on by
the key state and the sweep (R56, R57). A sweep moves to full scale and back to 0 at the slew limit (R58). -/
def Obligations.PointersFollowTheirSources : Prop :=
  ∀ (t : Stamp) (s : State), isDue t s.gauges.updateTimer = true →
    ∃ x, exec (.gaugeUpdateExpiry t) s = .next x ∧ ∀ i : Fin 6,
      let c := s.image.gauges[i]
      let ch := s.gauges.channels[i]
      let y := x.gauges.channels[i]
      c.enabled = true →
        (ch.state = .tracking ∨ ch.state = .holding ∨ ch.state = .resting →
          (match gaugeSource (s.stamped t) i with
            | .current v => y.state = .tracking ∧ y.target = gaugeTarget c v
            | .late v => y.state = .holding ∧ y.target = if ch.state = .holding then ch.target else gaugeTarget c v
            | .unusable =>
              if c.holds = true ∧ ch.state ≠ .resting then y.state = .holding ∧ y.target = ch.target
              else y.state = .resting ∧ y.target = 0) ∧
          (let step := ((16 * y.target : Int) - ch.filter).tdiv (2 ^ c.damping)
           (y.filter : Int) = if step ≠ 0 then ch.filter + step else if ch.filter < 16 * y.target then ch.filter + 1
            else if 16 * y.target < ch.filter then ch.filter - 1 else ch.filter) ∧
          (let goal := (2 * y.filter + 16) / 32
           y.position = if ch.position ≤ goal then min goal (ch.position + c.slew)
            else max goal (ch.position - c.slew)) ∧ driveHeld y = true) ∧
        (ch.state = .zeroing → 6 < ch.zeroCount → y = { ch with zeroCount := ch.zeroCount - 6 }) ∧
        (ch.state = .zeroing → ch.zeroCount ≤ 6 →
          y = { ch with
            zeroCount := 0, position := 0, filter := 0
            state := if s.keyOn = false then .parked else if s.image.params.sweep then .sweepUp else .tracking }) ∧
        (ch.state = .sweepUp → ch.position ≤ c.fs →
          y = { ch with position := min c.fs (ch.position + c.slew)
                        state := if c.fs ≤ ch.position + c.slew then .sweepDown else .sweepUp }) ∧
        (ch.state = .sweepDown →
          y = if ch.position ≤ c.slew then { ch with position := 0, filter := 0, state := .tracking }
            else { ch with position := ch.position - c.slew })

/-- One second of the trip timer (R68, R79, R80): the run time of both records grows by 1, staying at 2^32 - 1, the timer starts
again, and 41H and then 42H are handed on with the records as they then stand. The expiry is reported to the standing asks
(R81), whether a record changed or not. -/
def Obligations.TripSecondIsCounted : Prop :=
  ∀ (t : Stamp) (s : State), isDue t s.trip.tripTimer = true →
    let e : State := { s with
      now := t
      trip := { s.trip with
        a := { s.trip.a with secs := min (s.trip.a.secs + 1) 4294967295 }
        b := { s.trip.b with secs := min (s.trip.b.secs + 1) 4294967295 }
        tripTimer := some (t + 1000) } }
    exec (.tripTimerExpiry t) s = .next (State.close s { e with
      line := Line.handOn (publishEntry .trip 0x42 (tripBRangeBytes e))
        (Line.handOn (publishEntry .trip 0x41 (tripABytes e)) e.line)
      handed := { s.handed with trip := true } })

/-- The timers whose expiry only stops or settles something: the quiet timer (R190), the journey window, which closes without a
judgement (R75), the bulb check, which sets the lamps from the active list (R97), the service second, which adds the
weight 2, 4 or 6 to the wear counter while the engine runs (R136), the STATUS timer, which hands a 40H on and starts its
500 ms again (R181), and the spacing timer of a registration, which the close of the event then lets try again (R186). Of the
one registration of a list: one due with the bytes last sent is due no longer, whether its reply could join or not, and one
due with others joins where it can. That it otherwise stays due is the model's choice, log entry 33. -/
def Obligations.PlainTimersRunOut : Prop :=
  (∀ (t : Stamp) (s : State), isDue t s.key.quiet = true →
    exec (.quietTimerExpiry t) s = .next (State.close s { s with now := t, key := { s.key with quiet := none } })) ∧
  (∀ (t : Stamp) (s : State), isDue t s.trip.window = true →
    exec (.journeyWindowExpiry t) s = .next (State.close s { s with now := t, trip := { s.trip with window := none } })) ∧
  (∀ (t : Stamp) (s : State), isDue t s.monitor.bulbTimer = true →
    exec (.bulbCheckExpiry t) s = .next (State.close s { s with
      now := t
      monitor := { s.monitor with
        bulbTimer := none
        lamps := if s.monitor.lampsLive then lampsFrom s.image s.monitor.active else s.monitor.lamps } })) ∧
  (∀ (t : Stamp) (s : State), isDue t s.service.secTimer = true →
    let running := s.slots[(11 : SlotId)].usable = true ∧ s.slots[(11 : SlotId)].value.testBit 0 = true
    let cold := s.slots[(1 : SlotId)].usable = true ∧ (s.slots[(1 : SlotId)].value : Int) - 40 < s.image.params.cold
    let fast := s.slots[(0 : SlotId)].usable = true ∧ s.image.params.highRpm < s.slots[(0 : SlotId)].value
    let w := 2 + (if cold then 2 else 0) + (if fast then 2 else 0)
    ∃ x, exec (.serviceTimerExpiry t) s = .next x ∧
      x.service = { s.service with
        secTimer := some (t + 1000)
        wear := if running then min 4294967295 (s.service.wear + w) else s.service.wear } ∧
      x = State.besides { s with now := t, service := x.service, monitor := x.monitor, chime := x.chime } x ∧
      (serviceState x = serviceState s → x.monitor = s.monitor ∧ x.chime = s.chime)) ∧
  (∀ (t : Stamp) (s : State), isDue t s.line.statusTimer = true →
    exec (.statusTimerExpiry t) s = .next (State.close s { s with
      now := t
      line := Line.handOn (publishEntry .status 0x40 (statusBytes s)) { s.line with statusTimer := some (t + 500) } })) ∧
  (∀ (t : Stamp) (asker : Station) (group index : Byte) (s : State) (l₁ l₂ : List StandingAsk) (r : StandingAsk),
    s.line.standing = l₁ ++ r :: l₂ → r.isFor asker group index = true → isDue t r.spacing = true →
    (∀ a ∈ l₁ ++ l₂, a.isFor asker group index = false) →
    exec (.spacingTimerExpiry t asker group index) s = .next (State.close s { s with
      now := t, line := { s.line with standing := l₁ ++ { r with spacing := none } :: l₂ } })) ∧
  (∀ (t : Stamp) (s : State) (r : StandingAsk), s.line.standing = [r] → r.due = true → isDue t r.spacing = true →
    s.handed = .nothing → (∀ p ∈ s.line.pending, ∀ st v, p.stage ≠ .ready st v) →
    let bytes := (watchedAnswer s r.group r.index).2
    ∃ x, exec (.spacingTimerExpiry t r.asker r.group r.index) s = .next x ∧
      (bytes = r.last →
        x.line.queue = s.line.queue ∧ x.line.standing = [{ r with spacing := none, due := false }]) ∧
      (bytes ≠ r.last → s.line.canReply .standing r.asker r.group = true →
        x.line.queue = (s.line.handOn (replyEntry .standing r.asker r.group r.index .done bytes)).queue ∧
        x.line.standing = [{ r with last := bytes, spacing := some (t + 100), due := false }]) ∧
      (bytes ≠ r.last → s.line.canReply .standing r.asker r.group = false →
        x.line.queue = s.line.queue ∧ x.line.standing = [{ r with spacing := none }]))

/-- The average speed of a trip (R41): no value when S < 60 or D < 10 P; otherwise D 3600 / (P S) in tenths of a unit per hour,
rounded to nearest, halves up, and clamped to 3000. With D = 6,250,000, S = 21,600 and P = 1250 it is 833. -/
def Obligations.AverageSpeedIsRounded : Prop :=
  (∀ (p : Nat) (r : TripRecord), r.secs < 60 ∨ r.dist < 10 * p → averageSpeed p r = none) ∧
  (∀ (p : Nat) (r : TripRecord), 0 < p → 60 ≤ r.secs → 10 * p ≤ r.dist →
    ∃ q : Nat, averageSpeed p r = some (min q 3000) ∧
      2 * (p * r.secs) * q ≤ 2 * (r.dist * 3600) + p * r.secs ∧ 2 * (r.dist * 3600) + p * r.secs < 2 * (p * r.secs) * (q + 1)) ∧
  averageSpeed 1250 { dist := 6250000, fuel := 0, secs := 21600 } = some 833

/-! ## Warnings, chime, display -/

/-- Warnings. DEBOUNCE_EXPIRY and REMIND_EXPIRY (R89, R90, R93, R95): a PENDING entry, or an ACKNOWLEDGED one whose remind time
has run out, becomes ACTIVE with phrase count 0; from PENDING it joins the end of the active list with the present stamp; a
pattern places its chime request. No other entry changes, and no slot, record or counter does. The evaluation of an entry (R86,
R87): outside its key mask the condition is false and the results stay; with loss behaviour HOLD and a source without a usable
value nothing changes; otherwise a test without one is false, and the condition holds where both tests do. A value that meets
both columns of BELOW, its threshold lying above the source's top, makes the test true: the model's reading, log entry 26
(DEDUCED). A condition become true takes an INACTIVE entry to PENDING for its debounce time, or with none to ACTIVE (R89, R90);
one become false takes any entry to INACTIVE, and from the on states withdraws its request and message and takes it off the
active list (R92). For the holder of the chime both the release and the new count are handed to the Line Station (R112, R114),
in the model's order, log entry 41. -/
def Obligations.WarningsBecomeActive : Prop :=
  (∀ (t : Stamp) (e : EntryId) (s : State) (c : Instr) (pending : Bool),
    (pending = true ∧ c = .debounceExpiry t e ∧ s.monitor.entries[e].state = .pending ∧
      isDue t s.monitor.entries[e].debounce = true) ∨
    (pending = false ∧ c = .remindExpiry t e ∧ s.monitor.entries[e].state = .acknowledged ∧
      isDue t s.monitor.entries[e].remind = true) →
    ∃ x, exec c s = .next x ∧
      x = State.besides { s with now := t, monitor := x.monitor, chime := x.chime } x ∧
      x.monitor.entries[e] = { s.monitor.entries[e] with
        state := .active, phrases := 0, debounce := none, remind := none
        stamp := if pending then t else s.monitor.entries[e].stamp } ∧
      (∀ j : EntryId, j ≠ e → x.monitor.entries[j] = s.monitor.entries[j]) ∧
      x.monitor.active = s.monitor.active ++ (if pending then [e] else []) ∧
      x.monitor.bulbTimer = s.monitor.bulbTimer ∧ x.monitor.lampsLive = s.monitor.lampsLive ∧
      (∀ p, s.image.warnings[e].pattern = some p →
        x.chime.requests[e] = some { chimeClass := s.image.warnings[e].chimeClass, pattern := p }) ∧
      (s.image.warnings[e].pattern = none → x.chime.requests = s.chime.requests)) ∧
  (∀ (s : State) (d : WarningDef) (w : Warning),
    let lost (t : Test) : Prop := sourceValue s t.source = none
    (d.allows s.key.key = false → judge s d w = (w.result1, w.result2, false)) ∧
    (d.allows s.key.key = true → d.lossHolds = true → (lost d.first ∨ ∃ t, d.second = some t ∧ lost t) →
      judge s d w = (w.result1, w.result2, w.condition)) ∧
    (d.allows s.key.key = true → (d.lossHolds = true → ¬ lost d.first ∧ ∀ t, d.second = some t → ¬ lost t) →
      let first := match sourceValue s d.first.source with
        | some v => testResult s d.first d.hysteresis w.result1 v
        | none => false
      judge s d w = match d.second with
        | none => (first, w.result2, first)
        | some t =>
          let second := match sourceValue s t.source with
            | some v => testResult s t 0 w.result2 v
            | none => false
          (first, second, first && second))) ∧
  (∀ (s : State) (t : Test) (h : Nat) (before : Bool) (v : Nat),
    (t.kind = .above → testResult s t h before v = if t.arg < v then true
      else if (t.arg ≤ h ∧ v = 0) ∨ (h < t.arg ∧ v < t.arg - h) then false else before) ∧
    (t.kind = .below → testResult s t h before v = if v < t.arg then true
      else if (sourceTop s t.source ≤ t.arg + h ∧ v = sourceTop s t.source) ∨
        (t.arg + h < sourceTop s t.source ∧ t.arg + h < v) then false else before) ∧
    (t.kind = .bitSet → testResult s t h before v = v.testBit t.arg) ∧
    (t.kind = .bitClear → testResult s t h before v = !v.testBit t.arg)) ∧
  (∀ (s : State) (a : Alerts) (e : EntryId),
    let d := s.image.warnings[e]
    let w := a.monitor.entries[e]
    let now := judge s d w
    let judged : Warning := { w with result1 := now.1, result2 := now.2.1, condition := now.2.2 }
    let b := evalEntry s a e
    (d.enabled = false → b = a) ∧
    (d.enabled = true →
      (∀ j : EntryId, j ≠ e → b.monitor.entries[j] = a.monitor.entries[j]) ∧
      (now.2.2 = w.condition ∨ (now.2.2 = true ∧ w.state ≠ .inactive) ∨ (now.2.2 = false ∧ w.state = .inactive) →
        b = { a with monitor := { a.monitor with entries := a.monitor.entries.set e judged } }) ∧
      (now.2.2 = true → w.condition = false → w.state = .inactive → d.debounce ≠ 0 →
        b = { a with monitor := { a.monitor with entries := a.monitor.entries.set e { judged with
          state := .pending, debounce := some (s.now + BitVec.ofNat 32 (100 * d.debounce)) } } }) ∧
      (now.2.2 = true → w.condition = false → w.state = .inactive → d.debounce = 0 →
        b.monitor.entries[e] =
          { judged with state := .active, phrases := 0, debounce := none, remind := none, stamp := s.now } ∧
        b.monitor.active = a.monitor.active ++ [e] ∧
        (d.message ≠ 0 → a.display.queue.length < 8 → hasId b.display.queue d.message = true) ∧
        (∀ p, d.pattern = some p → b.chime.requests[e] = some { chimeClass := d.chimeClass, pattern := p })) ∧
      (now.2.2 = false → w.condition = true → w.state ≠ .inactive →
        b.monitor.entries[e] = { judged with state := .inactive, debounce := none, remind := none } ∧
        (w.state = .pending → b.monitor.active = a.monitor.active ∧ b.chime = a.chime ∧ b.display = a.display) ∧
        (w.state ≠ .pending → b.monitor.active = a.monitor.active.filter (· ≠ e) ∧
          b.chime.requests = a.chime.requests.set e none ∧
          ∀ q ∈ b.display.queue, q.id = d.message → q.id ≠ 0 → Owner.warning e ∉ q.owners) ∧
        (w.state = .active → e ∈ a.monitor.active → a.monitor.active.length ≤ 16 → a.chime.phase = .sounding →
          a.chime.holder = some e → b.chime.holder = none ∧ b.chime.phase = .idle ∧
          b.handed = a.handed ++
            [[BitVec.ofNat 8 (activeCount a.monitor), 0xFF, BitVec.ofNat 8 (serviceState s)],
             [BitVec.ofNat 8 (activeCount b.monitor), 0xFF, BitVec.ofNat 8 (serviceState s)]]))))

/-- The strikes of a phrase (R102, R110). At a strike's start the tone sounds for 150 ms and the next strike of the pattern is
timed from the grant; at its end the output falls silent. With a cut pending neither does anything: the end of the strike is the
cut. -/
def Obligations.StrikesSound : Prop :=
  (∀ (t : Stamp) (s : State), isDue t s.chime.strikeTimer = true →
    exec (.strikeStart t) s = .next (State.close s
      (if s.chime.phase = .sounding ∧ s.chime.cutPending = false then
        { s with
          now := t
          chime := { s.chime with
            nextStrike := s.chime.nextStrike + 1
            strikeTimer := ((strikeTimes s.chime.pattern)[s.chime.nextStrike + 1]?).map fun ms =>
              s.chime.granted + BitVec.ofNat 32 ms
            strikeEnd := some (t + 150), output := .strike } }
      else s.stamped t))) ∧
  (∀ (t : Stamp) (s : State), isDue t s.chime.strikeEnd = true →
    exec (.strikeEnd t) s = .next (State.close s
      (if s.chime.cutPending then s.stamped t
      else { s with now := t, chime := { s.chime with strikeEnd := none, output := .silent } })))

/-- The end of the phrase of a holder (R91, R110, R111): at its completion, at a pending cut, or at a preempt expiry between
strikes or after 150 ms of a tone. The output falls silent, no entry holds the chime, a gap of 200 ms starts, and the phrase of
an ACTIVE warning is counted, up to 15; at its repeat limit the warning is SILENCED and its request withdrawn. A preempt expiry
within a strike, or within 150 ms of a tone, leaves the cut pending. -/
def Obligations.PhrasesEndInAGap : Prop :=
  ∀ (t : Stamp) (e : EntryId) (s : State), s.chime.holder = some e →
    let ends (o : Result) : Prop :=
      ∃ x, o = .next x ∧
        x = State.withTraffic { s with now := t, monitor := x.monitor, chime := x.chime } x ∧
        x.chime.phase = .gap ∧ x.chime.holder = none ∧ x.chime.output = .silent ∧ x.chime.gapTimer = some (t + 200) ∧
        x.chime.preempt = none ∧ x.chime.cutPending = false ∧ x.chime.phraseTimer = none ∧ x.chime.strikeTimer = none ∧
        x.chime.highPtr = s.chime.highPtr ∧ x.chime.lowPtr = s.chime.lowPtr ∧
        (let w := s.monitor.entries[e]
         let limit := s.image.warnings[e].repeatLimit
         let n := min 15 (w.phrases + 1)
         (w.state ≠ .active → x.monitor = s.monitor ∧ x.chime.requests = s.chime.requests) ∧
         (w.state = .active → limit ≠ 0 → limit ≤ n →
           x.monitor = { s.monitor with entries := s.monitor.entries.set e { w with phrases := n, state := .silenced } } ∧
           x.chime.requests = s.chime.requests.set e none) ∧
         (w.state = .active → limit = 0 ∨ n < limit →
           x.monitor = { s.monitor with entries := s.monitor.entries.set e { w with phrases := n } } ∧
           x.chime.requests = s.chime.requests))
    (isDue t s.chime.phraseTimer = true → ends (exec (.phraseCompletion t) s)) ∧
    (isDue t s.chime.cutTimer = true → s.chime.cutPending = true → ends (exec (.preemptCut t) s)) ∧
    (isDue t s.chime.preempt = true →
      (s.chime.pattern = .tone ∧ 150 ≤ (t - s.chime.granted).toNat) ∨
        (s.chime.pattern ≠ .tone ∧ s.chime.strikeEnd = none) → ends (exec (.preemptExpiry t) s)) ∧
    (isDue t s.chime.preempt = true →
      (s.chime.pattern = .tone ∧ (t - s.chime.granted).toNat < 150) ∨
        (s.chime.pattern ≠ .tone ∧ s.chime.strikeEnd ≠ none) →
      exec (.preemptExpiry t) s = .next (State.close s { s with
        now := t
        chime := { s.chime with
          preempt := none, cutPending := true
          cutTimer := if s.chime.pattern = .tone then some (s.chime.granted + 150) else s.chime.strikeEnd } }))

/-- GAP_EXPIRY (R113, R106 to R108): with a request in the set a grant is made, to an entry whose request stands and with that
request's pattern, chosen by the rotation; with none the arbiter goes to IDLE. The rotation serves the first HIGH request
after the HIGH pointer up to 15, all of them where the pointer stands at LOW; failing those the first LOW request in cyclic
order after the LOW pointer; failing those the first HIGH request from 0. Every request in the set is among those
considered, whenever it arrived: the only one standing is granted. The preempt timer (R109) starts at a grant made while
another request stands, and at the arrival of the first other request during the phrase (shown at a warning's becoming
ACTIVE by DEBOUNCE_EXPIRY or REMIND_EXPIRY), a further one leaving it; with time-to-preempt OFF it never starts; and a
withdrawal (`Chime.withdraw`) stops it, with the pending mark, where no other request is left or the holder's own goes. -/
def Obligations.GapExpiryDecides : Prop :=
  (∀ (t : Stamp) (s : State), isDue t s.chime.gapTimer = true →
    let waits (k : ChimeClass) (e : EntryId) : Prop := ∃ r, s.chime.requests[e] = some r ∧ r.chimeClass = k
    let ahead (e : EntryId) : Prop := ∀ h, s.chime.highPtr = some h → h < e
    let turn (e : EntryId) : Nat := (e.val + 15 - s.chime.lowPtr.val) % 16
    ∃ x, exec (.gapExpiry t) s = .next x ∧ x = State.withTraffic { s with now := t, chime := x.chime } x ∧
      x.chime.requests = s.chime.requests ∧ x.chime.gapTimer = none ∧
      ((∀ e : EntryId, s.chime.requests[e] = none) →
        x.chime = { s.chime with phase := .idle, gapTimer := none }) ∧
      (∀ (e : EntryId) (r : ChimeRequest), s.chime.requests[e] = some r → ∃ (g : EntryId) (q : ChimeRequest),
        s.chime.requests[g] = some q ∧ x.chime.phase = .sounding ∧ x.chime.holder = some g ∧ x.chime.pattern = q.pattern ∧
        x.chime.granted = t ∧ x.chime.phraseTimer = some (t + BitVec.ofNat 32 (phraseLength q.pattern)) ∧
        ((∀ j : EntryId, j ≠ g → s.chime.requests[j] = none) → x.chime.preempt = none) ∧
        (∀ j : EntryId, j ≠ g → s.chime.requests[j] ≠ none →
          x.chime.preempt = s.image.params.preempt.map fun ms => t + BitVec.ofNat 32 ms) ∧
        (q.chimeClass = .high → x.chime.highPtr = some g ∧ x.chime.lowPtr = s.chime.lowPtr) ∧
        (q.chimeClass = .low → x.chime.highPtr = none ∧ x.chime.lowPtr = g) ∧
        ((∃ j, waits .high j ∧ ahead j) → q.chimeClass = .high ∧ ahead g ∧ ∀ j, waits .high j → ahead j → g ≤ j) ∧
        (¬ (∃ j, waits .high j ∧ ahead j) → (∃ j, waits .low j) →
          q.chimeClass = .low ∧ ∀ j, waits .low j → turn g ≤ turn j) ∧
        (¬ (∃ j, waits .high j ∧ ahead j) → ¬ (∃ j, waits .low j) →
          q.chimeClass = .high ∧ ∀ j, waits .high j → g ≤ j) ∧
        ((∀ j : EntryId, j ≠ e → s.chime.requests[j] = none) → g = e))) ∧
  (∀ (t : Stamp) (e : EntryId) (s : State) (c : Instr) (pattern : Pattern),
    (c = .debounceExpiry t e ∧ s.monitor.entries[e].state = .pending ∧ isDue t s.monitor.entries[e].debounce = true) ∨
      (c = .remindExpiry t e ∧ s.monitor.entries[e].state = .acknowledged ∧ isDue t s.monitor.entries[e].remind = true) →
    s.image.warnings[e].pattern = some pattern → s.chime.phase = .sounding → s.chime.cutPending = false →
    let waits := ∃ j : EntryId, s.chime.requests[j] ≠ none ∧ s.chime.holder ≠ some j
    ∃ x, exec c s = .next x ∧ x.chime.holder = s.chime.holder ∧ x.chime.phase = .sounding ∧
      (waits ∨ s.chime.holder = some e → x.chime.preempt = s.chime.preempt) ∧
      (¬ waits → s.chime.holder ≠ some e →
        x.chime.preempt = s.image.params.preempt.map fun ms => t + BitVec.ofNat 32 ms)) ∧
  (∀ (c : Chime) (e : EntryId), c.phase = .sounding →
    let stopped : Chime := { c with
      requests := c.requests.set e none, preempt := none, cutPending := false, cutTimer := none }
    let waits := ∃ j : EntryId, j ≠ e ∧ c.requests[j] ≠ none ∧ c.holder ≠ some j
    (c.holder ≠ some e → ¬ waits → c.withdraw e = stopped) ∧
    (c.holder ≠ some e → waits → c.withdraw e = { c with requests := c.requests.set e none }) ∧
    (c.holder = some e → c.withdraw e = { stopped with
      phase := .idle, holder := none, output := .silent, strikeTimer := none, strikeEnd := none, phraseTimer := none }))

/-- The timers of the message line. Minimum (R123): a pending switch is made unless the shown message is eligible again.
Rotation (R124): the next eligible message is shown; a message that begins to be shown starts the minimum timer, and the
rotation timer where two or more are eligible. Duration (R125): the TIMED entry leaves the queue. Refresh (R128): in PAGE mode
the page is drawn again and the 250 ms start again. -/
def Obligations.DisplayTimersMoveTheLine : Prop :=
  (∀ (t : Stamp) (s : State), isDue t s.display.minimum = true →
    ∃ x, exec (.minimumExpiry t) s = .next x ∧ x = State.besides (s.stamped t) x ∧ x.display.mode = s.display.mode ∧
      (∀ id, s.display.shown = some id → (s.display.mode = .page → s.display.line ≠ []) →
        (s.display.switchPending = false ∨ hasId (eligible s.display.queue) id = true →
          x.display = { s.display with minimum := none, switchPending := false }) ∧
        (∀ m rest, s.display.switchPending = true → hasId (eligible s.display.queue) id = false →
          eligible s.display.queue = m :: rest →
          x.display.shown = some m.id ∧ x.display.minimum = some (t + 2000) ∧ x.display.line = messageLine m.id ∧
          x.display.rotation = (if rest = [] then none else some (t + 3000)) ∧ x.display.switchPending = false))) ∧
  (∀ (t : Stamp) (s : State) (l₁ l₂ : List Message) (m : Message), isDue t s.display.rotation = true →
    eligible s.display.queue = l₁ ++ m :: l₂ → s.display.shown = some m.id → (∀ a ∈ l₁, a.id ≠ m.id) →
    ∃ x n, exec (.rotationExpiry t) s = .next x ∧ x = State.besides (s.stamped t) x ∧
      (l₂ ++ l₁ ++ [m]).head? = some n ∧ x.display.mode = s.display.mode ∧
      x.display.shown = some n.id ∧ x.display.minimum = some (t + 2000) ∧
      x.display.rotation = (if l₁ = [] ∧ l₂ = [] then none else some (t + 3000)) ∧ x.display.line = messageLine n.id) ∧
  (∀ (t : Stamp) (id : Nat) (s : State),
    (∃ m ∈ s.display.queue, m.id = id ∧ m.duration ≠ none ∧ isDue t m.timer = true) →
    ∃ x, exec (.durationExpiry t id) s = .next x ∧ x = State.besides (s.stamped t) x ∧
      x.display.queue.map (·.id) = (s.display.queue.map (·.id)).filter (· ≠ id)) ∧
  (∀ (t : Stamp) (s : State), isDue t s.display.refresh = true →
    exec (.refreshTimerExpiry t) s = .next (State.close s { s with
      now := t
      display := if s.display.mode = .page then { s.display with line := pageLine (s.stamped t), refresh := some (t + 250) }
        else { s.display with refresh := none } }))

/-! ## The hold and the store -/

/-- HOLD_TIMER_EXPIRY in phase HELD (R143, R148, R167): the hold record is as after power-on and one HOLD_EXPIRED is reported; the
configuration programs and erases queued and not started leave the queue, each pending answer that waited for one being
ABORTED; a pending reset goes ABORTED exactly where no record carrying it has been built. The operation in progress and a
suspended erase go on. -/
def Obligations.HoldExpires : Prop :=
  ∀ (t : Stamp) (s : State), isDue t s.hold.timer = true → s.hold.phase = .held →
    ∃ x, exec (.holdTimerExpiry t) s = .next x ∧
      x.hold = { phase := .none, station := 0, timer := none, latch := false } ∧
      x.faults = s.faults.after .holdExpired ∧
      x.slots = s.slots ∧ x.integ = s.integ ∧ x.gauges = s.gauges ∧ x.trip = s.trip ∧ x.key = s.key ∧ HoldEnded s x

/-- A word of a ring record completes (R150, R155, R157, R161 to R163), the record being in its slot. A sound word: the next
word of the record begins, its 4 ms started, and with the last word the record is complete, the ring's fail count 0 and its
outcome reported. A word that reads back otherwise gives the record up: one NV_WEAR, the fail count one more; below three the
same request stands at the front of the queue or is begun anew, at three the ring is FAILED. A record to be abandoned is given
up after a sound word too, not asked for again, its fail count kept, and a reset that it carried fails with its counters
unchanged (R148, R163). In the array only the word changes, but for a suspended erase of a ring that becomes FAILED, whose block
is in no defined state. That a retry stands first, beside any other entry of its kind, what an abandoned record's slot reads, and
that a retry is urgent as its request was, are the model's, log entries 27, 75, 54 and 73. -/
def Obligations.RecordWordsAreProgrammed : Prop :=
  ∀ (t : Stamp) (stuck : Word) (s : State) (r : Ring) (q : StoreRequest) (words : List Word) (pos tenths : Nat)
    (abandon : Bool),
    isDue t s.store.opTimer = true → s.store.op = .record r q words pos abandon tenths → StoreLaw s →
    slotAddress r (s.store.ring r).current (s.store.ring r).next pos < 1024 →
    let address := slotAddress r (s.store.ring r).current (s.store.ring r).next pos
    let value := nthWord words pos
    let result := readWord s.store.array address &&& (value ||| stuck)
    let o := exec (.wordProgramCompletion t stuck) s
    let again : StoreRequest := match q with
      | .commit urgent _ forRestart => .commit urgent true forRestart
      | .save keyOff reset _ carried forRestart => .save keyOff reset true carried forRestart
      | q => q
    let carries := ∃ keyOff reset a forRestart, q = .save keyOff reset a true forRestart
    (∀ x, o = .next x → arrayWf x.store.array = true) ∧
    (result = value → abandon = false → pos + 1 < words.length →
      o = .next (State.close s { s with
        now := t
        store := { s.store with
          array := writeWord s.store.array address value, conditions := s.store.conditions.set (s.store.ring r).current .used
          op := .record r q words (pos + 1) false tenths, opTimer := some (t + 4) } })) ∧
    (result = value → abandon = false → pos + 1 = words.length →
      ∃ x, o = .next x ∧ (x.store.ring r).fails = 0 ∧ (∀ a, readWord x.store.array a =
        if a = address then value else readWord s.store.array a) ∧ x.faults = s.faults ∧
        (carries → ∀ p, s.service.reset = some p →
          x.service.reset = none ∧
          x.service.dist = (if p.selector = 0 ∨ p.selector = 3 then 0 else s.service.dist) ∧
          x.service.days = (if p.selector = 1 ∨ p.selector = 3 then 0 else s.service.days) ∧
          x.service.wear = (if p.selector = 2 ∨ p.selector = 3 then 0 else s.service.wear))) ∧
    (result = value → abandon = true →
      ∃ x, o = .next x ∧ x.store.ring r = { x.store.ring r with
          failed := (s.store.ring r).failed, fails := (s.store.ring r).fails } ∧
        (s.key.restart = none → ∀ q' ∈ x.store.queue, q' ∈ s.store.queue ∨ q'.isErase = true) ∧
        (∀ a, readWord x.store.array a = if a = address then value else readWord s.store.array a) ∧
        x.faults = s.faults ∧ x.service.dist = s.service.dist ∧ x.service.days = s.service.days ∧
        x.service.wear = s.service.wear ∧ (carries → x.service.reset = none)) ∧
    (result ≠ value →
      ∃ x, o = .next x ∧
        x.faults.latched.getLsbD 3 = true ∧ faultCount x.faults .nvWear = min 255 (faultCount s.faults .nvWear + 1) ∧
        ((s.store.ring r).fails < 2 →
          (x.store.ring r).fails = (s.store.ring r).fails + 1 ∧ (x.store.ring r).failed = (s.store.ring r).failed ∧
          (∀ a, readWord x.store.array a = if a = address then result else readWord s.store.array a) ∧
          (abandon = false → (∃ rest, x.store.queue = again :: rest) ∨
            ∃ q' w, x.store.op = .record r q' w 0 false s.integ.tenths ∧ q'.isRetry = true)) ∧
        (2 ≤ (s.store.ring r).fails → (x.store.ring r).failed = true ∧
          (∀ a, (∀ job, s.store.suspended = some job → a / 64 ≠ job.block.val) →
            readWord x.store.array a = if a = address then result else readWord s.store.array a) ∧
          (∀ q' ∈ x.store.queue, q'.belongsTo r = false) ∧ (carries → x.service.reset = none)))

/-- A configuration word program or a block erase completes (R150, R151, R156, R165, R166). The word is answered DONE, or FAILED
with NV_WEAR where it reads back otherwise, and the latch is cleared. An erase attempt that leaves the block blank makes a ring
block BLANK, or answers the configuration erase DONE with the latch cleared; one that does not starts a further attempt, and the
third makes a ring block BAD, or answers FAILED, with NV_WEAR. With fewer than two blocks of the ring not BAD after that, the
ring becomes FAILED with one NV_FAILED and none of its requests stays queued (R157); otherwise it does not, and where its
current block is the one made BAD, the next of its cycle that is not BAD is current, from slot 0. -/
def Obligations.ConfigWritesComplete : Prop :=
  (∀ (t : Stamp) (stuck : Word) (s : State) (r : Request) (value : Word),
    isDue t s.store.opTimer = true → s.store.op = .word r.asker r.index value →
    (⟨r.asker, 0x64, r.index, .waiting⟩ : PendingAnswer) ∈ s.line.pending →
    let result := readWord s.store.array r.index.toNat &&& (value ||| stuck)
    ∃ x, exec (.wordProgramCompletion t stuck) s = .next x ∧
      x.store.array = writeWord s.store.array r.index.toNat result ∧ x.hold = { s.hold with latch := false } ∧
      (result = value → Answered x.line r 0x64 .done [] ∧ x.faults = s.faults) ∧
      (result ≠ value → Answered x.line r 0x64 .failed [] ∧ x.faults = s.faults.after .nvWear)) ∧
  (∀ (t : Stamp) (residue : List (Fin 64 × Word)) (s : State) (job : EraseJob) (since : Stamp),
    isDue t s.store.opTimer = true → s.store.op = .erasing job since →
    let array := eraseBlock s.store.array job.block residue
    let o := exec (.eraseAttemptEnd t residue) s
    (blockIsBlank array job.block = false → job.attempt < 3 →
      o = .next (State.close s { s with
        now := t
        store := { s.store with
          array, op := .erasing { job with attempt := job.attempt + 1, spent := 0 } t, opTimer := some (t + 16) } })) ∧
    (∀ (r : Request) (b : BlockId), job.owner = .config r.asker → job.block = b → r.index = BitVec.ofNat 8 b.val →
      (⟨r.asker, 0x63, r.index, .waiting⟩ : PendingAnswer) ∈ s.line.pending →
      (blockIsBlank array b = true →
        ∃ x, o = .next x ∧ Answered x.line r 0x63 .done [] ∧ x.hold = { s.hold with latch := false } ∧
          x.store.array = array ∧ x.faults = s.faults) ∧
      (blockIsBlank array b = false → 3 ≤ job.attempt →
        ∃ x, o = .next x ∧ Answered x.line r 0x63 .failed [] ∧ x.hold = { s.hold with latch := false } ∧
          x.store.array = array ∧ x.faults = s.faults.after .nvWear)) ∧
    (∀ ring : Ring, job.owner = .ring ring → blockIsBlank array job.block = true →
      ∃ x, o = .next x ∧ x.store.array = array ∧ x.store.conditions = s.store.conditions.set job.block .blank ∧
        x.faults = s.faults) ∧
    (∀ ring : Ring, job.owner = .ring ring → blockIsBlank array job.block = false → 3 ≤ job.attempt →
      let conditions := s.store.conditions.set job.block .bad
      let good (b : BlockId) : Bool := decide (conditions[b] ≠ .bad)
      let blocks := ringBlocks ring
      ∃ x, o = .next x ∧ x.store.conditions = conditions ∧ x.faults.latched.getLsbD 3 = true ∧
        faultCount x.faults .nvWear = min 255 (faultCount s.faults .nvWear + 1) ∧
        (blocks.countP good < 2 →
          (x.store.ring ring).failed = true ∧ x.faults = (s.faults.after .nvWear).after .nvFailed ∧
          (∀ q ∈ x.store.queue, q.belongsTo ring = false)) ∧
        (2 ≤ blocks.countP good →
          x.faults = s.faults.after .nvWear ∧
          ((s.store.ring ring).current ≠ job.block → x.store.ring ring = s.store.ring ring) ∧
          ((s.store.ring ring).current = job.block → job.block ∈ blocks →
            ∃ b, (((blocks ++ blocks).dropWhile (· ≠ job.block)).drop 1).find? good = some b ∧
              x.store.ring ring = { s.store.ring ring with current := b, next := 0 }))) ∧
    (residue = [] → ∀ a, readWord array a = if a / 64 = job.block.val then 0xFFFF else readWord s.store.array a))

/-- READ_COMPLETION and READ_TIMEOUT (R142, R168). A read that completes is answered DONE with its word, the more significant byte
first; as a claim it makes its asker the holder with 30 s and the latch clear; a claim dropped meanwhile is answered LOCKED.
A read not started within 1 s leaves the queue and is answered FAILED, a claim returning the phase to NONE. -/
def Obligations.ReadsAreAnswered : Prop :=
  (∀ (t : Stamp) (s : State) (r : Request) (claim : Claim),
    isDue t s.store.opTimer = true → s.store.op = .reading r.asker r.index claim →
    (⟨r.asker, 0x52, r.index, .waiting⟩ : PendingAnswer) ∈ s.line.pending →
    let w := readWord s.store.array r.index.toNat
    let bytes : List Byte := [BitVec.ofNat 8 (w.toNat / 256), BitVec.ofNat 8 w.toNat, 0, 0]
    ∃ x, exec (.readCompletion t) s = .next x ∧ x.store.array = s.store.array ∧ x.faults = s.faults ∧
      (claim ≠ .dropped → Answered x.line r 0x52 .done bytes) ∧ (claim = .dropped → Answered x.line r 0x52 .locked []) ∧
      (claim ≠ .claiming → x.hold = { s.hold with latch := x.hold.latch }) ∧
      (claim = .claiming →
        x.hold = { phase := .held, station := r.asker, timer := some (t + 30000), latch := false })) ∧
  (∀ (t : Stamp) (s : State) (r : Request) (claim : Claim) (limit : Timer) (l₁ l₂ : List StoreRequest),
    s.store.queue = l₁ ++ .read r.asker r.index claim limit :: l₂ → isDue t limit = true →
    (∀ q ∈ l₁, ∀ c k, q ≠ .read r.asker r.index c k) →
    (⟨r.asker, 0x52, r.index, .waiting⟩ : PendingAnswer) ∈ s.line.pending →
    ∃ x, exec (.readTimeout t r.asker r.index) s = .next x ∧ x.store = { s.store with queue := l₁ ++ l₂ } ∧
      (claim ≠ .dropped → Answered x.line r 0x52 .failed []) ∧ (claim = .dropped → Answered x.line r 0x52 .locked []) ∧
      x.hold = (if claim = .claiming then { phase := .none, station := 0, timer := none, latch := false } else s.hold))

/-- An expiry or completion whose timer is stopped or not yet due "does not happen" (R16, R82): only the time base moves. That
such a command can come at all is the model's own convention, log entry 10. -/
def Obligations.EarlyExpiriesMoveOnlyTheTime : Prop :=
  ∀ (c : Instr) (s : State) (timer : Timer), isDue c.stamp timer = false →
    ((∃ t, c = .quietTimerExpiry t ∧ timer = s.key.quiet) ∨ (∃ t i, c = .slotLateExpiry t i ∧ timer = s.slots[i].late) ∨
      (∃ t i, c = .slotLostExpiry t i ∧ timer = s.slots[i].lost) ∨
      (∃ t, c = .fuelTimerExpiry t ∧ timer = s.integ.fuelTimer) ∨
      (∃ t, c = .gaugeUpdateExpiry t ∧ timer = s.gauges.updateTimer) ∨
      (∃ t, c = .tripTimerExpiry t ∧ timer = s.trip.tripTimer) ∨ (∃ t, c = .journeyWindowExpiry t ∧ timer = s.trip.window) ∨
      (∃ t e, c = .debounceExpiry t e ∧ timer = s.monitor.entries[e].debounce) ∨
      (∃ t e, c = .remindExpiry t e ∧ timer = s.monitor.entries[e].remind) ∨
      (∃ t, c = .bulbCheckExpiry t ∧ timer = s.monitor.bulbTimer) ∨ (∃ t, c = .strikeStart t ∧ timer = s.chime.strikeTimer) ∨
      (∃ t, c = .preemptExpiry t ∧ timer = s.chime.preempt) ∨ (∃ t, c = .preemptCut t ∧ timer = s.chime.cutTimer) ∨
      (∃ t, c = .phraseCompletion t ∧ timer = s.chime.phraseTimer) ∨ (∃ t, c = .gapExpiry t ∧ timer = s.chime.gapTimer) ∨
      (∃ t, c = .strikeEnd t ∧ timer = s.chime.strikeEnd) ∨ (∃ t, c = .minimumExpiry t ∧ timer = s.display.minimum) ∨
      (∃ t, c = .rotationExpiry t ∧ timer = s.display.rotation) ∨
      (∃ t, c = .refreshTimerExpiry t ∧ timer = s.display.refresh) ∨
      (∃ t, c = .serviceTimerExpiry t ∧ timer = s.service.secTimer) ∨ (∃ t, c = .holdTimerExpiry t ∧ timer = s.hold.timer) ∨
      (∃ t, c = .statusTimerExpiry t ∧ timer = s.line.statusTimer) ∨
      (∃ t k, c = .wordProgramCompletion t k ∧ timer = s.store.opTimer) ∨
      (∃ t k, c = .eraseAttemptEnd t k ∧ timer = s.store.opTimer) ∨
      (∃ t, c = .readCompletion t ∧ timer = s.store.opTimer)) →
    exec c s = .next (State.close s (s.stamped c.stamp))

/-! ## Encodings -/

/-- Telegrams and records are read as they are written. A telegram of at most six data bytes, framed by section 10.2 with its
check byte, is read back whole (R173), and so is what the part sends for a queue entry: the part's number as origin, the urgency
of the source, the hold flag 0, the repeat flag set for a standing reply alone (R176, R183, R186, R188); at station 12 its first
byte is 2CH, 4CH, 8CH, ACH or CCH by source (R176). An odometer record of any T up to the limit is valid and holds T (R152); a
save record built from a live T up to the limit is valid and carries it (R153, R162). -/
def Obligations.FramesAndRecordsReadBack : Prop :=
  (∀ m : Telegram, m.data.length ≤ 6 → readFrame m.frame = some m) ∧
  (∀ (station : Station) (l : Line) (e : TxEntry), l.flying = some e → e.data.length ≤ 6 →
    readFrame (l.wire station) = some
      { urgency := match e.source with | .fault => 1 | .reply => 2 | .status => 4 | .trip => 5 | .standing => 6
        origin := station, group := e.group, kind := match e.kind with | .publish => .publish | .reply => .reply
        hold := false, again := decide (e.source = .standing), data := e.data } ∧
    (station = 12 → (l.wire station).head? = some (match e.source with
      | .fault => 0x2C | .reply => 0x4C | .status => 0x8C | .trip => 0xAC | .standing => 0xCC))) ∧
  (∀ v : Nat, v ≤ 9999999 → odoValue (odoRecord v) = some v) ∧
  (∀ s : State, s.integ.tenths ≤ 9999999 →
    (saveRecord s).length = 32 ∧ saveValid (saveRecord s) = true ∧ twoWords (saveRecord s) 1 = s.integ.tenths)

/-! ## Laws that every step keeps -/

/-- Law of R117: every step keeps the message queue at no more than eight entries with distinct ids, in order of priority. -/
def Obligations.StepKeepsTheMessageQueue : Prop :=
  ∀ s x : State, DisplayLaw s → step s = .next x → DisplayLaw x

/-- Law of R141: every step keeps the latch clear and the hold timer stopped whenever no hold exists. -/
def Obligations.StepKeepsTheHold : Prop :=
  ∀ s x : State, HoldLaw s → step s = .next x → HoldLaw x

/-- Law of R176: every step keeps the transmit queue within eight entries, no two of the same kind, group and target, every source
within its cap, at most one attempt in flight, both answer lists within four, and no change of STATUS waiting to be taken
(the model's own list, log entry 41). -/
def Obligations.StepKeepsTheLineLists : Prop :=
  ∀ s x : State, LineLaw s → step s = .next x → LineLaw x

/-- Law of R27 and R133 to R136: every step keeps the odometer within 9,999,999 tenths, the remainder below P, and the three
service counters within their widths. -/
def Obligations.StepKeepsTheOdometer : Prop :=
  ∀ s x : State, OdometerLaw s → step s = .next x → OdometerLaw x

/-- Law of R52: every step keeps positions, targets and filters of the enabled channels within their scales, and a disabled
channel PARKED at 0 (R47). -/
def Obligations.StepKeepsThePointers : Prop :=
  ∀ s x : State, GaugeLaw s → step s = .next x → GaugeLaw x

/-- Every step keeps the array in its canonical form, the rings' next slots inside their blocks, and the record in progress one
that its ring takes, at a word inside its slot (section 9.1, R154, R161, R162). -/
def Obligations.StepKeepsTheStore : Prop :=
  ∀ s x : State, StoreLaw s → step s = .next x → StoreLaw x

/-- The state after reset meets every law that steps keep. -/
def Obligations.ResetMeetsTheLaws : Prop :=
  DisplayLaw State.reset ∧ HoldLaw State.reset ∧ LineLaw State.reset ∧ OdometerLaw State.reset ∧ GaugeLaw State.reset ∧
  StoreLaw State.reset
end

