-- ==== Sys2Proof/Laws/State.lean ====
section
/-! SUPPORT. What each update of the state leaves and sets, field by field, each true by `rfl`. -/

namespace Sys2Proof.Machine

variable (s : State)

/-! ### `State.onLine` -/
@[simp] theorem State.onLine_now (f : Line → Line) : (s.onLine f).now = s.now := rfl
@[simp] theorem State.onLine_image (f : Line → Line) : (s.onLine f).image = s.image := rfl
@[simp] theorem State.onLine_slots (f : Line → Line) : (s.onLine f).slots = s.slots := rfl
@[simp] theorem State.onLine_integ (f : Line → Line) : (s.onLine f).integ = s.integ := rfl
@[simp] theorem State.onLine_gauges (f : Line → Line) : (s.onLine f).gauges = s.gauges := rfl
@[simp] theorem State.onLine_trip (f : Line → Line) : (s.onLine f).trip = s.trip := rfl
@[simp] theorem State.onLine_monitor (f : Line → Line) : (s.onLine f).monitor = s.monitor := rfl
@[simp] theorem State.onLine_faults (f : Line → Line) : (s.onLine f).faults = s.faults := rfl
@[simp] theorem State.onLine_chime (f : Line → Line) : (s.onLine f).chime = s.chime := rfl
@[simp] theorem State.onLine_display (f : Line → Line) : (s.onLine f).display = s.display := rfl
@[simp] theorem State.onLine_service (f : Line → Line) : (s.onLine f).service = s.service := rfl
@[simp] theorem State.onLine_hold (f : Line → Line) : (s.onLine f).hold = s.hold := rfl
@[simp] theorem State.onLine_store (f : Line → Line) : (s.onLine f).store = s.store := rfl
@[simp] theorem State.onLine_line (f : Line → Line) : (s.onLine f).line = f s.line := rfl
@[simp] theorem State.onLine_key (f : Line → Line) : (s.onLine f).key = s.key := rfl
@[simp] theorem State.onLine_freeIndex (f : Line → Line) : (s.onLine f).freeIndex = s.freeIndex := rfl
@[simp] theorem State.onLine_handed (f : Line → Line) : (s.onLine f).handed = s.handed := rfl
@[simp] theorem State.onLine_pending (f : Line → Line) : (s.onLine f).pending = s.pending := rfl

/-! ### `State.withAlerts` -/
@[simp] theorem State.withAlerts_now (a : Alerts) : (s.withAlerts a).now = s.now := rfl
@[simp] theorem State.withAlerts_image (a : Alerts) : (s.withAlerts a).image = s.image := rfl
@[simp] theorem State.withAlerts_slots (a : Alerts) : (s.withAlerts a).slots = s.slots := rfl
@[simp] theorem State.withAlerts_integ (a : Alerts) : (s.withAlerts a).integ = s.integ := rfl
@[simp] theorem State.withAlerts_gauges (a : Alerts) : (s.withAlerts a).gauges = s.gauges := rfl
@[simp] theorem State.withAlerts_trip (a : Alerts) : (s.withAlerts a).trip = s.trip := rfl
@[simp] theorem State.withAlerts_monitor (a : Alerts) : (s.withAlerts a).monitor = a.monitor := rfl
@[simp] theorem State.withAlerts_faults (a : Alerts) : (s.withAlerts a).faults = s.faults := rfl
@[simp] theorem State.withAlerts_chime (a : Alerts) : (s.withAlerts a).chime = a.chime := rfl
@[simp] theorem State.withAlerts_display (a : Alerts) : (s.withAlerts a).display = a.display := rfl
@[simp] theorem State.withAlerts_service (a : Alerts) : (s.withAlerts a).service = s.service := rfl
@[simp] theorem State.withAlerts_hold (a : Alerts) : (s.withAlerts a).hold = s.hold := rfl
@[simp] theorem State.withAlerts_store (a : Alerts) : (s.withAlerts a).store = s.store := rfl
@[simp] theorem State.withAlerts_line (a : Alerts) : (s.withAlerts a).line = s.line := rfl
@[simp] theorem State.withAlerts_key (a : Alerts) : (s.withAlerts a).key = s.key := rfl
@[simp] theorem State.withAlerts_freeIndex (a : Alerts) : (s.withAlerts a).freeIndex = s.freeIndex := rfl
@[simp] theorem State.withAlerts_handed (a : Alerts) : (s.withAlerts a).handed = { s.handed with status := a.handed } := rfl
@[simp] theorem State.withAlerts_pending (a : Alerts) : (s.withAlerts a).pending = s.pending := rfl

/-! ### `State.onAlerts` -/
@[simp] theorem State.onAlerts_now (f : Alerts → Alerts) : (s.onAlerts f).now = s.now := rfl
@[simp] theorem State.onAlerts_image (f : Alerts → Alerts) : (s.onAlerts f).image = s.image := rfl
@[simp] theorem State.onAlerts_slots (f : Alerts → Alerts) : (s.onAlerts f).slots = s.slots := rfl
@[simp] theorem State.onAlerts_integ (f : Alerts → Alerts) : (s.onAlerts f).integ = s.integ := rfl
@[simp] theorem State.onAlerts_gauges (f : Alerts → Alerts) : (s.onAlerts f).gauges = s.gauges := rfl
@[simp] theorem State.onAlerts_trip (f : Alerts → Alerts) : (s.onAlerts f).trip = s.trip := rfl
@[simp] theorem State.onAlerts_faults (f : Alerts → Alerts) : (s.onAlerts f).faults = s.faults := rfl
@[simp] theorem State.onAlerts_service (f : Alerts → Alerts) : (s.onAlerts f).service = s.service := rfl
@[simp] theorem State.onAlerts_hold (f : Alerts → Alerts) : (s.onAlerts f).hold = s.hold := rfl
@[simp] theorem State.onAlerts_store (f : Alerts → Alerts) : (s.onAlerts f).store = s.store := rfl
@[simp] theorem State.onAlerts_line (f : Alerts → Alerts) : (s.onAlerts f).line = s.line := rfl
@[simp] theorem State.onAlerts_key (f : Alerts → Alerts) : (s.onAlerts f).key = s.key := rfl
@[simp] theorem State.onAlerts_freeIndex (f : Alerts → Alerts) : (s.onAlerts f).freeIndex = s.freeIndex := rfl
@[simp] theorem State.onAlerts_pending (f : Alerts → Alerts) : (s.onAlerts f).pending = s.pending := rfl

/-! ### `State.onChime` -/
@[simp] theorem State.onChime_now (f : Chime → Chime) : (s.onChime f).now = s.now := rfl
@[simp] theorem State.onChime_image (f : Chime → Chime) : (s.onChime f).image = s.image := rfl
@[simp] theorem State.onChime_slots (f : Chime → Chime) : (s.onChime f).slots = s.slots := rfl
@[simp] theorem State.onChime_integ (f : Chime → Chime) : (s.onChime f).integ = s.integ := rfl
@[simp] theorem State.onChime_gauges (f : Chime → Chime) : (s.onChime f).gauges = s.gauges := rfl
@[simp] theorem State.onChime_trip (f : Chime → Chime) : (s.onChime f).trip = s.trip := rfl
@[simp] theorem State.onChime_monitor (f : Chime → Chime) : (s.onChime f).monitor = s.monitor := rfl
@[simp] theorem State.onChime_faults (f : Chime → Chime) : (s.onChime f).faults = s.faults := rfl
@[simp] theorem State.onChime_chime (f : Chime → Chime) : (s.onChime f).chime = f s.chime := rfl
@[simp] theorem State.onChime_display (f : Chime → Chime) : (s.onChime f).display = s.display := rfl
@[simp] theorem State.onChime_service (f : Chime → Chime) : (s.onChime f).service = s.service := rfl
@[simp] theorem State.onChime_hold (f : Chime → Chime) : (s.onChime f).hold = s.hold := rfl
@[simp] theorem State.onChime_store (f : Chime → Chime) : (s.onChime f).store = s.store := rfl
@[simp] theorem State.onChime_line (f : Chime → Chime) : (s.onChime f).line = s.line := rfl
@[simp] theorem State.onChime_key (f : Chime → Chime) : (s.onChime f).key = s.key := rfl
@[simp] theorem State.onChime_freeIndex (f : Chime → Chime) : (s.onChime f).freeIndex = s.freeIndex := rfl
@[simp] theorem State.onChime_handed (f : Chime → Chime) : (s.onChime f).handed = s.handed := rfl
@[simp] theorem State.onChime_pending (f : Chime → Chime) : (s.onChime f).pending = s.pending := rfl

/-! ### `State.onDisplay` -/
@[simp] theorem State.onDisplay_now (f : Display → Display) : (s.onDisplay f).now = s.now := rfl
@[simp] theorem State.onDisplay_image (f : Display → Display) : (s.onDisplay f).image = s.image := rfl
@[simp] theorem State.onDisplay_slots (f : Display → Display) : (s.onDisplay f).slots = s.slots := rfl
@[simp] theorem State.onDisplay_integ (f : Display → Display) : (s.onDisplay f).integ = s.integ := rfl
@[simp] theorem State.onDisplay_gauges (f : Display → Display) : (s.onDisplay f).gauges = s.gauges := rfl
@[simp] theorem State.onDisplay_trip (f : Display → Display) : (s.onDisplay f).trip = s.trip := rfl
@[simp] theorem State.onDisplay_monitor (f : Display → Display) : (s.onDisplay f).monitor = s.monitor := rfl
@[simp] theorem State.onDisplay_faults (f : Display → Display) : (s.onDisplay f).faults = s.faults := rfl
@[simp] theorem State.onDisplay_chime (f : Display → Display) : (s.onDisplay f).chime = s.chime := rfl
@[simp] theorem State.onDisplay_display (f : Display → Display) : (s.onDisplay f).display = f s.display := rfl
@[simp] theorem State.onDisplay_service (f : Display → Display) : (s.onDisplay f).service = s.service := rfl
@[simp] theorem State.onDisplay_hold (f : Display → Display) : (s.onDisplay f).hold = s.hold := rfl
@[simp] theorem State.onDisplay_store (f : Display → Display) : (s.onDisplay f).store = s.store := rfl
@[simp] theorem State.onDisplay_line (f : Display → Display) : (s.onDisplay f).line = s.line := rfl
@[simp] theorem State.onDisplay_key (f : Display → Display) : (s.onDisplay f).key = s.key := rfl
@[simp] theorem State.onDisplay_freeIndex (f : Display → Display) : (s.onDisplay f).freeIndex = s.freeIndex := rfl
@[simp] theorem State.onDisplay_handed (f : Display → Display) : (s.onDisplay f).handed = s.handed := rfl
@[simp] theorem State.onDisplay_pending (f : Display → Display) : (s.onDisplay f).pending = s.pending := rfl

/-! ### `State.settleDisplay` -/
@[simp] theorem State.settleDisplay_now : (s.settleDisplay).now = s.now := rfl
@[simp] theorem State.settleDisplay_image : (s.settleDisplay).image = s.image := rfl
@[simp] theorem State.settleDisplay_slots : (s.settleDisplay).slots = s.slots := rfl
@[simp] theorem State.settleDisplay_integ : (s.settleDisplay).integ = s.integ := rfl
@[simp] theorem State.settleDisplay_gauges : (s.settleDisplay).gauges = s.gauges := rfl
@[simp] theorem State.settleDisplay_trip : (s.settleDisplay).trip = s.trip := rfl
@[simp] theorem State.settleDisplay_monitor : (s.settleDisplay).monitor = s.monitor := rfl
@[simp] theorem State.settleDisplay_faults : (s.settleDisplay).faults = s.faults := rfl
@[simp] theorem State.settleDisplay_chime : (s.settleDisplay).chime = s.chime := rfl
@[simp] theorem State.settleDisplay_display : (s.settleDisplay).display = s.display.settle s.displayView := rfl
@[simp] theorem State.settleDisplay_service : (s.settleDisplay).service = s.service := rfl
@[simp] theorem State.settleDisplay_hold : (s.settleDisplay).hold = s.hold := rfl
@[simp] theorem State.settleDisplay_store : (s.settleDisplay).store = s.store := rfl
@[simp] theorem State.settleDisplay_line : (s.settleDisplay).line = s.line := rfl
@[simp] theorem State.settleDisplay_key : (s.settleDisplay).key = s.key := rfl
@[simp] theorem State.settleDisplay_freeIndex : (s.settleDisplay).freeIndex = s.freeIndex := rfl
@[simp] theorem State.settleDisplay_handed : (s.settleDisplay).handed = s.handed := rfl
@[simp] theorem State.settleDisplay_pending : (s.settleDisplay).pending = s.pending := rfl

/-! ### `State.clearLatch` -/
@[simp] theorem State.clearLatch_now : (s.clearLatch).now = s.now := rfl
@[simp] theorem State.clearLatch_image : (s.clearLatch).image = s.image := rfl
@[simp] theorem State.clearLatch_slots : (s.clearLatch).slots = s.slots := rfl
@[simp] theorem State.clearLatch_integ : (s.clearLatch).integ = s.integ := rfl
@[simp] theorem State.clearLatch_gauges : (s.clearLatch).gauges = s.gauges := rfl
@[simp] theorem State.clearLatch_trip : (s.clearLatch).trip = s.trip := rfl
@[simp] theorem State.clearLatch_monitor : (s.clearLatch).monitor = s.monitor := rfl
@[simp] theorem State.clearLatch_faults : (s.clearLatch).faults = s.faults := rfl
@[simp] theorem State.clearLatch_chime : (s.clearLatch).chime = s.chime := rfl
@[simp] theorem State.clearLatch_display : (s.clearLatch).display = s.display := rfl
@[simp] theorem State.clearLatch_service : (s.clearLatch).service = s.service := rfl
@[simp] theorem State.clearLatch_hold : (s.clearLatch).hold = { s.hold with latch := false } := rfl
@[simp] theorem State.clearLatch_store : (s.clearLatch).store = s.store := rfl
@[simp] theorem State.clearLatch_line : (s.clearLatch).line = s.line := rfl
@[simp] theorem State.clearLatch_key : (s.clearLatch).key = s.key := rfl
@[simp] theorem State.clearLatch_freeIndex : (s.clearLatch).freeIndex = s.freeIndex := rfl
@[simp] theorem State.clearLatch_handed : (s.clearLatch).handed = s.handed := rfl
@[simp] theorem State.clearLatch_pending : (s.clearLatch).pending = s.pending := rfl

/-! ### `State.clearMark` -/
@[simp] theorem State.clearMark_now : (s.clearMark).now = s.now := rfl
@[simp] theorem State.clearMark_image : (s.clearMark).image = s.image := rfl
@[simp] theorem State.clearMark_slots : (s.clearMark).slots = s.slots := rfl
@[simp] theorem State.clearMark_integ : (s.clearMark).integ = { s.integ with mark := false } := rfl
@[simp] theorem State.clearMark_gauges : (s.clearMark).gauges = s.gauges := rfl
@[simp] theorem State.clearMark_trip : (s.clearMark).trip = s.trip := rfl
@[simp] theorem State.clearMark_monitor : (s.clearMark).monitor = s.monitor := rfl
@[simp] theorem State.clearMark_faults : (s.clearMark).faults = s.faults := rfl
@[simp] theorem State.clearMark_chime : (s.clearMark).chime = s.chime := rfl
@[simp] theorem State.clearMark_display : (s.clearMark).display = s.display := rfl
@[simp] theorem State.clearMark_service : (s.clearMark).service = s.service := rfl
@[simp] theorem State.clearMark_hold : (s.clearMark).hold = s.hold := rfl
@[simp] theorem State.clearMark_store : (s.clearMark).store = s.store := rfl
@[simp] theorem State.clearMark_line : (s.clearMark).line = s.line := rfl
@[simp] theorem State.clearMark_key : (s.clearMark).key = s.key := rfl
@[simp] theorem State.clearMark_freeIndex : (s.clearMark).freeIndex = s.freeIndex := rfl
@[simp] theorem State.clearMark_handed : (s.clearMark).handed = s.handed := rfl
@[simp] theorem State.clearMark_pending : (s.clearMark).pending = s.pending := rfl

/-! ### `State.mapChannels` -/
@[simp] theorem State.mapChannels_now (f : Channel → Channel) : (s.mapChannels f).now = s.now := rfl
@[simp] theorem State.mapChannels_image (f : Channel → Channel) : (s.mapChannels f).image = s.image := rfl
@[simp] theorem State.mapChannels_slots (f : Channel → Channel) : (s.mapChannels f).slots = s.slots := rfl
@[simp] theorem State.mapChannels_integ (f : Channel → Channel) : (s.mapChannels f).integ = s.integ := rfl
@[simp] theorem State.mapChannels_trip (f : Channel → Channel) : (s.mapChannels f).trip = s.trip := rfl
@[simp] theorem State.mapChannels_monitor (f : Channel → Channel) : (s.mapChannels f).monitor = s.monitor := rfl
@[simp] theorem State.mapChannels_faults (f : Channel → Channel) : (s.mapChannels f).faults = s.faults := rfl
@[simp] theorem State.mapChannels_chime (f : Channel → Channel) : (s.mapChannels f).chime = s.chime := rfl
@[simp] theorem State.mapChannels_display (f : Channel → Channel) : (s.mapChannels f).display = s.display := rfl
@[simp] theorem State.mapChannels_service (f : Channel → Channel) : (s.mapChannels f).service = s.service := rfl
@[simp] theorem State.mapChannels_hold (f : Channel → Channel) : (s.mapChannels f).hold = s.hold := rfl
@[simp] theorem State.mapChannels_store (f : Channel → Channel) : (s.mapChannels f).store = s.store := rfl
@[simp] theorem State.mapChannels_line (f : Channel → Channel) : (s.mapChannels f).line = s.line := rfl
@[simp] theorem State.mapChannels_key (f : Channel → Channel) : (s.mapChannels f).key = s.key := rfl
@[simp] theorem State.mapChannels_freeIndex (f : Channel → Channel) : (s.mapChannels f).freeIndex = s.freeIndex := rfl
@[simp] theorem State.mapChannels_handed (f : Channel → Channel) : (s.mapChannels f).handed = s.handed := rfl
@[simp] theorem State.mapChannels_pending (f : Channel → Channel) : (s.mapChannels f).pending = s.pending := rfl

/-! ### `State.sweepAddressed` -/
@[simp] theorem State.sweepAddressed_now (n : Nat) : (s.sweepAddressed n).now = s.now := rfl
@[simp] theorem State.sweepAddressed_image (n : Nat) : (s.sweepAddressed n).image = s.image := rfl
@[simp] theorem State.sweepAddressed_slots (n : Nat) : (s.sweepAddressed n).slots = s.slots := rfl
@[simp] theorem State.sweepAddressed_integ (n : Nat) : (s.sweepAddressed n).integ = s.integ := rfl
@[simp] theorem State.sweepAddressed_trip (n : Nat) : (s.sweepAddressed n).trip = s.trip := rfl
@[simp] theorem State.sweepAddressed_monitor (n : Nat) : (s.sweepAddressed n).monitor = s.monitor := rfl
@[simp] theorem State.sweepAddressed_faults (n : Nat) : (s.sweepAddressed n).faults = s.faults := rfl
@[simp] theorem State.sweepAddressed_chime (n : Nat) : (s.sweepAddressed n).chime = s.chime := rfl
@[simp] theorem State.sweepAddressed_display (n : Nat) : (s.sweepAddressed n).display = s.display := rfl
@[simp] theorem State.sweepAddressed_service (n : Nat) : (s.sweepAddressed n).service = s.service := rfl
@[simp] theorem State.sweepAddressed_hold (n : Nat) : (s.sweepAddressed n).hold = s.hold := rfl
@[simp] theorem State.sweepAddressed_store (n : Nat) : (s.sweepAddressed n).store = s.store := rfl
@[simp] theorem State.sweepAddressed_line (n : Nat) : (s.sweepAddressed n).line = s.line := rfl
@[simp] theorem State.sweepAddressed_key (n : Nat) : (s.sweepAddressed n).key = s.key := rfl
@[simp] theorem State.sweepAddressed_freeIndex (n : Nat) : (s.sweepAddressed n).freeIndex = s.freeIndex := rfl
@[simp] theorem State.sweepAddressed_handed (n : Nat) : (s.sweepAddressed n).handed = s.handed := rfl
@[simp] theorem State.sweepAddressed_pending (n : Nat) : (s.sweepAddressed n).pending = s.pending := rfl

/-! ### `State.displayTakesKey` -/
@[simp] theorem State.displayTakesKey_now : (s.displayTakesKey).now = s.now := rfl
@[simp] theorem State.displayTakesKey_image : (s.displayTakesKey).image = s.image := rfl
@[simp] theorem State.displayTakesKey_slots : (s.displayTakesKey).slots = s.slots := rfl
@[simp] theorem State.displayTakesKey_integ : (s.displayTakesKey).integ = s.integ := rfl
@[simp] theorem State.displayTakesKey_gauges : (s.displayTakesKey).gauges = s.gauges := rfl
@[simp] theorem State.displayTakesKey_trip : (s.displayTakesKey).trip = s.trip := rfl
@[simp] theorem State.displayTakesKey_monitor : (s.displayTakesKey).monitor = s.monitor := rfl
@[simp] theorem State.displayTakesKey_faults : (s.displayTakesKey).faults = s.faults := rfl
@[simp] theorem State.displayTakesKey_chime : (s.displayTakesKey).chime = s.chime := rfl
@[simp] theorem State.displayTakesKey_service : (s.displayTakesKey).service = s.service := rfl
@[simp] theorem State.displayTakesKey_hold : (s.displayTakesKey).hold = s.hold := rfl
@[simp] theorem State.displayTakesKey_store : (s.displayTakesKey).store = s.store := rfl
@[simp] theorem State.displayTakesKey_line : (s.displayTakesKey).line = s.line := rfl
@[simp] theorem State.displayTakesKey_key : (s.displayTakesKey).key = s.key := rfl
@[simp] theorem State.displayTakesKey_freeIndex : (s.displayTakesKey).freeIndex = s.freeIndex := rfl
@[simp] theorem State.displayTakesKey_handed : (s.displayTakesKey).handed = s.handed := rfl
@[simp] theorem State.displayTakesKey_pending : (s.displayTakesKey).pending = s.pending := rfl

/-! ### `State.reportTrip` -/
@[simp] theorem State.reportTrip_now : (s.reportTrip).now = s.now := rfl
@[simp] theorem State.reportTrip_image : (s.reportTrip).image = s.image := rfl
@[simp] theorem State.reportTrip_slots : (s.reportTrip).slots = s.slots := rfl
@[simp] theorem State.reportTrip_integ : (s.reportTrip).integ = s.integ := rfl
@[simp] theorem State.reportTrip_gauges : (s.reportTrip).gauges = s.gauges := rfl
@[simp] theorem State.reportTrip_trip : (s.reportTrip).trip = s.trip := rfl
@[simp] theorem State.reportTrip_monitor : (s.reportTrip).monitor = s.monitor := rfl
@[simp] theorem State.reportTrip_faults : (s.reportTrip).faults = s.faults := rfl
@[simp] theorem State.reportTrip_chime : (s.reportTrip).chime = s.chime := rfl
@[simp] theorem State.reportTrip_display : (s.reportTrip).display = s.display := rfl
@[simp] theorem State.reportTrip_service : (s.reportTrip).service = s.service := rfl
@[simp] theorem State.reportTrip_hold : (s.reportTrip).hold = s.hold := rfl
@[simp] theorem State.reportTrip_store : (s.reportTrip).store = s.store := rfl
@[simp] theorem State.reportTrip_line : (s.reportTrip).line = s.line := rfl
@[simp] theorem State.reportTrip_key : (s.reportTrip).key = s.key := rfl
@[simp] theorem State.reportTrip_freeIndex : (s.reportTrip).freeIndex = s.freeIndex := rfl
@[simp] theorem State.reportTrip_handed : (s.reportTrip).handed = { s.handed with trip := true } := rfl
@[simp] theorem State.reportTrip_pending : (s.reportTrip).pending = s.pending := rfl

end Sys2Proof.Machine
end

