-- ==== Sys2Proof/Laws/Frames.lean ====
section
/-! SUPPORT. What each shared operation can change: one lemma for every field that it leaves as it was. -/

namespace Sys2Proof.Machine

/-- A fold keeps what each of its steps keeps. -/
theorem foldl_keeps {α β γ : Type} (p : α → γ) (g : α → β → α) (h : ∀ a b, p (g a b) = p a) (l : List β) :
    ∀ a, p (l.foldl g a) = p a := by
  induction l with
  | nil => intro a; rfl
  | cons b l ih => intro a; rw [List.foldl_cons, ih, h]

/-! ### `State.publish` -/
@[simp] theorem State.publish_now (s : State) (src : TxSource) (g : Byte) (d : List Byte) : (s.publish src g d).now = s.now := rfl
@[simp] theorem State.publish_image (s : State) (src : TxSource) (g : Byte) (d : List Byte) : (s.publish src g d).image = s.image := rfl
@[simp] theorem State.publish_slots (s : State) (src : TxSource) (g : Byte) (d : List Byte) : (s.publish src g d).slots = s.slots := rfl
@[simp] theorem State.publish_integ (s : State) (src : TxSource) (g : Byte) (d : List Byte) : (s.publish src g d).integ = s.integ := rfl
@[simp] theorem State.publish_gauges (s : State) (src : TxSource) (g : Byte) (d : List Byte) : (s.publish src g d).gauges = s.gauges := rfl
@[simp] theorem State.publish_trip (s : State) (src : TxSource) (g : Byte) (d : List Byte) : (s.publish src g d).trip = s.trip := rfl
@[simp] theorem State.publish_monitor (s : State) (src : TxSource) (g : Byte) (d : List Byte) : (s.publish src g d).monitor = s.monitor := rfl
@[simp] theorem State.publish_faults (s : State) (src : TxSource) (g : Byte) (d : List Byte) : (s.publish src g d).faults = s.faults := rfl
@[simp] theorem State.publish_chime (s : State) (src : TxSource) (g : Byte) (d : List Byte) : (s.publish src g d).chime = s.chime := rfl
@[simp] theorem State.publish_display (s : State) (src : TxSource) (g : Byte) (d : List Byte) : (s.publish src g d).display = s.display := rfl
@[simp] theorem State.publish_service (s : State) (src : TxSource) (g : Byte) (d : List Byte) : (s.publish src g d).service = s.service := rfl
@[simp] theorem State.publish_hold (s : State) (src : TxSource) (g : Byte) (d : List Byte) : (s.publish src g d).hold = s.hold := rfl
@[simp] theorem State.publish_store (s : State) (src : TxSource) (g : Byte) (d : List Byte) : (s.publish src g d).store = s.store := rfl
@[simp] theorem State.publish_key (s : State) (src : TxSource) (g : Byte) (d : List Byte) : (s.publish src g d).key = s.key := rfl
@[simp] theorem State.publish_freeIndex (s : State) (src : TxSource) (g : Byte) (d : List Byte) : (s.publish src g d).freeIndex = s.freeIndex := rfl
@[simp] theorem State.publish_handed (s : State) (src : TxSource) (g : Byte) (d : List Byte) : (s.publish src g d).handed = s.handed := rfl
@[simp] theorem State.publish_pending (s : State) (src : TxSource) (g : Byte) (d : List Byte) : (s.publish src g d).pending = s.pending := rfl

/-! ### `State.answer` -/
@[simp] theorem State.answer_now (s : State) (a : Station) (g i : Byte) (st : Status) (v : List Byte) : (s.answer a g i st v).now = s.now := rfl
@[simp] theorem State.answer_image (s : State) (a : Station) (g i : Byte) (st : Status) (v : List Byte) : (s.answer a g i st v).image = s.image := rfl
@[simp] theorem State.answer_slots (s : State) (a : Station) (g i : Byte) (st : Status) (v : List Byte) : (s.answer a g i st v).slots = s.slots := rfl
@[simp] theorem State.answer_integ (s : State) (a : Station) (g i : Byte) (st : Status) (v : List Byte) : (s.answer a g i st v).integ = s.integ := rfl
@[simp] theorem State.answer_gauges (s : State) (a : Station) (g i : Byte) (st : Status) (v : List Byte) : (s.answer a g i st v).gauges = s.gauges := rfl
@[simp] theorem State.answer_trip (s : State) (a : Station) (g i : Byte) (st : Status) (v : List Byte) : (s.answer a g i st v).trip = s.trip := rfl
@[simp] theorem State.answer_monitor (s : State) (a : Station) (g i : Byte) (st : Status) (v : List Byte) : (s.answer a g i st v).monitor = s.monitor := rfl
@[simp] theorem State.answer_faults (s : State) (a : Station) (g i : Byte) (st : Status) (v : List Byte) : (s.answer a g i st v).faults = s.faults := rfl
@[simp] theorem State.answer_chime (s : State) (a : Station) (g i : Byte) (st : Status) (v : List Byte) : (s.answer a g i st v).chime = s.chime := rfl
@[simp] theorem State.answer_display (s : State) (a : Station) (g i : Byte) (st : Status) (v : List Byte) : (s.answer a g i st v).display = s.display := rfl
@[simp] theorem State.answer_service (s : State) (a : Station) (g i : Byte) (st : Status) (v : List Byte) : (s.answer a g i st v).service = s.service := rfl
@[simp] theorem State.answer_hold (s : State) (a : Station) (g i : Byte) (st : Status) (v : List Byte) : (s.answer a g i st v).hold = s.hold := rfl
@[simp] theorem State.answer_store (s : State) (a : Station) (g i : Byte) (st : Status) (v : List Byte) : (s.answer a g i st v).store = s.store := rfl
@[simp] theorem State.answer_key (s : State) (a : Station) (g i : Byte) (st : Status) (v : List Byte) : (s.answer a g i st v).key = s.key := rfl
@[simp] theorem State.answer_freeIndex (s : State) (a : Station) (g i : Byte) (st : Status) (v : List Byte) : (s.answer a g i st v).freeIndex = s.freeIndex := rfl
@[simp] theorem State.answer_handed (s : State) (a : Station) (g i : Byte) (st : Status) (v : List Byte) : (s.answer a g i st v).handed = s.handed := rfl
@[simp] theorem State.answer_pending (s : State) (a : Station) (g i : Byte) (st : Status) (v : List Byte) : (s.answer a g i st v).pending = s.pending := rfl

/-! ### `State.reportSources` -/
@[simp] theorem State.reportSources_now (s : State) (l : List Source) : (s.reportSources l).now = s.now := rfl
@[simp] theorem State.reportSources_image (s : State) (l : List Source) : (s.reportSources l).image = s.image := rfl
@[simp] theorem State.reportSources_slots (s : State) (l : List Source) : (s.reportSources l).slots = s.slots := rfl
@[simp] theorem State.reportSources_integ (s : State) (l : List Source) : (s.reportSources l).integ = s.integ := rfl
@[simp] theorem State.reportSources_gauges (s : State) (l : List Source) : (s.reportSources l).gauges = s.gauges := rfl
@[simp] theorem State.reportSources_trip (s : State) (l : List Source) : (s.reportSources l).trip = s.trip := rfl
@[simp] theorem State.reportSources_faults (s : State) (l : List Source) : (s.reportSources l).faults = s.faults := rfl
@[simp] theorem State.reportSources_service (s : State) (l : List Source) : (s.reportSources l).service = s.service := rfl
@[simp] theorem State.reportSources_hold (s : State) (l : List Source) : (s.reportSources l).hold = s.hold := rfl
@[simp] theorem State.reportSources_store (s : State) (l : List Source) : (s.reportSources l).store = s.store := rfl
@[simp] theorem State.reportSources_line (s : State) (l : List Source) : (s.reportSources l).line = s.line := rfl
@[simp] theorem State.reportSources_key (s : State) (l : List Source) : (s.reportSources l).key = s.key := rfl
@[simp] theorem State.reportSources_freeIndex (s : State) (l : List Source) : (s.reportSources l).freeIndex = s.freeIndex := rfl
@[simp] theorem State.reportSources_pending (s : State) (l : List Source) : (s.reportSources l).pending = s.pending := rfl

/-! ### `State.evalAll` -/
@[simp] theorem State.evalAll_now (s : State) : (s.evalAll).now = s.now := rfl
@[simp] theorem State.evalAll_image (s : State) : (s.evalAll).image = s.image := rfl
@[simp] theorem State.evalAll_slots (s : State) : (s.evalAll).slots = s.slots := rfl
@[simp] theorem State.evalAll_integ (s : State) : (s.evalAll).integ = s.integ := rfl
@[simp] theorem State.evalAll_gauges (s : State) : (s.evalAll).gauges = s.gauges := rfl
@[simp] theorem State.evalAll_trip (s : State) : (s.evalAll).trip = s.trip := rfl
@[simp] theorem State.evalAll_faults (s : State) : (s.evalAll).faults = s.faults := rfl
@[simp] theorem State.evalAll_service (s : State) : (s.evalAll).service = s.service := rfl
@[simp] theorem State.evalAll_hold (s : State) : (s.evalAll).hold = s.hold := rfl
@[simp] theorem State.evalAll_store (s : State) : (s.evalAll).store = s.store := rfl
@[simp] theorem State.evalAll_line (s : State) : (s.evalAll).line = s.line := rfl
@[simp] theorem State.evalAll_key (s : State) : (s.evalAll).key = s.key := rfl
@[simp] theorem State.evalAll_freeIndex (s : State) : (s.evalAll).freeIndex = s.freeIndex := rfl
@[simp] theorem State.evalAll_pending (s : State) : (s.evalAll).pending = s.pending := rfl

/-! ### `State.ackPress` -/
@[simp] theorem State.ackPress_now (s : State) : (s.ackPress).now = s.now := rfl
@[simp] theorem State.ackPress_image (s : State) : (s.ackPress).image = s.image := rfl
@[simp] theorem State.ackPress_slots (s : State) : (s.ackPress).slots = s.slots := rfl
@[simp] theorem State.ackPress_integ (s : State) : (s.ackPress).integ = s.integ := rfl
@[simp] theorem State.ackPress_gauges (s : State) : (s.ackPress).gauges = s.gauges := rfl
@[simp] theorem State.ackPress_trip (s : State) : (s.ackPress).trip = s.trip := rfl
@[simp] theorem State.ackPress_faults (s : State) : (s.ackPress).faults = s.faults := rfl
@[simp] theorem State.ackPress_service (s : State) : (s.ackPress).service = s.service := rfl
@[simp] theorem State.ackPress_hold (s : State) : (s.ackPress).hold = s.hold := rfl
@[simp] theorem State.ackPress_store (s : State) : (s.ackPress).store = s.store := rfl
@[simp] theorem State.ackPress_line (s : State) : (s.ackPress).line = s.line := rfl
@[simp] theorem State.ackPress_key (s : State) : (s.ackPress).key = s.key := rfl
@[simp] theorem State.ackPress_freeIndex (s : State) : (s.ackPress).freeIndex = s.freeIndex := rfl
@[simp] theorem State.ackPress_pending (s : State) : (s.ackPress).pending = s.pending := rfl

/-! ### `State.reportFault` -/
@[simp] theorem State.reportFault_now (s : State) (k : FaultKind) : (s.reportFault k).now = s.now := by unfold State.reportFault; dsimp only; (repeat' split) <;> simp
@[simp] theorem State.reportFault_image (s : State) (k : FaultKind) : (s.reportFault k).image = s.image := by unfold State.reportFault; dsimp only; (repeat' split) <;> simp
@[simp] theorem State.reportFault_slots (s : State) (k : FaultKind) : (s.reportFault k).slots = s.slots := by unfold State.reportFault; dsimp only; (repeat' split) <;> simp
@[simp] theorem State.reportFault_integ (s : State) (k : FaultKind) : (s.reportFault k).integ = s.integ := by unfold State.reportFault; dsimp only; (repeat' split) <;> simp
@[simp] theorem State.reportFault_gauges (s : State) (k : FaultKind) : (s.reportFault k).gauges = s.gauges := by unfold State.reportFault; dsimp only; (repeat' split) <;> simp
@[simp] theorem State.reportFault_trip (s : State) (k : FaultKind) : (s.reportFault k).trip = s.trip := by unfold State.reportFault; dsimp only; (repeat' split) <;> simp
@[simp] theorem State.reportFault_service (s : State) (k : FaultKind) : (s.reportFault k).service = s.service := by unfold State.reportFault; dsimp only; (repeat' split) <;> simp
@[simp] theorem State.reportFault_hold (s : State) (k : FaultKind) : (s.reportFault k).hold = s.hold := by unfold State.reportFault; dsimp only; (repeat' split) <;> simp
@[simp] theorem State.reportFault_store (s : State) (k : FaultKind) : (s.reportFault k).store = s.store := by unfold State.reportFault; dsimp only; (repeat' split) <;> simp
@[simp] theorem State.reportFault_key (s : State) (k : FaultKind) : (s.reportFault k).key = s.key := by unfold State.reportFault; dsimp only; (repeat' split) <;> simp
@[simp] theorem State.reportFault_freeIndex (s : State) (k : FaultKind) : (s.reportFault k).freeIndex = s.freeIndex := by unfold State.reportFault; dsimp only; (repeat' split) <;> simp
@[simp] theorem State.reportFault_pending (s : State) (k : FaultKind) : (s.reportFault k).pending = s.pending := by unfold State.reportFault; dsimp only; (repeat' split) <;> simp

/-! ### `State.statusOnChange` -/
@[simp] theorem State.statusOnChange_now (b s : State) : (State.statusOnChange b s).now = s.now := by
  unfold State.statusOnChange
  split
  · rw [foldl_keeps (fun x : State => x.now)]; intro a b; rfl
  · rfl
@[simp] theorem State.statusOnChange_image (b s : State) : (State.statusOnChange b s).image = s.image := by
  unfold State.statusOnChange
  split
  · rw [foldl_keeps (fun x : State => x.image)]; intro a b; rfl
  · rfl
@[simp] theorem State.statusOnChange_slots (b s : State) : (State.statusOnChange b s).slots = s.slots := by
  unfold State.statusOnChange
  split
  · rw [foldl_keeps (fun x : State => x.slots)]; intro a b; rfl
  · rfl
@[simp] theorem State.statusOnChange_integ (b s : State) : (State.statusOnChange b s).integ = s.integ := by
  unfold State.statusOnChange
  split
  · rw [foldl_keeps (fun x : State => x.integ)]; intro a b; rfl
  · rfl
@[simp] theorem State.statusOnChange_gauges (b s : State) : (State.statusOnChange b s).gauges = s.gauges := by
  unfold State.statusOnChange
  split
  · rw [foldl_keeps (fun x : State => x.gauges)]; intro a b; rfl
  · rfl
@[simp] theorem State.statusOnChange_trip (b s : State) : (State.statusOnChange b s).trip = s.trip := by
  unfold State.statusOnChange
  split
  · rw [foldl_keeps (fun x : State => x.trip)]; intro a b; rfl
  · rfl
@[simp] theorem State.statusOnChange_monitor (b s : State) : (State.statusOnChange b s).monitor = s.monitor := by
  unfold State.statusOnChange
  split
  · rw [foldl_keeps (fun x : State => x.monitor)]; intro a b; rfl
  · rfl
@[simp] theorem State.statusOnChange_faults (b s : State) : (State.statusOnChange b s).faults = s.faults := by
  unfold State.statusOnChange
  split
  · rw [foldl_keeps (fun x : State => x.faults)]; intro a b; rfl
  · rfl
@[simp] theorem State.statusOnChange_chime (b s : State) : (State.statusOnChange b s).chime = s.chime := by
  unfold State.statusOnChange
  split
  · rw [foldl_keeps (fun x : State => x.chime)]; intro a b; rfl
  · rfl
@[simp] theorem State.statusOnChange_display (b s : State) : (State.statusOnChange b s).display = s.display := by
  unfold State.statusOnChange
  split
  · rw [foldl_keeps (fun x : State => x.display)]; intro a b; rfl
  · rfl
@[simp] theorem State.statusOnChange_service (b s : State) : (State.statusOnChange b s).service = s.service := by
  unfold State.statusOnChange
  split
  · rw [foldl_keeps (fun x : State => x.service)]; intro a b; rfl
  · rfl
@[simp] theorem State.statusOnChange_hold (b s : State) : (State.statusOnChange b s).hold = s.hold := by
  unfold State.statusOnChange
  split
  · rw [foldl_keeps (fun x : State => x.hold)]; intro a b; rfl
  · rfl
@[simp] theorem State.statusOnChange_store (b s : State) : (State.statusOnChange b s).store = s.store := by
  unfold State.statusOnChange
  split
  · rw [foldl_keeps (fun x : State => x.store)]; intro a b; rfl
  · rfl
@[simp] theorem State.statusOnChange_key (b s : State) : (State.statusOnChange b s).key = s.key := by
  unfold State.statusOnChange
  split
  · rw [foldl_keeps (fun x : State => x.key)]; intro a b; rfl
  · rfl
@[simp] theorem State.statusOnChange_freeIndex (b s : State) : (State.statusOnChange b s).freeIndex = s.freeIndex := by
  unfold State.statusOnChange
  split
  · rw [foldl_keeps (fun x : State => x.freeIndex)]; intro a b; rfl
  · rfl
@[simp] theorem State.statusOnChange_handed (b s : State) : (State.statusOnChange b s).handed = s.handed := by
  unfold State.statusOnChange
  split
  · rw [foldl_keeps (fun x : State => x.handed)]; intro a b; rfl
  · rfl
@[simp] theorem State.statusOnChange_pending (b s : State) : (State.statusOnChange b s).pending = s.pending := by
  unfold State.statusOnChange
  split
  · rw [foldl_keeps (fun x : State => x.pending)]; intro a b; rfl
  · rfl

/-! ### `watchStatus` -/
@[simp] theorem watchStatus_now (s : State) (b : List Byte) : (watchStatus s b).now = s.now := rfl
@[simp] theorem watchStatus_image (s : State) (b : List Byte) : (watchStatus s b).image = s.image := rfl
@[simp] theorem watchStatus_slots (s : State) (b : List Byte) : (watchStatus s b).slots = s.slots := rfl
@[simp] theorem watchStatus_integ (s : State) (b : List Byte) : (watchStatus s b).integ = s.integ := rfl
@[simp] theorem watchStatus_gauges (s : State) (b : List Byte) : (watchStatus s b).gauges = s.gauges := rfl
@[simp] theorem watchStatus_trip (s : State) (b : List Byte) : (watchStatus s b).trip = s.trip := rfl
@[simp] theorem watchStatus_monitor (s : State) (b : List Byte) : (watchStatus s b).monitor = s.monitor := rfl
@[simp] theorem watchStatus_faults (s : State) (b : List Byte) : (watchStatus s b).faults = s.faults := rfl
@[simp] theorem watchStatus_chime (s : State) (b : List Byte) : (watchStatus s b).chime = s.chime := rfl
@[simp] theorem watchStatus_display (s : State) (b : List Byte) : (watchStatus s b).display = s.display := rfl
@[simp] theorem watchStatus_service (s : State) (b : List Byte) : (watchStatus s b).service = s.service := rfl
@[simp] theorem watchStatus_hold (s : State) (b : List Byte) : (watchStatus s b).hold = s.hold := rfl
@[simp] theorem watchStatus_store (s : State) (b : List Byte) : (watchStatus s b).store = s.store := rfl
@[simp] theorem watchStatus_key (s : State) (b : List Byte) : (watchStatus s b).key = s.key := rfl
@[simp] theorem watchStatus_freeIndex (s : State) (b : List Byte) : (watchStatus s b).freeIndex = s.freeIndex := rfl
@[simp] theorem watchStatus_handed (s : State) (b : List Byte) : (watchStatus s b).handed = s.handed := rfl
@[simp] theorem watchStatus_pending (s : State) (b : List Byte) : (watchStatus s b).pending = s.pending := rfl

/-! ### `watchChanges` -/
@[simp] theorem watchChanges_now (s : State) : (watchChanges s).now = s.now := foldl_keeps (fun x : State => x.now) watchStatus (fun _ _ => rfl) _ s
@[simp] theorem watchChanges_image (s : State) : (watchChanges s).image = s.image := foldl_keeps (fun x : State => x.image) watchStatus (fun _ _ => rfl) _ s
@[simp] theorem watchChanges_slots (s : State) : (watchChanges s).slots = s.slots := foldl_keeps (fun x : State => x.slots) watchStatus (fun _ _ => rfl) _ s
@[simp] theorem watchChanges_integ (s : State) : (watchChanges s).integ = s.integ := foldl_keeps (fun x : State => x.integ) watchStatus (fun _ _ => rfl) _ s
@[simp] theorem watchChanges_gauges (s : State) : (watchChanges s).gauges = s.gauges := foldl_keeps (fun x : State => x.gauges) watchStatus (fun _ _ => rfl) _ s
@[simp] theorem watchChanges_trip (s : State) : (watchChanges s).trip = s.trip := foldl_keeps (fun x : State => x.trip) watchStatus (fun _ _ => rfl) _ s
@[simp] theorem watchChanges_monitor (s : State) : (watchChanges s).monitor = s.monitor := foldl_keeps (fun x : State => x.monitor) watchStatus (fun _ _ => rfl) _ s
@[simp] theorem watchChanges_faults (s : State) : (watchChanges s).faults = s.faults := foldl_keeps (fun x : State => x.faults) watchStatus (fun _ _ => rfl) _ s
@[simp] theorem watchChanges_chime (s : State) : (watchChanges s).chime = s.chime := foldl_keeps (fun x : State => x.chime) watchStatus (fun _ _ => rfl) _ s
@[simp] theorem watchChanges_display (s : State) : (watchChanges s).display = s.display := foldl_keeps (fun x : State => x.display) watchStatus (fun _ _ => rfl) _ s
@[simp] theorem watchChanges_service (s : State) : (watchChanges s).service = s.service := foldl_keeps (fun x : State => x.service) watchStatus (fun _ _ => rfl) _ s
@[simp] theorem watchChanges_hold (s : State) : (watchChanges s).hold = s.hold := foldl_keeps (fun x : State => x.hold) watchStatus (fun _ _ => rfl) _ s
@[simp] theorem watchChanges_store (s : State) : (watchChanges s).store = s.store := foldl_keeps (fun x : State => x.store) watchStatus (fun _ _ => rfl) _ s
@[simp] theorem watchChanges_key (s : State) : (watchChanges s).key = s.key := foldl_keeps (fun x : State => x.key) watchStatus (fun _ _ => rfl) _ s
@[simp] theorem watchChanges_freeIndex (s : State) : (watchChanges s).freeIndex = s.freeIndex := foldl_keeps (fun x : State => x.freeIndex) watchStatus (fun _ _ => rfl) _ s
@[simp] theorem watchChanges_handed (s : State) : (watchChanges s).handed = s.handed := foldl_keeps (fun x : State => x.handed) watchStatus (fun _ _ => rfl) _ s
@[simp] theorem watchChanges_pending (s : State) : (watchChanges s).pending = s.pending := foldl_keeps (fun x : State => x.pending) watchStatus (fun _ _ => rfl) _ s

/-! ### `watchStanding` -/
@[simp] theorem watchStanding_now (b s : State) : (watchStanding b s).now = s.now := rfl
@[simp] theorem watchStanding_image (b s : State) : (watchStanding b s).image = s.image := rfl
@[simp] theorem watchStanding_slots (b s : State) : (watchStanding b s).slots = s.slots := rfl
@[simp] theorem watchStanding_integ (b s : State) : (watchStanding b s).integ = s.integ := rfl
@[simp] theorem watchStanding_gauges (b s : State) : (watchStanding b s).gauges = s.gauges := rfl
@[simp] theorem watchStanding_trip (b s : State) : (watchStanding b s).trip = s.trip := rfl
@[simp] theorem watchStanding_monitor (b s : State) : (watchStanding b s).monitor = s.monitor := rfl
@[simp] theorem watchStanding_faults (b s : State) : (watchStanding b s).faults = s.faults := rfl
@[simp] theorem watchStanding_chime (b s : State) : (watchStanding b s).chime = s.chime := rfl
@[simp] theorem watchStanding_display (b s : State) : (watchStanding b s).display = s.display := rfl
@[simp] theorem watchStanding_service (b s : State) : (watchStanding b s).service = s.service := rfl
@[simp] theorem watchStanding_hold (b s : State) : (watchStanding b s).hold = s.hold := rfl
@[simp] theorem watchStanding_store (b s : State) : (watchStanding b s).store = s.store := rfl
@[simp] theorem watchStanding_key (b s : State) : (watchStanding b s).key = s.key := rfl
@[simp] theorem watchStanding_freeIndex (b s : State) : (watchStanding b s).freeIndex = s.freeIndex := rfl
@[simp] theorem watchStanding_handed (b s : State) : (watchStanding b s).handed = s.handed := rfl
@[simp] theorem watchStanding_pending (b s : State) : (watchStanding b s).pending = s.pending := rfl

/-! ### `retryStandings` -/
@[simp] theorem retryStandings_now (c : StandingAsk → Bool) (s : State) : (retryStandings c s).now = s.now := rfl
@[simp] theorem retryStandings_image (c : StandingAsk → Bool) (s : State) : (retryStandings c s).image = s.image := rfl
@[simp] theorem retryStandings_slots (c : StandingAsk → Bool) (s : State) : (retryStandings c s).slots = s.slots := rfl
@[simp] theorem retryStandings_integ (c : StandingAsk → Bool) (s : State) : (retryStandings c s).integ = s.integ := rfl
@[simp] theorem retryStandings_gauges (c : StandingAsk → Bool) (s : State) : (retryStandings c s).gauges = s.gauges := rfl
@[simp] theorem retryStandings_trip (c : StandingAsk → Bool) (s : State) : (retryStandings c s).trip = s.trip := rfl
@[simp] theorem retryStandings_monitor (c : StandingAsk → Bool) (s : State) : (retryStandings c s).monitor = s.monitor := rfl
@[simp] theorem retryStandings_faults (c : StandingAsk → Bool) (s : State) : (retryStandings c s).faults = s.faults := rfl
@[simp] theorem retryStandings_chime (c : StandingAsk → Bool) (s : State) : (retryStandings c s).chime = s.chime := rfl
@[simp] theorem retryStandings_display (c : StandingAsk → Bool) (s : State) : (retryStandings c s).display = s.display := rfl
@[simp] theorem retryStandings_service (c : StandingAsk → Bool) (s : State) : (retryStandings c s).service = s.service := rfl
@[simp] theorem retryStandings_hold (c : StandingAsk → Bool) (s : State) : (retryStandings c s).hold = s.hold := rfl
@[simp] theorem retryStandings_store (c : StandingAsk → Bool) (s : State) : (retryStandings c s).store = s.store := rfl
@[simp] theorem retryStandings_key (c : StandingAsk → Bool) (s : State) : (retryStandings c s).key = s.key := rfl
@[simp] theorem retryStandings_freeIndex (c : StandingAsk → Bool) (s : State) : (retryStandings c s).freeIndex = s.freeIndex := rfl
@[simp] theorem retryStandings_handed (c : StandingAsk → Bool) (s : State) : (retryStandings c s).handed = s.handed := rfl
@[simp] theorem retryStandings_pending (c : StandingAsk → Bool) (s : State) : (retryStandings c s).pending = s.pending := rfl

/-! ### `State.close` -/
@[simp] theorem State.close_now (b s : State) : (State.close b s).now = s.now := by simp [State.close, watchStanding, retryStandings]
@[simp] theorem State.close_image (b s : State) : (State.close b s).image = s.image := by simp [State.close, watchStanding, retryStandings]
@[simp] theorem State.close_slots (b s : State) : (State.close b s).slots = s.slots := by simp [State.close, watchStanding, retryStandings]
@[simp] theorem State.close_integ (b s : State) : (State.close b s).integ = s.integ := by simp [State.close, watchStanding, retryStandings]
@[simp] theorem State.close_gauges (b s : State) : (State.close b s).gauges = s.gauges := by simp [State.close, watchStanding, retryStandings]
@[simp] theorem State.close_trip (b s : State) : (State.close b s).trip = s.trip := by simp [State.close, watchStanding, retryStandings]
@[simp] theorem State.close_monitor (b s : State) : (State.close b s).monitor = s.monitor := by simp [State.close, watchStanding, retryStandings]
@[simp] theorem State.close_faults (b s : State) : (State.close b s).faults = s.faults := by simp [State.close, watchStanding, retryStandings]
@[simp] theorem State.close_chime (b s : State) : (State.close b s).chime = s.chime := by simp [State.close, watchStanding, retryStandings]
@[simp] theorem State.close_service (b s : State) : (State.close b s).service = s.service := by simp [State.close, watchStanding, retryStandings]
@[simp] theorem State.close_hold (b s : State) : (State.close b s).hold = s.hold := by simp [State.close, watchStanding, retryStandings]
@[simp] theorem State.close_store (b s : State) : (State.close b s).store = s.store := by simp [State.close, watchStanding, retryStandings]
@[simp] theorem State.close_key (b s : State) : (State.close b s).key = s.key := by simp [State.close, watchStanding, retryStandings]
@[simp] theorem State.close_freeIndex (b s : State) : (State.close b s).freeIndex = s.freeIndex := by simp [State.close, watchStanding, retryStandings]
@[simp] theorem State.close_pending (b s : State) : (State.close b s).pending = s.pending := by simp [State.close, watchStanding, retryStandings]

/-! ### `State.accept` -/
@[simp] theorem State.accept_now (s : State) (o : Station) (r : Bool) : (s.accept o r).now = s.now := by simp only [State.accept]; (repeat' split) <;> simp
@[simp] theorem State.accept_image (s : State) (o : Station) (r : Bool) : (s.accept o r).image = s.image := by simp only [State.accept]; (repeat' split) <;> simp
@[simp] theorem State.accept_slots (s : State) (o : Station) (r : Bool) : (s.accept o r).slots = s.slots := by simp only [State.accept]; (repeat' split) <;> simp
@[simp] theorem State.accept_integ (s : State) (o : Station) (r : Bool) : (s.accept o r).integ = s.integ := by simp only [State.accept]; (repeat' split) <;> simp
@[simp] theorem State.accept_gauges (s : State) (o : Station) (r : Bool) : (s.accept o r).gauges = s.gauges := by simp only [State.accept]; (repeat' split) <;> simp
@[simp] theorem State.accept_trip (s : State) (o : Station) (r : Bool) : (s.accept o r).trip = s.trip := by simp only [State.accept]; (repeat' split) <;> simp
@[simp] theorem State.accept_service (s : State) (o : Station) (r : Bool) : (s.accept o r).service = s.service := by simp only [State.accept]; (repeat' split) <;> simp
@[simp] theorem State.accept_store (s : State) (o : Station) (r : Bool) : (s.accept o r).store = s.store := by simp only [State.accept]; (repeat' split) <;> simp
@[simp] theorem State.accept_freeIndex (s : State) (o : Station) (r : Bool) : (s.accept o r).freeIndex = s.freeIndex := by simp only [State.accept]; (repeat' split) <;> simp
@[simp] theorem State.accept_pending (s : State) (o : Station) (r : Bool) : (s.accept o r).pending = s.pending := by simp only [State.accept]; (repeat' split) <;> simp

/-! ### `State.refuse` -/
@[simp] theorem State.refuse_now (s : State) (r : Request) (g i : Byte) (st : Status) : (s.refuse r g i st).now = s.now := by simp [State.refuse]
@[simp] theorem State.refuse_image (s : State) (r : Request) (g i : Byte) (st : Status) : (s.refuse r g i st).image = s.image := by simp [State.refuse]
@[simp] theorem State.refuse_slots (s : State) (r : Request) (g i : Byte) (st : Status) : (s.refuse r g i st).slots = s.slots := by simp [State.refuse]
@[simp] theorem State.refuse_integ (s : State) (r : Request) (g i : Byte) (st : Status) : (s.refuse r g i st).integ = s.integ := by simp [State.refuse]
@[simp] theorem State.refuse_gauges (s : State) (r : Request) (g i : Byte) (st : Status) : (s.refuse r g i st).gauges = s.gauges := by simp [State.refuse]
@[simp] theorem State.refuse_trip (s : State) (r : Request) (g i : Byte) (st : Status) : (s.refuse r g i st).trip = s.trip := by simp [State.refuse]
@[simp] theorem State.refuse_service (s : State) (r : Request) (g i : Byte) (st : Status) : (s.refuse r g i st).service = s.service := by simp [State.refuse]
@[simp] theorem State.refuse_hold (s : State) (r : Request) (g i : Byte) (st : Status) : (s.refuse r g i st).hold = s.hold := by simp [State.refuse]
@[simp] theorem State.refuse_store (s : State) (r : Request) (g i : Byte) (st : Status) : (s.refuse r g i st).store = s.store := by simp [State.refuse]
@[simp] theorem State.refuse_key (s : State) (r : Request) (g i : Byte) (st : Status) : (s.refuse r g i st).key = s.key := by simp [State.refuse]
@[simp] theorem State.refuse_freeIndex (s : State) (r : Request) (g i : Byte) (st : Status) : (s.refuse r g i st).freeIndex = s.freeIndex := by simp [State.refuse]
@[simp] theorem State.refuse_pending (s : State) (r : Request) (g i : Byte) (st : Status) : (s.refuse r g i st).pending = s.pending := by simp [State.refuse]

/-! ### `State.handOver` -/
@[simp] theorem State.handOver_now (b s : State) : (State.handOver b s).now = s.now := by unfold State.handOver; (repeat' split) <;> simp
@[simp] theorem State.handOver_image (b s : State) : (State.handOver b s).image = s.image := by unfold State.handOver; (repeat' split) <;> simp
@[simp] theorem State.handOver_slots (b s : State) : (State.handOver b s).slots = s.slots := by unfold State.handOver; (repeat' split) <;> simp
@[simp] theorem State.handOver_integ (b s : State) : (State.handOver b s).integ = s.integ := by unfold State.handOver; (repeat' split) <;> simp
@[simp] theorem State.handOver_gauges (b s : State) : (State.handOver b s).gauges = s.gauges := by unfold State.handOver; (repeat' split) <;> simp
@[simp] theorem State.handOver_trip (b s : State) : (State.handOver b s).trip = s.trip := by unfold State.handOver; (repeat' split) <;> simp
@[simp] theorem State.handOver_monitor (b s : State) : (State.handOver b s).monitor = s.monitor := by unfold State.handOver; (repeat' split) <;> simp
@[simp] theorem State.handOver_faults (b s : State) : (State.handOver b s).faults = s.faults := by unfold State.handOver; (repeat' split) <;> simp
@[simp] theorem State.handOver_chime (b s : State) : (State.handOver b s).chime = s.chime := by unfold State.handOver; (repeat' split) <;> simp
@[simp] theorem State.handOver_display (b s : State) : (State.handOver b s).display = s.display := by unfold State.handOver; (repeat' split) <;> simp
@[simp] theorem State.handOver_service (b s : State) : (State.handOver b s).service = s.service := by unfold State.handOver; (repeat' split) <;> simp
@[simp] theorem State.handOver_hold (b s : State) : (State.handOver b s).hold = s.hold := by unfold State.handOver; (repeat' split) <;> simp
@[simp] theorem State.handOver_store (b s : State) : (State.handOver b s).store = s.store := by unfold State.handOver; (repeat' split) <;> simp
@[simp] theorem State.handOver_line (b s : State) : (State.handOver b s).line = s.line := by unfold State.handOver; (repeat' split) <;> simp
@[simp] theorem State.handOver_key (b s : State) : (State.handOver b s).key = s.key := by unfold State.handOver; (repeat' split) <;> simp
@[simp] theorem State.handOver_freeIndex (b s : State) : (State.handOver b s).freeIndex = s.freeIndex := by unfold State.handOver; (repeat' split) <;> simp
@[simp] theorem State.handOver_pending (b s : State) : (State.handOver b s).pending = s.pending := by unfold State.handOver; (repeat' split) <;> simp

/-! ### `State.withService` -/
@[simp] theorem State.withService_now (s : State) (x : Service) : (s.withService x).now = s.now := by unfold State.withService; dsimp only; (repeat' split) <;> simp
@[simp] theorem State.withService_image (s : State) (x : Service) : (s.withService x).image = s.image := by unfold State.withService; dsimp only; (repeat' split) <;> simp
@[simp] theorem State.withService_slots (s : State) (x : Service) : (s.withService x).slots = s.slots := by unfold State.withService; dsimp only; (repeat' split) <;> simp
@[simp] theorem State.withService_integ (s : State) (x : Service) : (s.withService x).integ = s.integ := by unfold State.withService; dsimp only; (repeat' split) <;> simp
@[simp] theorem State.withService_gauges (s : State) (x : Service) : (s.withService x).gauges = s.gauges := by unfold State.withService; dsimp only; (repeat' split) <;> simp
@[simp] theorem State.withService_trip (s : State) (x : Service) : (s.withService x).trip = s.trip := by unfold State.withService; dsimp only; (repeat' split) <;> simp
@[simp] theorem State.withService_faults (s : State) (x : Service) : (s.withService x).faults = s.faults := by unfold State.withService; dsimp only; (repeat' split) <;> simp
@[simp] theorem State.withService_hold (s : State) (x : Service) : (s.withService x).hold = s.hold := by unfold State.withService; dsimp only; (repeat' split) <;> simp
@[simp] theorem State.withService_store (s : State) (x : Service) : (s.withService x).store = s.store := by unfold State.withService; dsimp only; (repeat' split) <;> simp
@[simp] theorem State.withService_line (s : State) (x : Service) : (s.withService x).line = s.line := by unfold State.withService; dsimp only; (repeat' split) <;> simp
@[simp] theorem State.withService_key (s : State) (x : Service) : (s.withService x).key = s.key := by unfold State.withService; dsimp only; (repeat' split) <;> simp
@[simp] theorem State.withService_freeIndex (s : State) (x : Service) : (s.withService x).freeIndex = s.freeIndex := by unfold State.withService; dsimp only; (repeat' split) <;> simp
@[simp] theorem State.withService_pending (s : State) (x : Service) : (s.withService x).pending = s.pending := by unfold State.withService; dsimp only; (repeat' split) <;> simp

/-! ### `State.settleReset` -/
@[simp] theorem State.settleReset_now (s : State) (ok : Bool) : (s.settleReset ok).now = s.now := by unfold State.settleReset; (repeat' split) <;> simp
@[simp] theorem State.settleReset_image (s : State) (ok : Bool) : (s.settleReset ok).image = s.image := by unfold State.settleReset; (repeat' split) <;> simp
@[simp] theorem State.settleReset_slots (s : State) (ok : Bool) : (s.settleReset ok).slots = s.slots := by unfold State.settleReset; (repeat' split) <;> simp
@[simp] theorem State.settleReset_integ (s : State) (ok : Bool) : (s.settleReset ok).integ = s.integ := by unfold State.settleReset; (repeat' split) <;> simp
@[simp] theorem State.settleReset_gauges (s : State) (ok : Bool) : (s.settleReset ok).gauges = s.gauges := by unfold State.settleReset; (repeat' split) <;> simp
@[simp] theorem State.settleReset_trip (s : State) (ok : Bool) : (s.settleReset ok).trip = s.trip := by unfold State.settleReset; (repeat' split) <;> simp
@[simp] theorem State.settleReset_faults (s : State) (ok : Bool) : (s.settleReset ok).faults = s.faults := by unfold State.settleReset; (repeat' split) <;> simp
@[simp] theorem State.settleReset_store (s : State) (ok : Bool) : (s.settleReset ok).store = s.store := by unfold State.settleReset; (repeat' split) <;> simp
@[simp] theorem State.settleReset_key (s : State) (ok : Bool) : (s.settleReset ok).key = s.key := by unfold State.settleReset; (repeat' split) <;> simp
@[simp] theorem State.settleReset_freeIndex (s : State) (ok : Bool) : (s.settleReset ok).freeIndex = s.freeIndex := by unfold State.settleReset; (repeat' split) <;> simp
@[simp] theorem State.settleReset_pending (s : State) (ok : Bool) : (s.settleReset ok).pending = s.pending := by unfold State.settleReset; (repeat' split) <;> simp

/-! ### `State.withdrawReset` -/
@[simp] theorem State.withdrawReset_now (s : State) : (s.withdrawReset).now = s.now := by unfold State.withdrawReset; (repeat' split) <;> simp
@[simp] theorem State.withdrawReset_image (s : State) : (s.withdrawReset).image = s.image := by unfold State.withdrawReset; (repeat' split) <;> simp
@[simp] theorem State.withdrawReset_slots (s : State) : (s.withdrawReset).slots = s.slots := by unfold State.withdrawReset; (repeat' split) <;> simp
@[simp] theorem State.withdrawReset_integ (s : State) : (s.withdrawReset).integ = s.integ := by unfold State.withdrawReset; (repeat' split) <;> simp
@[simp] theorem State.withdrawReset_gauges (s : State) : (s.withdrawReset).gauges = s.gauges := by unfold State.withdrawReset; (repeat' split) <;> simp
@[simp] theorem State.withdrawReset_trip (s : State) : (s.withdrawReset).trip = s.trip := by unfold State.withdrawReset; (repeat' split) <;> simp
@[simp] theorem State.withdrawReset_monitor (s : State) : (s.withdrawReset).monitor = s.monitor := by unfold State.withdrawReset; (repeat' split) <;> simp
@[simp] theorem State.withdrawReset_faults (s : State) : (s.withdrawReset).faults = s.faults := by unfold State.withdrawReset; (repeat' split) <;> simp
@[simp] theorem State.withdrawReset_chime (s : State) : (s.withdrawReset).chime = s.chime := by unfold State.withdrawReset; (repeat' split) <;> simp
@[simp] theorem State.withdrawReset_display (s : State) : (s.withdrawReset).display = s.display := by unfold State.withdrawReset; (repeat' split) <;> simp
@[simp] theorem State.withdrawReset_hold (s : State) : (s.withdrawReset).hold = s.hold := by unfold State.withdrawReset; (repeat' split) <;> simp
@[simp] theorem State.withdrawReset_key (s : State) : (s.withdrawReset).key = s.key := by unfold State.withdrawReset; (repeat' split) <;> simp
@[simp] theorem State.withdrawReset_freeIndex (s : State) : (s.withdrawReset).freeIndex = s.freeIndex := by unfold State.withdrawReset; (repeat' split) <;> simp
@[simp] theorem State.withdrawReset_handed (s : State) : (s.withdrawReset).handed = s.handed := by unfold State.withdrawReset; (repeat' split) <;> simp
@[simp] theorem State.withdrawReset_pending (s : State) : (s.withdrawReset).pending = s.pending := by unfold State.withdrawReset; (repeat' split) <;> simp

/-! ### `State.withdrawConfig` -/
@[simp] theorem State.withdrawConfig_now (s : State) : (s.withdrawConfig).now = s.now := by
  unfold State.withdrawConfig
  rw [foldl_keeps (fun x : State => x.now)]
  intro a b; (repeat' split) <;> simp
@[simp] theorem State.withdrawConfig_image (s : State) : (s.withdrawConfig).image = s.image := by
  unfold State.withdrawConfig
  rw [foldl_keeps (fun x : State => x.image)]
  intro a b; (repeat' split) <;> simp
@[simp] theorem State.withdrawConfig_slots (s : State) : (s.withdrawConfig).slots = s.slots := by
  unfold State.withdrawConfig
  rw [foldl_keeps (fun x : State => x.slots)]
  intro a b; (repeat' split) <;> simp
@[simp] theorem State.withdrawConfig_integ (s : State) : (s.withdrawConfig).integ = s.integ := by
  unfold State.withdrawConfig
  rw [foldl_keeps (fun x : State => x.integ)]
  intro a b; (repeat' split) <;> simp
@[simp] theorem State.withdrawConfig_gauges (s : State) : (s.withdrawConfig).gauges = s.gauges := by
  unfold State.withdrawConfig
  rw [foldl_keeps (fun x : State => x.gauges)]
  intro a b; (repeat' split) <;> simp
@[simp] theorem State.withdrawConfig_trip (s : State) : (s.withdrawConfig).trip = s.trip := by
  unfold State.withdrawConfig
  rw [foldl_keeps (fun x : State => x.trip)]
  intro a b; (repeat' split) <;> simp
@[simp] theorem State.withdrawConfig_monitor (s : State) : (s.withdrawConfig).monitor = s.monitor := by
  unfold State.withdrawConfig
  rw [foldl_keeps (fun x : State => x.monitor)]
  intro a b; (repeat' split) <;> simp
@[simp] theorem State.withdrawConfig_faults (s : State) : (s.withdrawConfig).faults = s.faults := by
  unfold State.withdrawConfig
  rw [foldl_keeps (fun x : State => x.faults)]
  intro a b; (repeat' split) <;> simp
@[simp] theorem State.withdrawConfig_chime (s : State) : (s.withdrawConfig).chime = s.chime := by
  unfold State.withdrawConfig
  rw [foldl_keeps (fun x : State => x.chime)]
  intro a b; (repeat' split) <;> simp
@[simp] theorem State.withdrawConfig_display (s : State) : (s.withdrawConfig).display = s.display := by
  unfold State.withdrawConfig
  rw [foldl_keeps (fun x : State => x.display)]
  intro a b; (repeat' split) <;> simp
@[simp] theorem State.withdrawConfig_service (s : State) : (s.withdrawConfig).service = s.service := by
  unfold State.withdrawConfig
  rw [foldl_keeps (fun x : State => x.service)]
  intro a b; (repeat' split) <;> simp
@[simp] theorem State.withdrawConfig_hold (s : State) : (s.withdrawConfig).hold = s.hold := by
  unfold State.withdrawConfig
  rw [foldl_keeps (fun x : State => x.hold)]
  intro a b; (repeat' split) <;> simp
@[simp] theorem State.withdrawConfig_key (s : State) : (s.withdrawConfig).key = s.key := by
  unfold State.withdrawConfig
  rw [foldl_keeps (fun x : State => x.key)]
  intro a b; (repeat' split) <;> simp
@[simp] theorem State.withdrawConfig_freeIndex (s : State) : (s.withdrawConfig).freeIndex = s.freeIndex := by
  unfold State.withdrawConfig
  rw [foldl_keeps (fun x : State => x.freeIndex)]
  intro a b; (repeat' split) <;> simp
@[simp] theorem State.withdrawConfig_handed (s : State) : (s.withdrawConfig).handed = s.handed := by
  unfold State.withdrawConfig
  rw [foldl_keeps (fun x : State => x.handed)]
  intro a b; (repeat' split) <;> simp
@[simp] theorem State.withdrawConfig_pending (s : State) : (s.withdrawConfig).pending = s.pending := by
  unfold State.withdrawConfig
  rw [foldl_keeps (fun x : State => x.pending)]
  intro a b; (repeat' split) <;> simp

/-! ### `State.endHold` -/
@[simp] theorem State.endHold_now (s : State) : (s.endHold).now = s.now := by unfold State.endHold; (repeat' split) <;> simp
@[simp] theorem State.endHold_image (s : State) : (s.endHold).image = s.image := by unfold State.endHold; (repeat' split) <;> simp
@[simp] theorem State.endHold_slots (s : State) : (s.endHold).slots = s.slots := by unfold State.endHold; (repeat' split) <;> simp
@[simp] theorem State.endHold_integ (s : State) : (s.endHold).integ = s.integ := by unfold State.endHold; (repeat' split) <;> simp
@[simp] theorem State.endHold_gauges (s : State) : (s.endHold).gauges = s.gauges := by unfold State.endHold; (repeat' split) <;> simp
@[simp] theorem State.endHold_trip (s : State) : (s.endHold).trip = s.trip := by unfold State.endHold; (repeat' split) <;> simp
@[simp] theorem State.endHold_monitor (s : State) : (s.endHold).monitor = s.monitor := by unfold State.endHold; (repeat' split) <;> simp
@[simp] theorem State.endHold_faults (s : State) : (s.endHold).faults = s.faults := by unfold State.endHold; (repeat' split) <;> simp
@[simp] theorem State.endHold_chime (s : State) : (s.endHold).chime = s.chime := by unfold State.endHold; (repeat' split) <;> simp
@[simp] theorem State.endHold_display (s : State) : (s.endHold).display = s.display := by unfold State.endHold; (repeat' split) <;> simp
@[simp] theorem State.endHold_key (s : State) : (s.endHold).key = s.key := by unfold State.endHold; (repeat' split) <;> simp
@[simp] theorem State.endHold_freeIndex (s : State) : (s.endHold).freeIndex = s.freeIndex := by unfold State.endHold; (repeat' split) <;> simp
@[simp] theorem State.endHold_handed (s : State) : (s.endHold).handed = s.handed := by unfold State.endHold; (repeat' split) <;> simp
@[simp] theorem State.endHold_pending (s : State) : (s.endHold).pending = s.pending := by unfold State.endHold; (repeat' split) <;> simp

/-! ### `State.dropEnable` -/
@[simp] theorem State.dropEnable_now (s : State) : (s.dropEnable).now = s.now := by unfold State.dropEnable; (repeat' split) <;> simp
@[simp] theorem State.dropEnable_image (s : State) : (s.dropEnable).image = s.image := by unfold State.dropEnable; (repeat' split) <;> simp
@[simp] theorem State.dropEnable_slots (s : State) : (s.dropEnable).slots = s.slots := by unfold State.dropEnable; (repeat' split) <;> simp
@[simp] theorem State.dropEnable_integ (s : State) : (s.dropEnable).integ = s.integ := by unfold State.dropEnable; (repeat' split) <;> simp
@[simp] theorem State.dropEnable_gauges (s : State) : (s.dropEnable).gauges = s.gauges := by unfold State.dropEnable; (repeat' split) <;> simp
@[simp] theorem State.dropEnable_trip (s : State) : (s.dropEnable).trip = s.trip := by unfold State.dropEnable; (repeat' split) <;> simp
@[simp] theorem State.dropEnable_monitor (s : State) : (s.dropEnable).monitor = s.monitor := by unfold State.dropEnable; (repeat' split) <;> simp
@[simp] theorem State.dropEnable_faults (s : State) : (s.dropEnable).faults = s.faults := by unfold State.dropEnable; (repeat' split) <;> simp
@[simp] theorem State.dropEnable_chime (s : State) : (s.dropEnable).chime = s.chime := by unfold State.dropEnable; (repeat' split) <;> simp
@[simp] theorem State.dropEnable_display (s : State) : (s.dropEnable).display = s.display := by unfold State.dropEnable; (repeat' split) <;> simp
@[simp] theorem State.dropEnable_key (s : State) : (s.dropEnable).key = s.key := by unfold State.dropEnable; (repeat' split) <;> simp
@[simp] theorem State.dropEnable_freeIndex (s : State) : (s.dropEnable).freeIndex = s.freeIndex := by unfold State.dropEnable; (repeat' split) <;> simp
@[simp] theorem State.dropEnable_handed (s : State) : (s.dropEnable).handed = s.handed := by unfold State.dropEnable; (repeat' split) <;> simp
@[simp] theorem State.dropEnable_pending (s : State) : (s.dropEnable).pending = s.pending := by unfold State.dropEnable; (repeat' split) <;> simp

/-! ### `State.settleRead` -/
@[simp] theorem State.settleRead_now (s : State) (a : Station) (b : Byte) (c : Claim) (v : Option Word) : (s.settleRead a b c v).now = s.now := by unfold State.settleRead; dsimp only; (repeat' split) <;> simp
@[simp] theorem State.settleRead_image (s : State) (a : Station) (b : Byte) (c : Claim) (v : Option Word) : (s.settleRead a b c v).image = s.image := by unfold State.settleRead; dsimp only; (repeat' split) <;> simp
@[simp] theorem State.settleRead_slots (s : State) (a : Station) (b : Byte) (c : Claim) (v : Option Word) : (s.settleRead a b c v).slots = s.slots := by unfold State.settleRead; dsimp only; (repeat' split) <;> simp
@[simp] theorem State.settleRead_integ (s : State) (a : Station) (b : Byte) (c : Claim) (v : Option Word) : (s.settleRead a b c v).integ = s.integ := by unfold State.settleRead; dsimp only; (repeat' split) <;> simp
@[simp] theorem State.settleRead_gauges (s : State) (a : Station) (b : Byte) (c : Claim) (v : Option Word) : (s.settleRead a b c v).gauges = s.gauges := by unfold State.settleRead; dsimp only; (repeat' split) <;> simp
@[simp] theorem State.settleRead_trip (s : State) (a : Station) (b : Byte) (c : Claim) (v : Option Word) : (s.settleRead a b c v).trip = s.trip := by unfold State.settleRead; dsimp only; (repeat' split) <;> simp
@[simp] theorem State.settleRead_monitor (s : State) (a : Station) (b : Byte) (c : Claim) (v : Option Word) : (s.settleRead a b c v).monitor = s.monitor := by unfold State.settleRead; dsimp only; (repeat' split) <;> simp
@[simp] theorem State.settleRead_faults (s : State) (a : Station) (b : Byte) (c : Claim) (v : Option Word) : (s.settleRead a b c v).faults = s.faults := by unfold State.settleRead; dsimp only; (repeat' split) <;> simp
@[simp] theorem State.settleRead_chime (s : State) (a : Station) (b : Byte) (c : Claim) (v : Option Word) : (s.settleRead a b c v).chime = s.chime := by unfold State.settleRead; dsimp only; (repeat' split) <;> simp
@[simp] theorem State.settleRead_display (s : State) (a : Station) (b : Byte) (c : Claim) (v : Option Word) : (s.settleRead a b c v).display = s.display := by unfold State.settleRead; dsimp only; (repeat' split) <;> simp
@[simp] theorem State.settleRead_service (s : State) (a : Station) (b : Byte) (c : Claim) (v : Option Word) : (s.settleRead a b c v).service = s.service := by unfold State.settleRead; dsimp only; (repeat' split) <;> simp
@[simp] theorem State.settleRead_store (s : State) (a : Station) (b : Byte) (c : Claim) (v : Option Word) : (s.settleRead a b c v).store = s.store := by unfold State.settleRead; dsimp only; (repeat' split) <;> simp
@[simp] theorem State.settleRead_key (s : State) (a : Station) (b : Byte) (c : Claim) (v : Option Word) : (s.settleRead a b c v).key = s.key := by unfold State.settleRead; dsimp only; (repeat' split) <;> simp
@[simp] theorem State.settleRead_freeIndex (s : State) (a : Station) (b : Byte) (c : Claim) (v : Option Word) : (s.settleRead a b c v).freeIndex = s.freeIndex := by unfold State.settleRead; dsimp only; (repeat' split) <;> simp
@[simp] theorem State.settleRead_handed (s : State) (a : Station) (b : Byte) (c : Claim) (v : Option Word) : (s.settleRead a b c v).handed = s.handed := by unfold State.settleRead; dsimp only; (repeat' split) <;> simp
@[simp] theorem State.settleRead_pending (s : State) (a : Station) (b : Byte) (c : Claim) (v : Option Word) : (s.settleRead a b c v).pending = s.pending := by unfold State.settleRead; dsimp only; (repeat' split) <;> simp

/-! ### `State.beginDrain` -/
@[simp] theorem State.beginDrain_now (s : State) (w : RestartWait) : (s.beginDrain w).now = s.now := by
  unfold State.beginDrain
  dsimp only
  rw [foldl_keeps (fun x : State => x.now)]
  · (repeat' split) <;> simp
  · intro a b; (repeat' split) <;> simp
@[simp] theorem State.beginDrain_image (s : State) (w : RestartWait) : (s.beginDrain w).image = s.image := by
  unfold State.beginDrain
  dsimp only
  rw [foldl_keeps (fun x : State => x.image)]
  · (repeat' split) <;> simp
  · intro a b; (repeat' split) <;> simp
@[simp] theorem State.beginDrain_slots (s : State) (w : RestartWait) : (s.beginDrain w).slots = s.slots := by
  unfold State.beginDrain
  dsimp only
  rw [foldl_keeps (fun x : State => x.slots)]
  · (repeat' split) <;> simp
  · intro a b; (repeat' split) <;> simp
@[simp] theorem State.beginDrain_integ (s : State) (w : RestartWait) : (s.beginDrain w).integ = s.integ := by
  unfold State.beginDrain
  dsimp only
  rw [foldl_keeps (fun x : State => x.integ)]
  · (repeat' split) <;> simp
  · intro a b; (repeat' split) <;> simp
@[simp] theorem State.beginDrain_gauges (s : State) (w : RestartWait) : (s.beginDrain w).gauges = s.gauges := by
  unfold State.beginDrain
  dsimp only
  rw [foldl_keeps (fun x : State => x.gauges)]
  · (repeat' split) <;> simp
  · intro a b; (repeat' split) <;> simp
@[simp] theorem State.beginDrain_trip (s : State) (w : RestartWait) : (s.beginDrain w).trip = s.trip := by
  unfold State.beginDrain
  dsimp only
  rw [foldl_keeps (fun x : State => x.trip)]
  · (repeat' split) <;> simp
  · intro a b; (repeat' split) <;> simp
@[simp] theorem State.beginDrain_monitor (s : State) (w : RestartWait) : (s.beginDrain w).monitor = s.monitor := by
  unfold State.beginDrain
  dsimp only
  rw [foldl_keeps (fun x : State => x.monitor)]
  · (repeat' split) <;> simp
  · intro a b; (repeat' split) <;> simp
@[simp] theorem State.beginDrain_faults (s : State) (w : RestartWait) : (s.beginDrain w).faults = s.faults := by
  unfold State.beginDrain
  dsimp only
  rw [foldl_keeps (fun x : State => x.faults)]
  · (repeat' split) <;> simp
  · intro a b; (repeat' split) <;> simp
@[simp] theorem State.beginDrain_chime (s : State) (w : RestartWait) : (s.beginDrain w).chime = s.chime := by
  unfold State.beginDrain
  dsimp only
  rw [foldl_keeps (fun x : State => x.chime)]
  · (repeat' split) <;> simp
  · intro a b; (repeat' split) <;> simp
@[simp] theorem State.beginDrain_display (s : State) (w : RestartWait) : (s.beginDrain w).display = s.display := by
  unfold State.beginDrain
  dsimp only
  rw [foldl_keeps (fun x : State => x.display)]
  · (repeat' split) <;> simp
  · intro a b; (repeat' split) <;> simp
@[simp] theorem State.beginDrain_freeIndex (s : State) (w : RestartWait) : (s.beginDrain w).freeIndex = s.freeIndex := by
  unfold State.beginDrain
  dsimp only
  rw [foldl_keeps (fun x : State => x.freeIndex)]
  · (repeat' split) <;> simp
  · intro a b; (repeat' split) <;> simp
@[simp] theorem State.beginDrain_handed (s : State) (w : RestartWait) : (s.beginDrain w).handed = s.handed := by
  unfold State.beginDrain
  dsimp only
  rw [foldl_keeps (fun x : State => x.handed)]
  · (repeat' split) <;> simp
  · intro a b; (repeat' split) <;> simp
@[simp] theorem State.beginDrain_pending (s : State) (w : RestartWait) : (s.beginDrain w).pending = s.pending := by
  unfold State.beginDrain
  dsimp only
  rw [foldl_keeps (fun x : State => x.pending)]
  · (repeat' split) <;> simp
  · intro a b; (repeat' split) <;> simp

/-! ### `State.closeRestart` -/
@[simp] theorem State.closeRestart_now (s : State) (c v : Bool) : (s.closeRestart c v).now = s.now := by unfold State.closeRestart; dsimp only; (repeat' split) <;> simp
@[simp] theorem State.closeRestart_image (s : State) (c v : Bool) : (s.closeRestart c v).image = s.image := by unfold State.closeRestart; dsimp only; (repeat' split) <;> simp
@[simp] theorem State.closeRestart_slots (s : State) (c v : Bool) : (s.closeRestart c v).slots = s.slots := by unfold State.closeRestart; dsimp only; (repeat' split) <;> simp
@[simp] theorem State.closeRestart_integ (s : State) (c v : Bool) : (s.closeRestart c v).integ = s.integ := by unfold State.closeRestart; dsimp only; (repeat' split) <;> simp
@[simp] theorem State.closeRestart_gauges (s : State) (c v : Bool) : (s.closeRestart c v).gauges = s.gauges := by unfold State.closeRestart; dsimp only; (repeat' split) <;> simp
@[simp] theorem State.closeRestart_trip (s : State) (c v : Bool) : (s.closeRestart c v).trip = s.trip := by unfold State.closeRestart; dsimp only; (repeat' split) <;> simp
@[simp] theorem State.closeRestart_monitor (s : State) (c v : Bool) : (s.closeRestart c v).monitor = s.monitor := by unfold State.closeRestart; dsimp only; (repeat' split) <;> simp
@[simp] theorem State.closeRestart_faults (s : State) (c v : Bool) : (s.closeRestart c v).faults = s.faults := by unfold State.closeRestart; dsimp only; (repeat' split) <;> simp
@[simp] theorem State.closeRestart_chime (s : State) (c v : Bool) : (s.closeRestart c v).chime = s.chime := by unfold State.closeRestart; dsimp only; (repeat' split) <;> simp
@[simp] theorem State.closeRestart_display (s : State) (c v : Bool) : (s.closeRestart c v).display = s.display := by unfold State.closeRestart; dsimp only; (repeat' split) <;> simp
@[simp] theorem State.closeRestart_freeIndex (s : State) (c v : Bool) : (s.closeRestart c v).freeIndex = s.freeIndex := by unfold State.closeRestart; dsimp only; (repeat' split) <;> simp
@[simp] theorem State.closeRestart_handed (s : State) (c v : Bool) : (s.closeRestart c v).handed = s.handed := by unfold State.closeRestart; dsimp only; (repeat' split) <;> simp
@[simp] theorem State.closeRestart_pending (s : State) (c v : Bool) : (s.closeRestart c v).pending = s.pending := by unfold State.closeRestart; dsimp only; (repeat' split) <;> simp

/-! ### `State.recordOutcome` -/
@[simp] theorem State.recordOutcome_now (s : State) (r : StoreRequest) (ok : Bool) : (s.recordOutcome r ok).now = s.now := by unfold State.recordOutcome; dsimp only; (repeat' split) <;> simp
@[simp] theorem State.recordOutcome_image (s : State) (r : StoreRequest) (ok : Bool) : (s.recordOutcome r ok).image = s.image := by unfold State.recordOutcome; dsimp only; (repeat' split) <;> simp
@[simp] theorem State.recordOutcome_slots (s : State) (r : StoreRequest) (ok : Bool) : (s.recordOutcome r ok).slots = s.slots := by unfold State.recordOutcome; dsimp only; (repeat' split) <;> simp
@[simp] theorem State.recordOutcome_integ (s : State) (r : StoreRequest) (ok : Bool) : (s.recordOutcome r ok).integ = s.integ := by unfold State.recordOutcome; dsimp only; (repeat' split) <;> simp
@[simp] theorem State.recordOutcome_gauges (s : State) (r : StoreRequest) (ok : Bool) : (s.recordOutcome r ok).gauges = s.gauges := by unfold State.recordOutcome; dsimp only; (repeat' split) <;> simp
@[simp] theorem State.recordOutcome_trip (s : State) (r : StoreRequest) (ok : Bool) : (s.recordOutcome r ok).trip = s.trip := by unfold State.recordOutcome; dsimp only; (repeat' split) <;> simp
@[simp] theorem State.recordOutcome_faults (s : State) (r : StoreRequest) (ok : Bool) : (s.recordOutcome r ok).faults = s.faults := by unfold State.recordOutcome; dsimp only; (repeat' split) <;> simp
@[simp] theorem State.recordOutcome_freeIndex (s : State) (r : StoreRequest) (ok : Bool) : (s.recordOutcome r ok).freeIndex = s.freeIndex := by unfold State.recordOutcome; dsimp only; (repeat' split) <;> simp
@[simp] theorem State.recordOutcome_pending (s : State) (r : StoreRequest) (ok : Bool) : (s.recordOutcome r ok).pending = s.pending := by unfold State.recordOutcome; dsimp only; (repeat' split) <;> simp

/-! ### `State.requestFailed` -/
@[simp] theorem State.requestFailed_now (s : State) (r : StoreRequest) : (s.requestFailed r).now = s.now := by unfold State.requestFailed; split <;> simp
@[simp] theorem State.requestFailed_image (s : State) (r : StoreRequest) : (s.requestFailed r).image = s.image := by unfold State.requestFailed; split <;> simp
@[simp] theorem State.requestFailed_slots (s : State) (r : StoreRequest) : (s.requestFailed r).slots = s.slots := by unfold State.requestFailed; split <;> simp
@[simp] theorem State.requestFailed_integ (s : State) (r : StoreRequest) : (s.requestFailed r).integ = s.integ := by unfold State.requestFailed; split <;> simp
@[simp] theorem State.requestFailed_gauges (s : State) (r : StoreRequest) : (s.requestFailed r).gauges = s.gauges := by unfold State.requestFailed; split <;> simp
@[simp] theorem State.requestFailed_trip (s : State) (r : StoreRequest) : (s.requestFailed r).trip = s.trip := by unfold State.requestFailed; split <;> simp
@[simp] theorem State.requestFailed_faults (s : State) (r : StoreRequest) : (s.requestFailed r).faults = s.faults := by unfold State.requestFailed; split <;> simp
@[simp] theorem State.requestFailed_freeIndex (s : State) (r : StoreRequest) : (s.requestFailed r).freeIndex = s.freeIndex := by unfold State.requestFailed; split <;> simp
@[simp] theorem State.requestFailed_pending (s : State) (r : StoreRequest) : (s.requestFailed r).pending = s.pending := by unfold State.requestFailed; split <;> simp

/-! ### `State.failRing` -/
@[simp] theorem State.failRing_now (s : State) (r : Ring) : (s.failRing r).now = s.now := by
  unfold State.failRing
  dsimp only
  rw [foldl_keeps (fun x : State => x.now)]
  · simp
  · intro a b; simp
@[simp] theorem State.failRing_image (s : State) (r : Ring) : (s.failRing r).image = s.image := by
  unfold State.failRing
  dsimp only
  rw [foldl_keeps (fun x : State => x.image)]
  · simp
  · intro a b; simp
@[simp] theorem State.failRing_slots (s : State) (r : Ring) : (s.failRing r).slots = s.slots := by
  unfold State.failRing
  dsimp only
  rw [foldl_keeps (fun x : State => x.slots)]
  · simp
  · intro a b; simp
@[simp] theorem State.failRing_integ (s : State) (r : Ring) : (s.failRing r).integ = s.integ := by
  unfold State.failRing
  dsimp only
  rw [foldl_keeps (fun x : State => x.integ)]
  · simp
  · intro a b; simp
@[simp] theorem State.failRing_gauges (s : State) (r : Ring) : (s.failRing r).gauges = s.gauges := by
  unfold State.failRing
  dsimp only
  rw [foldl_keeps (fun x : State => x.gauges)]
  · simp
  · intro a b; simp
@[simp] theorem State.failRing_trip (s : State) (r : Ring) : (s.failRing r).trip = s.trip := by
  unfold State.failRing
  dsimp only
  rw [foldl_keeps (fun x : State => x.trip)]
  · simp
  · intro a b; simp
@[simp] theorem State.failRing_pending (s : State) (r : Ring) : (s.failRing r).pending = s.pending := by
  unfold State.failRing
  dsimp only
  rw [foldl_keeps (fun x : State => x.pending)]
  · simp
  · intro a b; simp

/-! ### `serveUpTo` -/
@[simp] theorem serveUpTo_now (n : Nat) (s : State) : (serveUpTo n s).now = s.now := by
  induction n generalizing s with
  | zero => rfl
  | succ n ih =>
    unfold serveUpTo
    split
    · rfl
    · split
      · dsimp only
        split
        · rfl
        · rw [ih]; split <;> simp
      · split <;> rfl
@[simp] theorem serveUpTo_image (n : Nat) (s : State) : (serveUpTo n s).image = s.image := by
  induction n generalizing s with
  | zero => rfl
  | succ n ih =>
    unfold serveUpTo
    split
    · rfl
    · split
      · dsimp only
        split
        · rfl
        · rw [ih]; split <;> simp
      · split <;> rfl
@[simp] theorem serveUpTo_slots (n : Nat) (s : State) : (serveUpTo n s).slots = s.slots := by
  induction n generalizing s with
  | zero => rfl
  | succ n ih =>
    unfold serveUpTo
    split
    · rfl
    · split
      · dsimp only
        split
        · rfl
        · rw [ih]; split <;> simp
      · split <;> rfl
@[simp] theorem serveUpTo_integ (n : Nat) (s : State) : (serveUpTo n s).integ = s.integ := by
  induction n generalizing s with
  | zero => rfl
  | succ n ih =>
    unfold serveUpTo
    split
    · rfl
    · split
      · dsimp only
        split
        · rfl
        · rw [ih]; split <;> simp
      · split <;> rfl
@[simp] theorem serveUpTo_gauges (n : Nat) (s : State) : (serveUpTo n s).gauges = s.gauges := by
  induction n generalizing s with
  | zero => rfl
  | succ n ih =>
    unfold serveUpTo
    split
    · rfl
    · split
      · dsimp only
        split
        · rfl
        · rw [ih]; split <;> simp
      · split <;> rfl
@[simp] theorem serveUpTo_trip (n : Nat) (s : State) : (serveUpTo n s).trip = s.trip := by
  induction n generalizing s with
  | zero => rfl
  | succ n ih =>
    unfold serveUpTo
    split
    · rfl
    · split
      · dsimp only
        split
        · rfl
        · rw [ih]; split <;> simp
      · split <;> rfl
@[simp] theorem serveUpTo_monitor (n : Nat) (s : State) : (serveUpTo n s).monitor = s.monitor := by
  induction n generalizing s with
  | zero => rfl
  | succ n ih =>
    unfold serveUpTo
    split
    · rfl
    · split
      · dsimp only
        split
        · rfl
        · rw [ih]; split <;> simp
      · split <;> rfl
@[simp] theorem serveUpTo_faults (n : Nat) (s : State) : (serveUpTo n s).faults = s.faults := by
  induction n generalizing s with
  | zero => rfl
  | succ n ih =>
    unfold serveUpTo
    split
    · rfl
    · split
      · dsimp only
        split
        · rfl
        · rw [ih]; split <;> simp
      · split <;> rfl
@[simp] theorem serveUpTo_chime (n : Nat) (s : State) : (serveUpTo n s).chime = s.chime := by
  induction n generalizing s with
  | zero => rfl
  | succ n ih =>
    unfold serveUpTo
    split
    · rfl
    · split
      · dsimp only
        split
        · rfl
        · rw [ih]; split <;> simp
      · split <;> rfl
@[simp] theorem serveUpTo_display (n : Nat) (s : State) : (serveUpTo n s).display = s.display := by
  induction n generalizing s with
  | zero => rfl
  | succ n ih =>
    unfold serveUpTo
    split
    · rfl
    · split
      · dsimp only
        split
        · rfl
        · rw [ih]; split <;> simp
      · split <;> rfl
@[simp] theorem serveUpTo_service (n : Nat) (s : State) : (serveUpTo n s).service = s.service := by
  induction n generalizing s with
  | zero => rfl
  | succ n ih =>
    unfold serveUpTo
    split
    · rfl
    · split
      · dsimp only
        split
        · rfl
        · rw [ih]; split <;> simp
      · split <;> rfl
@[simp] theorem serveUpTo_key (n : Nat) (s : State) : (serveUpTo n s).key = s.key := by
  induction n generalizing s with
  | zero => rfl
  | succ n ih =>
    unfold serveUpTo
    split
    · rfl
    · split
      · dsimp only
        split
        · rfl
        · rw [ih]; split <;> simp
      · split <;> rfl
@[simp] theorem serveUpTo_freeIndex (n : Nat) (s : State) : (serveUpTo n s).freeIndex = s.freeIndex := by
  induction n generalizing s with
  | zero => rfl
  | succ n ih =>
    unfold serveUpTo
    split
    · rfl
    · split
      · dsimp only
        split
        · rfl
        · rw [ih]; split <;> simp
      · split <;> rfl
@[simp] theorem serveUpTo_handed (n : Nat) (s : State) : (serveUpTo n s).handed = s.handed := by
  induction n generalizing s with
  | zero => rfl
  | succ n ih =>
    unfold serveUpTo
    split
    · rfl
    · split
      · dsimp only
        split
        · rfl
        · rw [ih]; split <;> simp
      · split <;> rfl
@[simp] theorem serveUpTo_pending (n : Nat) (s : State) : (serveUpTo n s).pending = s.pending := by
  induction n generalizing s with
  | zero => rfl
  | succ n ih =>
    unfold serveUpTo
    split
    · rfl
    · split
      · dsimp only
        split
        · rfl
        · rw [ih]; split <;> simp
      · split <;> rfl

/-! ### `State.serve` -/
@[simp] theorem State.serve_now (s : State) : (s.serve).now = s.now := serveUpTo_now _ s
@[simp] theorem State.serve_image (s : State) : (s.serve).image = s.image := serveUpTo_image _ s
@[simp] theorem State.serve_slots (s : State) : (s.serve).slots = s.slots := serveUpTo_slots _ s
@[simp] theorem State.serve_integ (s : State) : (s.serve).integ = s.integ := serveUpTo_integ _ s
@[simp] theorem State.serve_gauges (s : State) : (s.serve).gauges = s.gauges := serveUpTo_gauges _ s
@[simp] theorem State.serve_trip (s : State) : (s.serve).trip = s.trip := serveUpTo_trip _ s
@[simp] theorem State.serve_monitor (s : State) : (s.serve).monitor = s.monitor := serveUpTo_monitor _ s
@[simp] theorem State.serve_faults (s : State) : (s.serve).faults = s.faults := serveUpTo_faults _ s
@[simp] theorem State.serve_chime (s : State) : (s.serve).chime = s.chime := serveUpTo_chime _ s
@[simp] theorem State.serve_display (s : State) : (s.serve).display = s.display := serveUpTo_display _ s
@[simp] theorem State.serve_service (s : State) : (s.serve).service = s.service := serveUpTo_service _ s
@[simp] theorem State.serve_key (s : State) : (s.serve).key = s.key := serveUpTo_key _ s
@[simp] theorem State.serve_freeIndex (s : State) : (s.serve).freeIndex = s.freeIndex := serveUpTo_freeIndex _ s
@[simp] theorem State.serve_handed (s : State) : (s.serve).handed = s.handed := serveUpTo_handed _ s
@[simp] theorem State.serve_pending (s : State) : (s.serve).pending = s.pending := serveUpTo_pending _ s

/-! ### `State.arrive` -/
@[simp] theorem State.arrive_now (s : State) (b : BlockId) : (s.arrive b).now = s.now := by simp [State.arrive]
@[simp] theorem State.arrive_image (s : State) (b : BlockId) : (s.arrive b).image = s.image := by simp [State.arrive]
@[simp] theorem State.arrive_slots (s : State) (b : BlockId) : (s.arrive b).slots = s.slots := by simp [State.arrive]
@[simp] theorem State.arrive_integ (s : State) (b : BlockId) : (s.arrive b).integ = s.integ := by simp [State.arrive]
@[simp] theorem State.arrive_gauges (s : State) (b : BlockId) : (s.arrive b).gauges = s.gauges := by simp [State.arrive]
@[simp] theorem State.arrive_trip (s : State) (b : BlockId) : (s.arrive b).trip = s.trip := by simp [State.arrive]
@[simp] theorem State.arrive_monitor (s : State) (b : BlockId) : (s.arrive b).monitor = s.monitor := by simp [State.arrive]
@[simp] theorem State.arrive_faults (s : State) (b : BlockId) : (s.arrive b).faults = s.faults := by simp [State.arrive]
@[simp] theorem State.arrive_chime (s : State) (b : BlockId) : (s.arrive b).chime = s.chime := by simp [State.arrive]
@[simp] theorem State.arrive_display (s : State) (b : BlockId) : (s.arrive b).display = s.display := by simp [State.arrive]
@[simp] theorem State.arrive_service (s : State) (b : BlockId) : (s.arrive b).service = s.service := by simp [State.arrive]
@[simp] theorem State.arrive_key (s : State) (b : BlockId) : (s.arrive b).key = s.key := by simp [State.arrive]
@[simp] theorem State.arrive_freeIndex (s : State) (b : BlockId) : (s.arrive b).freeIndex = s.freeIndex := by simp [State.arrive]
@[simp] theorem State.arrive_handed (s : State) (b : BlockId) : (s.arrive b).handed = s.handed := by simp [State.arrive]
@[simp] theorem State.arrive_pending (s : State) (b : BlockId) : (s.arrive b).pending = s.pending := by simp [State.arrive]

/-! ### `State.requestCommit` -/
@[simp] theorem State.requestCommit_now (s : State) (u r : Bool) : (s.requestCommit u r).now = s.now := by unfold State.requestCommit; (repeat' split) <;> simp
@[simp] theorem State.requestCommit_image (s : State) (u r : Bool) : (s.requestCommit u r).image = s.image := by unfold State.requestCommit; (repeat' split) <;> simp
@[simp] theorem State.requestCommit_slots (s : State) (u r : Bool) : (s.requestCommit u r).slots = s.slots := by unfold State.requestCommit; (repeat' split) <;> simp
@[simp] theorem State.requestCommit_integ (s : State) (u r : Bool) : (s.requestCommit u r).integ = s.integ := by unfold State.requestCommit; (repeat' split) <;> simp
@[simp] theorem State.requestCommit_gauges (s : State) (u r : Bool) : (s.requestCommit u r).gauges = s.gauges := by unfold State.requestCommit; (repeat' split) <;> simp
@[simp] theorem State.requestCommit_trip (s : State) (u r : Bool) : (s.requestCommit u r).trip = s.trip := by unfold State.requestCommit; (repeat' split) <;> simp
@[simp] theorem State.requestCommit_monitor (s : State) (u r : Bool) : (s.requestCommit u r).monitor = s.monitor := by unfold State.requestCommit; (repeat' split) <;> simp
@[simp] theorem State.requestCommit_faults (s : State) (u r : Bool) : (s.requestCommit u r).faults = s.faults := by unfold State.requestCommit; (repeat' split) <;> simp
@[simp] theorem State.requestCommit_chime (s : State) (u r : Bool) : (s.requestCommit u r).chime = s.chime := by unfold State.requestCommit; (repeat' split) <;> simp
@[simp] theorem State.requestCommit_display (s : State) (u r : Bool) : (s.requestCommit u r).display = s.display := by unfold State.requestCommit; (repeat' split) <;> simp
@[simp] theorem State.requestCommit_freeIndex (s : State) (u r : Bool) : (s.requestCommit u r).freeIndex = s.freeIndex := by unfold State.requestCommit; (repeat' split) <;> simp
@[simp] theorem State.requestCommit_handed (s : State) (u r : Bool) : (s.requestCommit u r).handed = s.handed := by unfold State.requestCommit; (repeat' split) <;> simp
@[simp] theorem State.requestCommit_pending (s : State) (u r : Bool) : (s.requestCommit u r).pending = s.pending := by unfold State.requestCommit; (repeat' split) <;> simp

/-! ### `State.requestSave` -/
@[simp] theorem State.requestSave_now (s : State) (k x r : Bool) : (s.requestSave k x r).now = s.now := by unfold State.requestSave; (repeat' split) <;> simp
@[simp] theorem State.requestSave_image (s : State) (k x r : Bool) : (s.requestSave k x r).image = s.image := by unfold State.requestSave; (repeat' split) <;> simp
@[simp] theorem State.requestSave_slots (s : State) (k x r : Bool) : (s.requestSave k x r).slots = s.slots := by unfold State.requestSave; (repeat' split) <;> simp
@[simp] theorem State.requestSave_integ (s : State) (k x r : Bool) : (s.requestSave k x r).integ = s.integ := by unfold State.requestSave; (repeat' split) <;> simp
@[simp] theorem State.requestSave_gauges (s : State) (k x r : Bool) : (s.requestSave k x r).gauges = s.gauges := by unfold State.requestSave; (repeat' split) <;> simp
@[simp] theorem State.requestSave_trip (s : State) (k x r : Bool) : (s.requestSave k x r).trip = s.trip := by unfold State.requestSave; (repeat' split) <;> simp
@[simp] theorem State.requestSave_faults (s : State) (k x r : Bool) : (s.requestSave k x r).faults = s.faults := by unfold State.requestSave; (repeat' split) <;> simp
@[simp] theorem State.requestSave_freeIndex (s : State) (k x r : Bool) : (s.requestSave k x r).freeIndex = s.freeIndex := by unfold State.requestSave; (repeat' split) <;> simp
@[simp] theorem State.requestSave_pending (s : State) (k x r : Bool) : (s.requestSave k x r).pending = s.pending := by unfold State.requestSave; (repeat' split) <;> simp

/-! ### `State.keyOffSave` -/
@[simp] theorem State.keyOffSave_now (s : State) (r : Bool) : (s.keyOffSave r).now = s.now := by unfold State.keyOffSave; cases r <;> simp
@[simp] theorem State.keyOffSave_image (s : State) (r : Bool) : (s.keyOffSave r).image = s.image := by unfold State.keyOffSave; cases r <;> simp
@[simp] theorem State.keyOffSave_slots (s : State) (r : Bool) : (s.keyOffSave r).slots = s.slots := by unfold State.keyOffSave; cases r <;> simp
@[simp] theorem State.keyOffSave_integ (s : State) (r : Bool) : (s.keyOffSave r).integ = s.integ := by unfold State.keyOffSave; cases r <;> simp
@[simp] theorem State.keyOffSave_gauges (s : State) (r : Bool) : (s.keyOffSave r).gauges = s.gauges := by unfold State.keyOffSave; cases r <;> simp
@[simp] theorem State.keyOffSave_trip (s : State) (r : Bool) : (s.keyOffSave r).trip = s.trip := by unfold State.keyOffSave; cases r <;> simp
@[simp] theorem State.keyOffSave_monitor (s : State) (r : Bool) : (s.keyOffSave r).monitor = s.monitor := by unfold State.keyOffSave; cases r <;> simp
@[simp] theorem State.keyOffSave_faults (s : State) (r : Bool) : (s.keyOffSave r).faults = s.faults := by unfold State.keyOffSave; cases r <;> simp
@[simp] theorem State.keyOffSave_chime (s : State) (r : Bool) : (s.keyOffSave r).chime = s.chime := by unfold State.keyOffSave; cases r <;> simp
@[simp] theorem State.keyOffSave_display (s : State) (r : Bool) : (s.keyOffSave r).display = s.display := by unfold State.keyOffSave; cases r <;> simp
@[simp] theorem State.keyOffSave_freeIndex (s : State) (r : Bool) : (s.keyOffSave r).freeIndex = s.freeIndex := by unfold State.keyOffSave; cases r <;> simp
@[simp] theorem State.keyOffSave_handed (s : State) (r : Bool) : (s.keyOffSave r).handed = s.handed := by unfold State.keyOffSave; cases r <;> simp
@[simp] theorem State.keyOffSave_pending (s : State) (r : Bool) : (s.keyOffSave r).pending = s.pending := by unfold State.keyOffSave; cases r <;> simp

/-! ### `State.verifyFailed` -/
@[simp] theorem State.verifyFailed_now (s : State) (r : Ring) (q : StoreRequest) (a : Bool) : (s.verifyFailed r q a).now = s.now := by unfold State.verifyFailed; dsimp only; (repeat' split) <;> simp
@[simp] theorem State.verifyFailed_image (s : State) (r : Ring) (q : StoreRequest) (a : Bool) : (s.verifyFailed r q a).image = s.image := by unfold State.verifyFailed; dsimp only; (repeat' split) <;> simp
@[simp] theorem State.verifyFailed_slots (s : State) (r : Ring) (q : StoreRequest) (a : Bool) : (s.verifyFailed r q a).slots = s.slots := by unfold State.verifyFailed; dsimp only; (repeat' split) <;> simp
@[simp] theorem State.verifyFailed_integ (s : State) (r : Ring) (q : StoreRequest) (a : Bool) : (s.verifyFailed r q a).integ = s.integ := by unfold State.verifyFailed; dsimp only; (repeat' split) <;> simp
@[simp] theorem State.verifyFailed_gauges (s : State) (r : Ring) (q : StoreRequest) (a : Bool) : (s.verifyFailed r q a).gauges = s.gauges := by unfold State.verifyFailed; dsimp only; (repeat' split) <;> simp
@[simp] theorem State.verifyFailed_trip (s : State) (r : Ring) (q : StoreRequest) (a : Bool) : (s.verifyFailed r q a).trip = s.trip := by unfold State.verifyFailed; dsimp only; (repeat' split) <;> simp
@[simp] theorem State.verifyFailed_pending (s : State) (r : Ring) (q : StoreRequest) (a : Bool) : (s.verifyFailed r q a).pending = s.pending := by unfold State.verifyFailed; dsimp only; (repeat' split) <;> simp

/-! ### `State.supplyFailing` -/
@[simp] theorem State.supplyFailing_now (s : State) : (s.supplyFailing).now = s.now := by unfold State.supplyFailing; dsimp only; (repeat' split) <;> simp
@[simp] theorem State.supplyFailing_image (s : State) : (s.supplyFailing).image = s.image := by unfold State.supplyFailing; dsimp only; (repeat' split) <;> simp
@[simp] theorem State.supplyFailing_slots (s : State) : (s.supplyFailing).slots = s.slots := by unfold State.supplyFailing; dsimp only; (repeat' split) <;> simp
@[simp] theorem State.supplyFailing_integ (s : State) : (s.supplyFailing).integ = s.integ := by unfold State.supplyFailing; dsimp only; (repeat' split) <;> simp
@[simp] theorem State.supplyFailing_gauges (s : State) : (s.supplyFailing).gauges = s.gauges := by unfold State.supplyFailing; dsimp only; (repeat' split) <;> simp
@[simp] theorem State.supplyFailing_trip (s : State) : (s.supplyFailing).trip = s.trip := by unfold State.supplyFailing; dsimp only; (repeat' split) <;> simp
@[simp] theorem State.supplyFailing_monitor (s : State) : (s.supplyFailing).monitor = s.monitor := by unfold State.supplyFailing; dsimp only; (repeat' split) <;> simp
@[simp] theorem State.supplyFailing_faults (s : State) : (s.supplyFailing).faults = s.faults := by unfold State.supplyFailing; dsimp only; (repeat' split) <;> simp
@[simp] theorem State.supplyFailing_chime (s : State) : (s.supplyFailing).chime = s.chime := by unfold State.supplyFailing; dsimp only; (repeat' split) <;> simp
@[simp] theorem State.supplyFailing_display (s : State) : (s.supplyFailing).display = s.display := by unfold State.supplyFailing; dsimp only; (repeat' split) <;> simp
@[simp] theorem State.supplyFailing_service (s : State) : (s.supplyFailing).service = s.service := by unfold State.supplyFailing; dsimp only; (repeat' split) <;> simp
@[simp] theorem State.supplyFailing_key (s : State) : (s.supplyFailing).key = s.key := by unfold State.supplyFailing; dsimp only; (repeat' split) <;> simp
@[simp] theorem State.supplyFailing_freeIndex (s : State) : (s.supplyFailing).freeIndex = s.freeIndex := by unfold State.supplyFailing; dsimp only; (repeat' split) <;> simp
@[simp] theorem State.supplyFailing_handed (s : State) : (s.supplyFailing).handed = s.handed := by unfold State.supplyFailing; dsimp only; (repeat' split) <;> simp
@[simp] theorem State.supplyFailing_pending (s : State) : (s.supplyFailing).pending = s.pending := by unfold State.supplyFailing; dsimp only; (repeat' split) <;> simp

/-! ### `State.sleep` -/
@[simp] theorem State.sleep_now (s : State) : (s.sleep).now = s.now := by unfold State.sleep; dsimp only
@[simp] theorem State.sleep_image (s : State) : (s.sleep).image = s.image := by unfold State.sleep; dsimp only
@[simp] theorem State.sleep_faults (s : State) : (s.sleep).faults = s.faults := by unfold State.sleep; dsimp only
@[simp] theorem State.sleep_hold (s : State) : (s.sleep).hold = s.hold := by unfold State.sleep; dsimp only
@[simp] theorem State.sleep_store (s : State) : (s.sleep).store = s.store := by unfold State.sleep; dsimp only
@[simp] theorem State.sleep_freeIndex (s : State) : (s.sleep).freeIndex = s.freeIndex := by unfold State.sleep; dsimp only
@[simp] theorem State.sleep_handed (s : State) : (s.sleep).handed = s.handed := by unfold State.sleep; dsimp only
@[simp] theorem State.sleep_pending (s : State) : (s.sleep).pending = s.pending := by unfold State.sleep; dsimp only

/-! ### `State.wake` -/
@[simp] theorem State.wake_now (s : State) : (s.wake).now = s.now := by unfold State.wake; dsimp only
@[simp] theorem State.wake_image (s : State) : (s.wake).image = s.image := by unfold State.wake; dsimp only
@[simp] theorem State.wake_slots (s : State) : (s.wake).slots = s.slots := by unfold State.wake; dsimp only
@[simp] theorem State.wake_trip (s : State) : (s.wake).trip = s.trip := by unfold State.wake; dsimp only
@[simp] theorem State.wake_faults (s : State) : (s.wake).faults = s.faults := by unfold State.wake; dsimp only
@[simp] theorem State.wake_chime (s : State) : (s.wake).chime = s.chime := by unfold State.wake; dsimp only
@[simp] theorem State.wake_service (s : State) : (s.wake).service = s.service := by unfold State.wake; dsimp only
@[simp] theorem State.wake_hold (s : State) : (s.wake).hold = s.hold := by unfold State.wake; dsimp only
@[simp] theorem State.wake_store (s : State) : (s.wake).store = s.store := by unfold State.wake; dsimp only
@[simp] theorem State.wake_freeIndex (s : State) : (s.wake).freeIndex = s.freeIndex := by unfold State.wake; dsimp only
@[simp] theorem State.wake_handed (s : State) : (s.wake).handed = s.handed := by unfold State.wake; dsimp only
@[simp] theorem State.wake_pending (s : State) : (s.wake).pending = s.pending := by unfold State.wake; dsimp only

/-! ### `State.refreshRange` -/
@[simp] theorem State.refreshRange_now (s : State) : (s.refreshRange).now = s.now := by unfold State.refreshRange; dsimp only; (repeat' split) <;> simp
@[simp] theorem State.refreshRange_image (s : State) : (s.refreshRange).image = s.image := by unfold State.refreshRange; dsimp only; (repeat' split) <;> simp
@[simp] theorem State.refreshRange_slots (s : State) : (s.refreshRange).slots = s.slots := by unfold State.refreshRange; dsimp only; (repeat' split) <;> simp
@[simp] theorem State.refreshRange_integ (s : State) : (s.refreshRange).integ = s.integ := by unfold State.refreshRange; dsimp only; (repeat' split) <;> simp
@[simp] theorem State.refreshRange_gauges (s : State) : (s.refreshRange).gauges = s.gauges := by unfold State.refreshRange; dsimp only; (repeat' split) <;> simp
@[simp] theorem State.refreshRange_faults (s : State) : (s.refreshRange).faults = s.faults := by unfold State.refreshRange; dsimp only; (repeat' split) <;> simp
@[simp] theorem State.refreshRange_service (s : State) : (s.refreshRange).service = s.service := by unfold State.refreshRange; dsimp only; (repeat' split) <;> simp
@[simp] theorem State.refreshRange_hold (s : State) : (s.refreshRange).hold = s.hold := by unfold State.refreshRange; dsimp only; (repeat' split) <;> simp
@[simp] theorem State.refreshRange_store (s : State) : (s.refreshRange).store = s.store := by unfold State.refreshRange; dsimp only; (repeat' split) <;> simp
@[simp] theorem State.refreshRange_line (s : State) : (s.refreshRange).line = s.line := by unfold State.refreshRange; dsimp only; (repeat' split) <;> simp
@[simp] theorem State.refreshRange_key (s : State) : (s.refreshRange).key = s.key := by unfold State.refreshRange; dsimp only; (repeat' split) <;> simp
@[simp] theorem State.refreshRange_freeIndex (s : State) : (s.refreshRange).freeIndex = s.freeIndex := by unfold State.refreshRange; dsimp only; (repeat' split) <;> simp
@[simp] theorem State.refreshRange_pending (s : State) : (s.refreshRange).pending = s.pending := by unfold State.refreshRange; dsimp only; (repeat' split) <;> simp

/-! ### `State.setSpeed` -/
@[simp] theorem State.setSpeed_now (s : State) (v : Option Nat) : (s.setSpeed v).now = s.now := by unfold State.setSpeed; dsimp only; (repeat' split) <;> simp
@[simp] theorem State.setSpeed_image (s : State) (v : Option Nat) : (s.setSpeed v).image = s.image := by unfold State.setSpeed; dsimp only; (repeat' split) <;> simp
@[simp] theorem State.setSpeed_slots (s : State) (v : Option Nat) : (s.setSpeed v).slots = s.slots := by unfold State.setSpeed; dsimp only; (repeat' split) <;> simp
@[simp] theorem State.setSpeed_gauges (s : State) (v : Option Nat) : (s.setSpeed v).gauges = s.gauges := by unfold State.setSpeed; dsimp only; (repeat' split) <;> simp
@[simp] theorem State.setSpeed_trip (s : State) (v : Option Nat) : (s.setSpeed v).trip = s.trip := by unfold State.setSpeed; dsimp only; (repeat' split) <;> simp
@[simp] theorem State.setSpeed_faults (s : State) (v : Option Nat) : (s.setSpeed v).faults = s.faults := by unfold State.setSpeed; dsimp only; (repeat' split) <;> simp
@[simp] theorem State.setSpeed_service (s : State) (v : Option Nat) : (s.setSpeed v).service = s.service := by unfold State.setSpeed; dsimp only; (repeat' split) <;> simp
@[simp] theorem State.setSpeed_hold (s : State) (v : Option Nat) : (s.setSpeed v).hold = s.hold := by unfold State.setSpeed; dsimp only; (repeat' split) <;> simp
@[simp] theorem State.setSpeed_store (s : State) (v : Option Nat) : (s.setSpeed v).store = s.store := by unfold State.setSpeed; dsimp only; (repeat' split) <;> simp
@[simp] theorem State.setSpeed_line (s : State) (v : Option Nat) : (s.setSpeed v).line = s.line := by unfold State.setSpeed; dsimp only; (repeat' split) <;> simp
@[simp] theorem State.setSpeed_key (s : State) (v : Option Nat) : (s.setSpeed v).key = s.key := by unfold State.setSpeed; dsimp only; (repeat' split) <;> simp
@[simp] theorem State.setSpeed_freeIndex (s : State) (v : Option Nat) : (s.setSpeed v).freeIndex = s.freeIndex := by unfold State.setSpeed; dsimp only; (repeat' split) <;> simp
@[simp] theorem State.setSpeed_pending (s : State) (v : Option Nat) : (s.setSpeed v).pending = s.pending := by unfold State.setSpeed; dsimp only; (repeat' split) <;> simp

/-! ### `State.setVolume` -/
@[simp] theorem State.setVolume_now (s : State) (v : Option Nat) : (s.setVolume v).now = s.now := by unfold State.setVolume; dsimp only; (repeat' split) <;> simp
@[simp] theorem State.setVolume_image (s : State) (v : Option Nat) : (s.setVolume v).image = s.image := by unfold State.setVolume; dsimp only; (repeat' split) <;> simp
@[simp] theorem State.setVolume_slots (s : State) (v : Option Nat) : (s.setVolume v).slots = s.slots := by unfold State.setVolume; dsimp only; (repeat' split) <;> simp
@[simp] theorem State.setVolume_gauges (s : State) (v : Option Nat) : (s.setVolume v).gauges = s.gauges := by unfold State.setVolume; dsimp only; (repeat' split) <;> simp
@[simp] theorem State.setVolume_faults (s : State) (v : Option Nat) : (s.setVolume v).faults = s.faults := by unfold State.setVolume; dsimp only; (repeat' split) <;> simp
@[simp] theorem State.setVolume_service (s : State) (v : Option Nat) : (s.setVolume v).service = s.service := by unfold State.setVolume; dsimp only; (repeat' split) <;> simp
@[simp] theorem State.setVolume_hold (s : State) (v : Option Nat) : (s.setVolume v).hold = s.hold := by unfold State.setVolume; dsimp only; (repeat' split) <;> simp
@[simp] theorem State.setVolume_store (s : State) (v : Option Nat) : (s.setVolume v).store = s.store := by unfold State.setVolume; dsimp only; (repeat' split) <;> simp
@[simp] theorem State.setVolume_line (s : State) (v : Option Nat) : (s.setVolume v).line = s.line := by unfold State.setVolume; dsimp only; (repeat' split) <;> simp
@[simp] theorem State.setVolume_key (s : State) (v : Option Nat) : (s.setVolume v).key = s.key := by unfold State.setVolume; dsimp only; (repeat' split) <;> simp
@[simp] theorem State.setVolume_freeIndex (s : State) (v : Option Nat) : (s.setVolume v).freeIndex = s.freeIndex := by unfold State.setVolume; dsimp only; (repeat' split) <;> simp
@[simp] theorem State.setVolume_pending (s : State) (v : Option Nat) : (s.setVolume v).pending = s.pending := by unfold State.setVolume; dsimp only; (repeat' split) <;> simp

/-! ### `State.distanceGone` -/
@[simp] theorem State.distanceGone_now (s : State) : (s.distanceGone).now = s.now := by simp [State.distanceGone]
@[simp] theorem State.distanceGone_image (s : State) : (s.distanceGone).image = s.image := by simp [State.distanceGone]
@[simp] theorem State.distanceGone_slots (s : State) : (s.distanceGone).slots = s.slots := by simp [State.distanceGone]
@[simp] theorem State.distanceGone_gauges (s : State) : (s.distanceGone).gauges = s.gauges := by simp [State.distanceGone]
@[simp] theorem State.distanceGone_trip (s : State) : (s.distanceGone).trip = s.trip := by simp [State.distanceGone]
@[simp] theorem State.distanceGone_faults (s : State) : (s.distanceGone).faults = s.faults := by simp [State.distanceGone]
@[simp] theorem State.distanceGone_service (s : State) : (s.distanceGone).service = s.service := by simp [State.distanceGone]
@[simp] theorem State.distanceGone_hold (s : State) : (s.distanceGone).hold = s.hold := by simp [State.distanceGone]
@[simp] theorem State.distanceGone_store (s : State) : (s.distanceGone).store = s.store := by simp [State.distanceGone]
@[simp] theorem State.distanceGone_line (s : State) : (s.distanceGone).line = s.line := by simp [State.distanceGone]
@[simp] theorem State.distanceGone_key (s : State) : (s.distanceGone).key = s.key := by simp [State.distanceGone]
@[simp] theorem State.distanceGone_freeIndex (s : State) : (s.distanceGone).freeIndex = s.freeIndex := by simp [State.distanceGone]
@[simp] theorem State.distanceGone_pending (s : State) : (s.distanceGone).pending = s.pending := by simp [State.distanceGone]

/-! ### `State.mirrorRange` -/
@[simp] theorem State.mirrorRange_now (s : State) (b : Option Nat) : (s.mirrorRange b).now = s.now := by unfold State.mirrorRange; (repeat' split) <;> simp
@[simp] theorem State.mirrorRange_image (s : State) (b : Option Nat) : (s.mirrorRange b).image = s.image := by unfold State.mirrorRange; (repeat' split) <;> simp
@[simp] theorem State.mirrorRange_slots (s : State) (b : Option Nat) : (s.mirrorRange b).slots = s.slots := by unfold State.mirrorRange; (repeat' split) <;> simp
@[simp] theorem State.mirrorRange_integ (s : State) (b : Option Nat) : (s.mirrorRange b).integ = s.integ := by unfold State.mirrorRange; (repeat' split) <;> simp
@[simp] theorem State.mirrorRange_gauges (s : State) (b : Option Nat) : (s.mirrorRange b).gauges = s.gauges := by unfold State.mirrorRange; (repeat' split) <;> simp
@[simp] theorem State.mirrorRange_trip (s : State) (b : Option Nat) : (s.mirrorRange b).trip = s.trip := by unfold State.mirrorRange; (repeat' split) <;> simp
@[simp] theorem State.mirrorRange_faults (s : State) (b : Option Nat) : (s.mirrorRange b).faults = s.faults := by unfold State.mirrorRange; (repeat' split) <;> simp
@[simp] theorem State.mirrorRange_service (s : State) (b : Option Nat) : (s.mirrorRange b).service = s.service := by unfold State.mirrorRange; (repeat' split) <;> simp
@[simp] theorem State.mirrorRange_hold (s : State) (b : Option Nat) : (s.mirrorRange b).hold = s.hold := by unfold State.mirrorRange; (repeat' split) <;> simp
@[simp] theorem State.mirrorRange_store (s : State) (b : Option Nat) : (s.mirrorRange b).store = s.store := by unfold State.mirrorRange; (repeat' split) <;> simp
@[simp] theorem State.mirrorRange_line (s : State) (b : Option Nat) : (s.mirrorRange b).line = s.line := by unfold State.mirrorRange; (repeat' split) <;> simp
@[simp] theorem State.mirrorRange_key (s : State) (b : Option Nat) : (s.mirrorRange b).key = s.key := by unfold State.mirrorRange; (repeat' split) <;> simp
@[simp] theorem State.mirrorRange_freeIndex (s : State) (b : Option Nat) : (s.mirrorRange b).freeIndex = s.freeIndex := by unfold State.mirrorRange; (repeat' split) <;> simp
@[simp] theorem State.mirrorRange_pending (s : State) (b : Option Nat) : (s.mirrorRange b).pending = s.pending := by unfold State.mirrorRange; (repeat' split) <;> simp

/-! ### `State.consumeLoss` -/
@[simp] theorem State.consumeLoss_now (s : State) (b : Option Nat) (i : SlotId) : (State.consumeLoss b s i).now = s.now := by unfold State.consumeLoss; (repeat' split) <;> simp
@[simp] theorem State.consumeLoss_image (s : State) (b : Option Nat) (i : SlotId) : (State.consumeLoss b s i).image = s.image := by unfold State.consumeLoss; (repeat' split) <;> simp
@[simp] theorem State.consumeLoss_slots (s : State) (b : Option Nat) (i : SlotId) : (State.consumeLoss b s i).slots = s.slots := by unfold State.consumeLoss; (repeat' split) <;> simp
@[simp] theorem State.consumeLoss_gauges (s : State) (b : Option Nat) (i : SlotId) : (State.consumeLoss b s i).gauges = s.gauges := by unfold State.consumeLoss; (repeat' split) <;> simp
@[simp] theorem State.consumeLoss_trip (s : State) (b : Option Nat) (i : SlotId) : (State.consumeLoss b s i).trip = s.trip := by unfold State.consumeLoss; (repeat' split) <;> simp
@[simp] theorem State.consumeLoss_faults (s : State) (b : Option Nat) (i : SlotId) : (State.consumeLoss b s i).faults = s.faults := by unfold State.consumeLoss; (repeat' split) <;> simp
@[simp] theorem State.consumeLoss_service (s : State) (b : Option Nat) (i : SlotId) : (State.consumeLoss b s i).service = s.service := by unfold State.consumeLoss; (repeat' split) <;> simp
@[simp] theorem State.consumeLoss_hold (s : State) (b : Option Nat) (i : SlotId) : (State.consumeLoss b s i).hold = s.hold := by unfold State.consumeLoss; (repeat' split) <;> simp
@[simp] theorem State.consumeLoss_store (s : State) (b : Option Nat) (i : SlotId) : (State.consumeLoss b s i).store = s.store := by unfold State.consumeLoss; (repeat' split) <;> simp
@[simp] theorem State.consumeLoss_line (s : State) (b : Option Nat) (i : SlotId) : (State.consumeLoss b s i).line = s.line := by unfold State.consumeLoss; (repeat' split) <;> simp
@[simp] theorem State.consumeLoss_key (s : State) (b : Option Nat) (i : SlotId) : (State.consumeLoss b s i).key = s.key := by unfold State.consumeLoss; (repeat' split) <;> simp
@[simp] theorem State.consumeLoss_freeIndex (s : State) (b : Option Nat) (i : SlotId) : (State.consumeLoss b s i).freeIndex = s.freeIndex := by unfold State.consumeLoss; (repeat' split) <;> simp
@[simp] theorem State.consumeLoss_pending (s : State) (b : Option Nat) (i : SlotId) : (State.consumeLoss b s i).pending = s.pending := by unfold State.consumeLoss; (repeat' split) <;> simp

end Sys2Proof.Machine
end

