-- ==== Sys2Proof/Laws/Alerts.lean ====
section
/-! SUPPORT. What the three blocks of the alerts keep where a change is handed to the Line Station, and what is handed over. -/

namespace Sys2Proof.Machine

variable (s : State) (a b : Alerts)

@[simp] theorem Alerts.tell_monitor : (a.tell s b).monitor = a.monitor := rfl
@[simp] theorem Alerts.tell_chime : (a.tell s b).chime = a.chime := rfl
@[simp] theorem Alerts.tell_display : (a.tell s b).display = a.display := rfl

/-- What a change hands over: bytes 3 to 5 of STATUS as they stand after it, where one of them differs. -/
theorem Alerts.tell_handed :
    (a.tell s b).handed =
      if statusTail (s.withAlerts a) = statusTail (s.withAlerts b) then a.handed
      else a.handed ++ [statusTail (s.withAlerts a)] := by
  unfold Alerts.tell State.handOver
  split <;> rfl

@[simp] theorem Alerts.setEntry_chime (e : EntryId) (w : Warning) : (a.setEntry e w).chime = a.chime := rfl
@[simp] theorem Alerts.setEntry_display (e : EntryId) (w : Warning) : (a.setEntry e w).display = a.display := rfl
@[simp] theorem Alerts.setEntry_handed (e : EntryId) (w : Warning) : (a.setEntry e w).handed = a.handed := rfl
@[simp] theorem Alerts.setEntry_active (e : EntryId) (w : Warning) : (a.setEntry e w).monitor.active = a.monitor.active := rfl
@[simp] theorem Alerts.withdrawBoth_monitor (e : EntryId) : (a.withdrawBoth s e).monitor = a.monitor := rfl
@[simp] theorem Alerts.withdrawBoth_chime (e : EntryId) : (a.withdrawBoth s e).chime = a.chime.withdraw e := rfl
@[simp] theorem Alerts.withdrawBoth_handed (e : EntryId) : (a.withdrawBoth s e).handed = a.handed := rfl

/-- A departure from ACTIVE moves the entry, withdraws its request and its message, and leaves the active list. -/
theorem Alerts.leaveActive_eq (e : EntryId) (w : Warning) :
    (a.leaveActive s e w).monitor = { a.monitor with entries := a.monitor.entries.set e w } ∧
    (a.leaveActive s e w).chime = a.chime.withdraw e ∧
    (a.leaveActive s e w).display = (a.withdrawBoth s e).display := ⟨rfl, rfl, rfl⟩

end Sys2Proof.Machine
end

