-- ==== Sys2Proof/Laws/Close.lean ====
section
/-! SUPPORT. What the operations of the line can move, and what the close of an event can: the traffic of the line and the display. -/

namespace Sys2Proof.Machine

/-! ## The line -/

@[simp] theorem Line.withTraffic_self (l : Line) : l.withTraffic l = l := rfl

@[simp] theorem Line.withTraffic_withTraffic (l x y : Line) : (l.withTraffic x).withTraffic y = l.withTraffic y := rfl

/-- What a later operation leaves of a line that differs from `l` in its traffic only. -/
theorem Line.traffic_trans {l x y : Line} (hx : x = l.withTraffic x) (hy : y = x.withTraffic y) : y = l.withTraffic y := by
  rw [hx] at hy
  simpa using hy

theorem Line.choose_traffic (l : Line) : l.choose = l.withTraffic l.choose := by
  unfold Line.choose
  split
  · split <;> rfl
  · rfl

theorem Line.handOn_traffic (e : TxEntry) (l : Line) : l.handOn e = l.withTraffic (l.handOn e) := by
  unfold Line.handOn
  exact Line.traffic_trans (x := { l with queue := _ }) rfl (Line.choose_traffic _)

theorem Line.answer_traffic (a : Station) (g i : Byte) (st : Status) (v : List Byte) (l : Line) :
    l.answer a g i st v = l.withTraffic (l.answer a g i st v) := by
  unfold Line.answer
  dsimp only
  split <;> rfl

theorem Line.joinOne_traffic (l : Line) (p : PendingAnswer) : l.joinOne p = l.withTraffic (l.joinOne p) := by
  unfold Line.joinOne
  split
  · split
    · exact Line.traffic_trans (x := { l with pending := _ }) rfl (Line.handOn_traffic _ _)
    · rfl
  · rfl

/-- A fold of operations that move the traffic only moves the traffic only. -/
theorem Line.foldl_traffic {α : Type} (f : Line → α → Line) (h : ∀ l a, f l a = l.withTraffic (f l a)) (xs : List α) :
    ∀ l : Line, xs.foldl f l = l.withTraffic (xs.foldl f l) := by
  induction xs with
  | nil => intro l; rfl
  | cons x xs ih => intro l; rw [List.foldl_cons]; exact Line.traffic_trans (h l x) (ih _)

theorem Line.joinReady_traffic (l : Line) : l.joinReady = l.withTraffic l.joinReady :=
  Line.foldl_traffic _ Line.joinOne_traffic _ l

theorem Line.replyAtOnce_traffic (a : Station) (g i : Byte) (st : Status) (l : Line) :
    l.replyAtOnce a g i st = l.withTraffic (l.replyAtOnce a g i st) := by
  unfold Line.replyAtOnce
  split
  · exact Line.handOn_traffic _ _
  · rfl

theorem Line.setStanding_traffic (r : StandingAsk) (l : Line) : l.setStanding r = l.withTraffic (l.setStanding r) := rfl

theorem Line.placeStanding_traffic (now : Stamp) (r : StandingAsk) (v : List Byte) (l : Line) :
    l.placeStanding now r v = l.withTraffic (l.placeStanding now r v) :=
  Line.traffic_trans (x := l.setStanding _) rfl (Line.handOn_traffic _ _)

theorem Line.reportStanding_traffic (now : Stamp) (r : StandingAsk) (v : List Byte) (l : Line) :
    l.reportStanding now r v = l.withTraffic (l.reportStanding now r v) := by
  unfold Line.reportStanding
  (repeat' split) <;> first | rfl | exact Line.placeStanding_traffic _ _ _ _

theorem Line.retryStanding_traffic (now : Stamp) (r : StandingAsk) (v : List Byte) (l : Line) :
    l.retryStanding now r v = l.withTraffic (l.retryStanding now r v) := by
  unfold Line.retryStanding
  (repeat' split) <;> first | rfl | exact Line.placeStanding_traffic _ _ _ _

/-- Another station's start bit moves the idle mark, the stuck mark and the receiver, and nothing else. -/
@[simp] theorem Line.startBit_queue (l : Line) : l.startBit.queue = l.queue := rfl
@[simp] theorem Line.startBit_pending (l : Line) : l.startBit.pending = l.pending := rfl
@[simp] theorem Line.startBit_standing (l : Line) : l.startBit.standing = l.standing := rfl
@[simp] theorem Line.startBit_idle (l : Line) : l.startBit.idle = false := rfl
@[simp] theorem Line.startBit_stuck (l : Line) : l.startBit.stuck = false := rfl
@[simp] theorem Line.startBit_receiver (l : Line) :
    l.startBit.receiver = if l.receiver = .abandoned then .listens else l.receiver := rfl

/-! ## The display -/

/-- Settling leaves a display that shows a message or has a page drawn, or is in another mode, as it is. -/
theorem Display.settle_of_shown (d : Display) (v : DisplayView) (h : d.mode = .message → d.shown ≠ none)
    (hp : d.mode = .page → d.line ≠ []) : d.settle v = d := by
  unfold Display.settle
  split
  · rename_i hc
    exact absurd (Option.isNone_iff_eq_none.mp hc.2) (h hc.1)
  · split
    · rename_i hc
      exact absurd hc.2 (hp hc.1)
    · rfl

/-! ## The close of an event -/

theorem watchStatus_line (s : State) (b : List Byte) : (watchStatus s b).line = s.line.withTraffic (watchStatus s b).line := by
  refine Line.foldl_traffic _ (fun l r => ?_) _ _
  dsimp only
  split
  · exact Line.reportStanding_traffic _ _ _ _
  · rfl

/-- A fold of state operations that move the line in its traffic only moves the line in its traffic only. -/
theorem State.foldl_line {α : Type} (f : State → α → State) (h : ∀ s a, (f s a).line = s.line.withTraffic (f s a).line)
    (xs : List α) : ∀ s : State, (xs.foldl f s).line = s.line.withTraffic (xs.foldl f s).line := by
  induction xs with
  | nil => intro s; rfl
  | cons x xs ih => intro s; rw [List.foldl_cons]; exact Line.traffic_trans (h s x) (ih _)

theorem watchChanges_line (s : State) : (watchChanges s).line = s.line.withTraffic (watchChanges s).line :=
  State.foldl_line _ watchStatus_line _ s

theorem watchStanding_line (b s : State) : (watchStanding b s).line = s.line.withTraffic (watchStanding b s).line := by
  refine Line.foldl_traffic _ (fun l r => ?_) _ _
  dsimp only
  split
  · exact Line.reportStanding_traffic _ _ _ _
  · rfl

/-- A fold of steps that leave a line as it is leaves it as it is. -/
theorem Line.foldl_same {α : Type} (f : Line → α → Line) (l : Line) (xs : List α) (h : ∀ x ∈ xs, f l x = l) :
    xs.foldl f l = l := by
  induction xs with
  | nil => rfl
  | cons x xs ih => rw [List.foldl_cons, h x List.mem_cons_self]; exact ih fun y hy => h y (List.mem_cons_of_mem _ hy)

/-- When the owner of a group and index reports (R64, R81, R95, R114, R138). -/
theorem ownerReports_iff (b s : State) (g i : Byte) :
    ownerReports b s g i = true ↔ watchedAnswer b g i ≠ watchedAnswer s g i ∨ (g = 0x40 ∧ s.handed.status ≠ []) ∨
      ((g = 0x41 ∨ g = 0x42) ∧ s.handed.trip = true) := by
  simp [ownerReports, or_assoc]

/-- Where no owner reports, the registrations stay as they are (R186). -/
theorem watchStanding_of_no_report (b s : State)
    (h : ∀ r ∈ s.line.standing, ownerReports b s r.group r.index = false) : watchStanding b s = s := by
  have e : (watchStanding b s).line = s.line :=
    Line.foldl_same _ s.line s.line.standing fun r hr => if_neg (by rw [h r hr]; exact fun hc => Bool.noConfusion hc.1)
  exact congrArg (fun l => { s with line := l }) e

/-- Where no due registration may try again, the registrations stay as they are (R186). -/
theorem retryStandings_of_none (c : StandingAsk → Bool) (s : State)
    (h : ∀ r ∈ s.line.standing, (r.due && c r) = false) : retryStandings c s = s := by
  have e : (retryStandings c s).line = s.line :=
    Line.foldl_same _ s.line s.line.standing fun r hr => if_neg (by rw [h r hr]; exact Bool.noConfusion)
  exact congrArg (fun l => { s with line := l }) e

theorem retryStandings_line (c : StandingAsk → Bool) (s : State) :
    (retryStandings c s).line = s.line.withTraffic (retryStandings c s).line := by
  refine Line.foldl_traffic _ (fun l r => ?_) _ _
  split
  · exact Line.retryStanding_traffic _ _ _ _
  · rfl

theorem State.statusOnChange_line (b s : State) :
    (State.statusOnChange b s).line = s.line.withTraffic (State.statusOnChange b s).line := by
  unfold State.statusOnChange
  split
  · exact State.foldl_line _ (fun _ _ => Line.handOn_traffic _ _) _ _
  · rfl

theorem State.close_line (b e : State) : (State.close b e).line = e.line.withTraffic (State.close b e).line := by
  unfold State.close
  dsimp only
  refine Line.traffic_trans ?_ (retryStandings_line _ _)
  refine Line.traffic_trans ?_ (watchStanding_line _ _)
  refine Line.traffic_trans ?_ (watchChanges_line _)
  refine Line.traffic_trans (State.statusOnChange_line b e.settleDisplay) ?_
  exact Line.joinReady_traffic _

/-- The close takes what the event has handed over. -/
@[simp] theorem State.close_handed (b e : State) : (State.close b e).handed = .nothing := by
  simp [State.close]

@[simp] theorem State.close_display (b e : State) : (State.close b e).display = e.display.settle e.displayView := by
  simp [State.close, State.statusOnChange_display]

/-- Two states that agree in every field but the line, the display and what is handed over. -/
theorem State.eq_besides {x e : State} (h1 : x.now = e.now) (h2 : x.image = e.image) (h3 : x.slots = e.slots)
    (h4 : x.integ = e.integ) (h5 : x.gauges = e.gauges) (h6 : x.trip = e.trip) (h7 : x.monitor = e.monitor)
    (h8 : x.faults = e.faults) (h9 : x.chime = e.chime) (h10 : x.service = e.service) (h11 : x.hold = e.hold)
    (h12 : x.store = e.store) (h13 : x.key = e.key) (h14 : x.freeIndex = e.freeIndex) (h15 : x.pending = e.pending) :
    x = { e with line := x.line, display := x.display, handed := x.handed } := by
  cases x; cases e
  simp only at h1 h2 h3 h4 h5 h6 h7 h8 h9 h10 h11 h12 h13 h14 h15
  subst_vars
  rfl

/-- A state that differs from `e` in the traffic of the line and in the settled display only. -/
theorem State.eq_withTraffic {x e : State} (h : x = { e with line := x.line, display := x.display, handed := x.handed })
    (hl : x.line = e.line.withTraffic x.line) (hd : x.display = e.display.settle e.displayView) (hh : x.handed = .nothing) :
    x = e.withTraffic x := by
  rw [State.withTraffic, ← hl, ← hd, ← hh]
  exact h

/-- A state that differs from `e` in the traffic of the line and in the display only. -/
theorem State.eq_besides_of {x e : State} (h : x = { e with line := x.line, display := x.display, handed := x.handed })
    (hl : x.line = e.line.withTraffic x.line) (hh : x.handed = .nothing) : x = e.besides x := by
  rw [State.besides, ← hl, ← hh]
  exact h

/-- The close of an event moves the traffic of the line and settles the display, and nothing else. -/
theorem State.close_traffic (b e : State) : State.close b e = e.withTraffic (State.close b e) :=
  State.eq_withTraffic
    (State.eq_besides (by simp) (by simp) (by simp) (by simp) (by simp) (by simp) (by simp) (by simp) (by simp) (by simp)
      (by simp) (by simp) (by simp) (by simp) (by simp))
    (State.close_line b e) (State.close_display b e) (State.close_handed b e)

end Sys2Proof.Machine
end

