-- ==== Sys2Proof/Laws/Answers.lean ====
section
/-! SUPPORT. The answers of requests on the line: an owner's answer to a WAITING entry is given, and nothing the close of an event does
takes an answer back. -/

namespace Sys2Proof.Machine

/-- Every answer given on `l` is given on `l'`. -/
def Line.KeepsAnswers (l l' : Line) : Prop :=
  ∀ (r : Request) (g : Byte) (st : Status) (v : List Byte), Answered l r g st v → Answered l' r g st v

theorem Line.KeepsAnswers.refl (l : Line) : l.KeepsAnswers l := fun _ _ _ _ h => h

theorem Line.KeepsAnswers.trans {l m n : Line} (h : l.KeepsAnswers m) (k : m.KeepsAnswers n) : l.KeepsAnswers n :=
  fun r g st v a => k r g st v (h r g st v a)

/-- The same pending answers, with every REPLY of the queue still there but for its mark. -/
theorem Line.KeepsAnswers.of_queue {l l' : Line} (hp : l'.pending = l.pending)
    (hq : ∀ e ∈ l.queue, e.source = .reply → e.kind = .reply → ∃ e' ∈ l'.queue,
      e'.source = e.source ∧ e'.kind = e.kind ∧ e'.group = e.group ∧ e'.target = e.target ∧ e'.index = e.index ∧
      e'.data = e.data) : l.KeepsAnswers l' := by
  intro r g st v h
  rcases h with h | ⟨h, e, he, h1, h2, h3, h4, h5, h6⟩
  · exact Or.inl (hp ▸ h)
  · obtain ⟨e', he', k1, k2, k3, k4, k5, k6⟩ := hq e he h1 h2
    exact Or.inr ⟨hp ▸ h, e', he', k1.trans h1, k2.trans h2, k3.trans h3, k4.trans h4, k5.trans h5, k6.trans h6⟩

/-- An element of a list whose first match is changed is there still, or it was the match. -/
theorem mem_mapFirst {α : Type} {test : α → Bool} {f : α → α} {l : List α} {x : α} (h : x ∈ l) :
    x ∈ mapFirst test f l ∨ (test x = true ∧ f x ∈ mapFirst test f l) := by
  induction l with
  | nil => cases h
  | cons y l ih =>
    unfold mapFirst
    rcases List.mem_cons.mp h with rfl | h
    · split
      · exact Or.inr ⟨‹_›, List.mem_cons_self⟩
      · exact Or.inl List.mem_cons_self
    · split
      · exact Or.inl (List.mem_cons_of_mem _ h)
      · rcases ih h with h | ⟨h1, h2⟩
        · exact Or.inl (List.mem_cons_of_mem _ h)
        · exact Or.inr ⟨h1, List.mem_cons_of_mem _ h2⟩

theorem Line.choose_keeps (l : Line) : l.KeepsAnswers l.choose := by
  unfold Line.choose
  split
  · split
    · refine .of_queue rfl fun e he _ _ => ?_
      rcases mem_mapFirst he with h | ⟨_, h⟩
      · exact ⟨e, h, rfl, rfl, rfl, rfl, rfl, rfl⟩
      · exact ⟨_, h, rfl, rfl, rfl, rfl, rfl, rfl⟩
    · exact .refl l
  · exact .refl l

/-- A hand-on that meets no REPLY of its like keeps every answer. -/
theorem Line.handOn_keeps (e : TxEntry) (l : Line)
    (h : ∀ q ∈ l.queue, q.kind = .reply → e.matchesEntry q = false) : l.KeepsAnswers (l.handOn e) := by
  refine Line.KeepsAnswers.trans ?_ (Line.choose_keeps _)
  refine .of_queue rfl fun q hq _ hk => ⟨q, ?_, rfl, rfl, rfl, rfl, rfl, rfl⟩
  dsimp only
  split
  · rcases mem_mapFirst hq with h1 | ⟨h1, _⟩
    · exact h1
    · rw [h q hq hk] at h1; cases h1
  · exact List.mem_append_left _ hq

theorem Line.handOn_publish_keeps (source : TxSource) (group : Byte) (data : List Byte) (l : Line) :
    l.KeepsAnswers (l.handOn (publishEntry source group data)) :=
  Line.handOn_keeps _ _ fun q _ hk => by simp [TxEntry.matchesEntry, publishEntry, hk]

/-- Where a reply can join, nothing queued is of its like. -/
theorem Line.canReply_noMatch {l : Line} {source src : TxSource} {asker : Station} {g i : Byte} {st : Status}
    {v : List Byte} (h : l.canReply source asker g = true) :
    ∀ q ∈ l.queue, (replyEntry src asker g i st v).matchesEntry q = false := by
  intro q hq
  simp only [Line.canReply, Line.repliesTo, Bool.and_eq_true, Bool.not_eq_true', List.any_eq_false] at h
  have hn := h.2 q hq
  cases hm : (replyEntry src asker g i st v).matchesEntry q with
  | false => rfl
  | true =>
    refine absurd ?_ hn
    simp only [TxEntry.matchesEntry, replyEntry, Bool.and_eq_true] at hm
    rw [← of_decide_eq_true hm.1.1, ← of_decide_eq_true hm.1.2, ← of_decide_eq_true hm.2]
    simp

theorem Line.canReply_handOn_keeps {l : Line} {source src : TxSource} {asker : Station} {g i : Byte} {st : Status}
    {v : List Byte} (h : l.canReply source asker g = true) : l.KeepsAnswers (l.handOn (replyEntry src asker g i st v)) :=
  Line.handOn_keeps _ _ fun q hq _ => Line.canReply_noMatch h q hq

/-- A reply that can join stands in the queue with its data. -/
theorem Line.canReply_mem {l : Line} {source : TxSource} {e : TxEntry} {asker : Station} {g i : Byte} {st : Status}
    {v : List Byte} {src : TxSource} (he : e = replyEntry src asker g i st v) (h : l.canReply source asker g = true) :
    ∃ q ∈ (l.handOn e).queue, q.source = e.source ∧ q.kind = e.kind ∧ q.group = e.group ∧ q.target = e.target ∧
      q.index = e.index ∧ q.data = e.data := by
  have hm : l.queue.any e.matchesEntry = false := by
    rw [List.any_eq_false]
    intro q hq
    rw [he, Line.canReply_noMatch h q hq]
    exact Bool.false_ne_true
  unfold Line.handOn
  rw [if_neg (by rw [hm]; exact Bool.false_ne_true)]
  unfold Line.choose
  have h0 : e ∈ l.queue ++ [e] := List.mem_append_right _ List.mem_cons_self
  dsimp only
  split
  · split
    · dsimp only
      rcases mem_mapFirst h0 with h1 | ⟨_, h1⟩
      · exact ⟨e, h1, rfl, rfl, rfl, rfl, rfl, rfl⟩
      · exact ⟨_, h1, rfl, rfl, rfl, rfl, rfl, rfl⟩
    · exact ⟨e, h0, rfl, rfl, rfl, rfl, rfl, rfl⟩
  · exact ⟨e, h0, rfl, rfl, rfl, rfl, rfl, rfl⟩

theorem fourBytes_fourBytes (v : List Byte) : fourBytes (fourBytes v) = fourBytes v := by
  unfold fourBytes
  rw [List.take_append_of_le_length]
  · simp
  · simp

theorem replyData_fourBytes (a : Station) (st : Status) (v : List Byte) :
    replyData a st (fourBytes v) = replyData a st v := by
  simp [replyData, fourBytes_fourBytes]

theorem Line.joinOne_keeps (l : Line) (p : PendingAnswer) : l.KeepsAnswers (l.joinOne p) := by
  unfold Line.joinOne
  split
  · rename_i status values hs
    split
    · rename_i hc
      generalize hq' : mapFirst (fun x => decide (x = p)) (fun p => { p with stage := .queued }) l.pending = q'
      have hm : ∀ x ∈ l.pending, x ∈ q' ∨ (x = p ∧ { x with stage := .queued } ∈ q') := by
        intro x hx
        rw [← hq']
        rcases mem_mapFirst (test := fun x => decide (x = p)) (f := fun p => { p with stage := .queued }) hx with h | h
        · exact Or.inl h
        · exact Or.inr ⟨by simpa using h.1, h.2⟩
      have hc' : Line.canReply { l with pending := q' } .reply p.asker p.group = true := hc
      have hk := Line.canReply_handOn_keeps (src := .reply) (i := p.index) (st := status) (v := values) hc'
      intro r g st v h
      rcases h with h | ⟨h, hq⟩
      · rcases hm _ h with h1 | ⟨h1, h2⟩
        · exact hk r g st v (Or.inl h1)
        · subst h1
          simp only [Stage.ready.injEq] at hs
          obtain ⟨rfl, rfl⟩ := hs
          obtain ⟨q, hq, k1, k2, k3, k4, k5, k6⟩ := Line.canReply_mem rfl hc'
          refine Or.inr ⟨?_, q, hq, k1, k2, k3, k4, k5, ?_⟩
          · rw [Line.handOn, Line.choose]
            dsimp only
            (repeat' split) <;> exact h2
          · rw [k6]
            exact replyData_fourBytes _ _ _
      · rcases hm _ h with h1 | ⟨h1, h2⟩
        · exact hk r g st v (Or.inr ⟨h1, hq⟩)
        · subst h1
          cases hs
    · exact .refl l
  · exact .refl l

/-- A fold of operations that keep every answer keeps every answer. -/
theorem Line.foldl_keepsAnswers {α : Type} (f : Line → α → Line) (h : ∀ (l : Line) (a : α), l.KeepsAnswers (f l a)) (xs : List α) :
    ∀ l : Line, l.KeepsAnswers (xs.foldl f l) := by
  induction xs with
  | nil => intro l; exact .refl l
  | cons x xs ih => intro l; exact .trans (h l x) (ih _)

theorem Line.joinReady_keeps (l : Line) : l.KeepsAnswers l.joinReady := Line.foldl_keepsAnswers _ Line.joinOne_keeps _ l

theorem Line.setStanding_keeps (r : StandingAsk) (l : Line) : l.KeepsAnswers (l.setStanding r) :=
  .of_queue rfl fun e he _ _ => ⟨e, he, rfl, rfl, rfl, rfl, rfl, rfl⟩

theorem Line.placeStanding_keeps (now : Stamp) (r : StandingAsk) (v : List Byte) (l : Line)
    (h : l.canReply .standing r.asker r.group = true) : l.KeepsAnswers (l.placeStanding now r v) :=
  .trans (Line.setStanding_keeps _ l) (Line.canReply_handOn_keeps (l := l.setStanding _) h)

theorem Line.reportStanding_keeps (now : Stamp) (r : StandingAsk) (v : List Byte) (l : Line) :
    l.KeepsAnswers (l.reportStanding now r v) := by
  unfold Line.reportStanding
  split
  · exact .refl l
  · split
    · refine Line.KeepsAnswers.trans ?_ (Line.setStanding_keeps _ _)
      refine .of_queue rfl fun e he hs _ => ?_
      rcases mem_mapFirst he with h | ⟨h, _⟩
      · exact ⟨e, h, rfl, rfl, rfl, rfl, rfl, rfl⟩
      · simp [StandingAsk.queuedIn, hs] at h
    · split
      · exact Line.setStanding_keeps _ l
      · rename_i hc
        refine Line.placeStanding_keeps _ _ _ _ ?_
        simp only [Bool.or_eq_true, not_or, Bool.not_eq_true', Bool.not_eq_false] at hc
        exact hc.2

theorem Line.retryStanding_keeps (now : Stamp) (r : StandingAsk) (v : List Byte) (l : Line) :
    l.KeepsAnswers (l.retryStanding now r v) := by
  unfold Line.retryStanding
  split
  · exact Line.setStanding_keeps _ l
  · split
    · rename_i hc
      simp only [Bool.and_eq_true] at hc
      exact Line.placeStanding_keeps _ _ _ _ hc.2
    · exact .refl l

theorem Line.answer_keeps (a : Station) (g i : Byte) (st : Status) (v : List Byte) (l : Line) :
    l.KeepsAnswers (l.answer a g i st v) := by
  unfold Line.answer
  dsimp only
  split
  · intro r g' st' v' h
    rcases h with h | ⟨h, hq⟩
    · exact Or.inl (List.mem_append_left _ (List.mem_filter.mpr ⟨h, by simp⟩))
    · exact Or.inr ⟨List.mem_append_left _ (List.mem_filter.mpr ⟨h, by simp⟩), hq⟩
  · exact .refl l

theorem State.publish_keeps (s : State) (src : TxSource) (g : Byte) (d : List Byte) :
    s.line.KeepsAnswers (s.publish src g d).line := Line.handOn_publish_keeps src g d s.line

theorem State.answer_keeps (s : State) (a : Station) (g i : Byte) (st : Status) (v : List Byte) :
    s.line.KeepsAnswers (s.answer a g i st v).line := Line.answer_keeps a g i st v s.line

theorem State.reportFault_keeps (s : State) (k : FaultKind) : s.line.KeepsAnswers (s.reportFault k).line := by
  unfold State.reportFault
  dsimp only
  (repeat' split) <;> first | exact Line.handOn_publish_keeps _ _ _ _ | exact .refl _

/-- A fold of state operations that keep every answer keeps every answer. -/
theorem State.foldl_keepsAnswers {α : Type} (f : State → α → State)
    (h : ∀ (s : State) (a : α), s.line.KeepsAnswers (f s a).line) (xs : List α) :
    ∀ s : State, s.line.KeepsAnswers (xs.foldl f s).line := by
  induction xs with
  | nil => intro s; exact .refl _
  | cons x xs ih => intro s; exact .trans (h s x) (ih _)

theorem watchStatus_keeps (s : State) (b : List Byte) : s.line.KeepsAnswers (watchStatus s b).line :=
  Line.foldl_keepsAnswers _ (fun l r => by
    dsimp only
    split
    · exact Line.reportStanding_keeps _ _ _ _
    · exact .refl _) _ _

theorem watchChanges_keeps (s : State) : s.line.KeepsAnswers (watchChanges s).line :=
  State.foldl_keepsAnswers _ watchStatus_keeps _ s

/-- Nothing the close of an event does takes an answer back. -/
theorem State.close_keeps (b e : State) : e.line.KeepsAnswers (State.close b e).line := by
  unfold State.close
  dsimp only
  have h1 : e.line.KeepsAnswers (State.statusOnChange b e.settleDisplay).line := by
    unfold State.statusOnChange
    split
    · exact State.foldl_keepsAnswers (fun s b => s.publish .status 0x40 b) (fun s b => State.publish_keeps s _ _ b) _ e.settleDisplay
    · exact .refl _
  have h2 : ∀ s : State, s.line.KeepsAnswers (watchStanding b s).line := fun s =>
    Line.foldl_keepsAnswers _ (fun l r => by
      dsimp only
      split
      · exact Line.reportStanding_keeps _ _ _ _
      · exact .refl _) _ _
  have h3 : ∀ (c : StandingAsk → Bool) (s : State), s.line.KeepsAnswers (retryStandings c s).line := fun c s =>
    Line.foldl_keepsAnswers _ (fun l r => by
      split
      · exact Line.retryStanding_keeps _ _ _ _
      · exact .refl _) _ _
  refine h1.trans ?_
  refine Line.KeepsAnswers.trans ?_ (h3 _ _)
  refine Line.KeepsAnswers.trans ?_ (h2 _)
  refine Line.KeepsAnswers.trans ?_ (watchChanges_keeps _)
  exact Line.joinReady_keeps _

/-- An owner's answer to a WAITING entry is given. -/
theorem Line.answered_answer (l : Line) (r : Request) (g : Byte) (st : Status) (v : List Byte)
    (h : (⟨r.asker, g, r.index, .waiting⟩ : PendingAnswer) ∈ l.pending) :
    Answered (l.answer r.asker g r.index st v) r g st v := by
  unfold Line.answer
  dsimp only
  rw [if_pos]
  · exact Or.inl (List.mem_append_right _ List.mem_cons_self)
  · rw [List.any_eq_true]
    exact ⟨_, h, by simp [PendingAnswer.isFor]⟩

/-- A request heard is WAITING for its answer. -/
theorem State.heard_waiting (s : State) (t : Stamp) (g : Byte) (r : Request) :
    (⟨r.asker, g, r.index, .waiting⟩ : PendingAnswer) ∈ (s.heard t g r).line.pending := by
  simp [State.heard]

/-- An event that changes the line of `e` in its traffic only, with the answer given, answers with `e`. -/
theorem answersWith_close {s e x : State} {r : Request} {g : Byte} {st : Status} {v : List Byte}
    (hx : x = { e with line := x.line, display := x.display, handed := x.handed }) (hl : x.line = e.line.withTraffic x.line)
    (hd : x.display = e.display) (ha : Answered x.line r g st v) :
    AnswersWith (.next (State.close s x)) e r g st v := by
  refine ⟨_, rfl, ?_, State.close_keeps s x r g st v ha⟩
  have p : ∀ {α : Type} (f : State → α), (∀ l d h, f { e with line := l, display := d, handed := h } = f e) → f x = f e :=
    fun f hf => (congrArg f hx).trans (hf _ _ _)
  have h1 : State.close s x =
      { e with line := (State.close s x).line, display := (State.close s x).display, handed := (State.close s x).handed } :=
    State.eq_besides ((State.close_now s x).trans (p State.now fun _ _ _ => rfl))
      ((State.close_image s x).trans (p State.image fun _ _ _ => rfl))
      ((State.close_slots s x).trans (p State.slots fun _ _ _ => rfl))
      ((State.close_integ s x).trans (p State.integ fun _ _ _ => rfl))
      ((State.close_gauges s x).trans (p State.gauges fun _ _ _ => rfl))
      ((State.close_trip s x).trans (p State.trip fun _ _ _ => rfl))
      ((State.close_monitor s x).trans (p State.monitor fun _ _ _ => rfl))
      ((State.close_faults s x).trans (p State.faults fun _ _ _ => rfl))
      ((State.close_chime s x).trans (p State.chime fun _ _ _ => rfl))
      ((State.close_service s x).trans (p State.service fun _ _ _ => rfl))
      ((State.close_hold s x).trans (p State.hold fun _ _ _ => rfl))
      ((State.close_store s x).trans (p State.store fun _ _ _ => rfl))
      ((State.close_key s x).trans (p State.key fun _ _ _ => rfl))
      ((State.close_freeIndex s x).trans (p State.freeIndex fun _ _ _ => rfl))
      ((State.close_pending s x).trans (p State.pending fun _ _ _ => rfl))
  refine State.eq_withTraffic h1 ?_ ?_ (State.close_handed s x)
  · exact Line.traffic_trans hl (State.close_line s x)
  · rw [State.close_display, hd]
    rw [p State.displayView fun _ _ _ => rfl]

/-- An owner that answers at once and changes nothing else. -/
theorem answersWith_answer {s e : State} {r : Request} {g : Byte} {st : Status} {v : List Byte}
    (h : (⟨r.asker, g, r.index, .waiting⟩ : PendingAnswer) ∈ e.line.pending) :
    AnswersWith (.next (State.close s (e.answer r.asker g r.index st v))) e r g st v :=
  answersWith_close rfl (Line.answer_traffic _ _ _ _ _ _) rfl (Line.answered_answer _ _ _ _ _ h)

end Sys2Proof.Machine
end

