-- ==== Sys2Proof/Laws/Memory.lean ====
section
/-! SUPPORT. The laws of the store's array: what a write leaves to be read, and that every operation keeps the canonical form. -/

namespace Sys2Proof.Machine

/-- A list that rises from a bound reads as erased below it. -/
theorem readWord_below (a : Array16) (lo k : Nat) (h : risesFrom lo a = true) (hk : k < lo) :
    readWord a k = Config.erasedWord := by
  induction a generalizing lo with
  | nil => rfl
  | cons e rest ih =>
    obtain ⟨x, v⟩ := e
    simp only [risesFrom, Bool.and_eq_true, decide_eq_true_eq] at h
    have hx : x ≠ k := by omega
    rw [readWord, if_neg hx]
    exact ih (x + 1) h.2 (by omega)

/-- A list that rises from a bound rises from every lower one. -/
theorem risesFrom_mono (a : Array16) {lo lo' : Nat} (hle : lo' ≤ lo) (h : risesFrom lo a = true) : risesFrom lo' a = true := by
  cases a with
  | nil => rfl
  | cons e rest =>
    obtain ⟨x, v⟩ := e
    simp only [risesFrom, Bool.and_eq_true, decide_eq_true_eq] at h ⊢
    exact ⟨by omega, h.2⟩

/-- A write keeps the addresses rising. -/
theorem risesFrom_writeWord (a : Array16) (lo k : Nat) (w : Word) (h : risesFrom lo a = true) (hk : lo ≤ k) :
    risesFrom lo (writeWord a k w) = true := by
  induction a generalizing lo with
  | nil => unfold writeWord; split <;> simp [risesFrom, hk]
  | cons e rest ih =>
    obtain ⟨x, v⟩ := e
    simp only [risesFrom, Bool.and_eq_true, decide_eq_true_eq] at h
    unfold writeWord
    split
    · split
      · simp [risesFrom, h.1, h.2]
      · simp only [risesFrom, Bool.and_eq_true, decide_eq_true_eq]
        exact ⟨hk, by omega, h.2⟩
    · split
      · split
        · exact risesFrom_mono rest (by omega) h.2
        · simp only [risesFrom, Bool.and_eq_true, decide_eq_true_eq]
          exact ⟨hk, by subst_vars; exact h.2⟩
      · simp only [risesFrom, Bool.and_eq_true, decide_eq_true_eq]
        exact ⟨h.1, ih (x + 1) h.2 (by omega)⟩

/-- Every entry after a write is an old entry or the one written, which does not read FFFFH. -/
theorem mem_writeWord (a : Array16) (k : Nat) (w : Word) (e : Nat × Word) (h : e ∈ writeWord a k w) :
    e ∈ a ∨ (e = (k, w) ∧ w ≠ Config.erasedWord) := by
  induction a with
  | nil =>
    unfold writeWord at h
    split at h <;> simp_all
  | cons x rest ih =>
    obtain ⟨x, v⟩ := x
    unfold writeWord at h
    (repeat' split at h) <;> simp_all <;> tauto

/-- A read after a write: the value written at its address, what was there before at every other. -/
theorem readWord_writeWord (a : Array16) (lo k j : Nat) (w : Word) (h : risesFrom lo a = true) :
    readWord (writeWord a k w) j = if j = k then w else readWord a j := by
  induction a generalizing lo with
  | nil =>
    unfold writeWord
    split
    · next hw => rw [hw, readWord, ite_self]
    · simp only [readWord, eq_comm (a := k)]
  | cons e rest ih =>
    obtain ⟨x, v⟩ := e
    simp only [risesFrom, Bool.and_eq_true, decide_eq_true_eq] at h
    have below : ∀ i, i ≤ x → readWord rest i = Config.erasedWord := fun i hi =>
      readWord_below rest (x + 1) i h.2 (by omega)
    unfold writeWord
    split
    · split
      · by_cases hj : j = k
        · subst hj; rw [if_pos rfl, readWord, if_neg (by omega), below _ (by omega)]; simp_all
        · rw [if_neg hj]
      · simp only [readWord]
        by_cases hj : j = k
        · subst hj; simp
        · rw [if_neg hj, if_neg (Ne.symm hj)]
    · split
      · subst_vars
        split
        · by_cases hj : j = x
          · subst hj; rw [if_pos rfl, below _ (by omega)]; simp_all
          · rw [if_neg hj, readWord, if_neg (Ne.symm hj)]
        · simp only [readWord]
          by_cases hj : j = x
          · subst hj; simp
          · rw [if_neg hj, if_neg (Ne.symm hj), if_neg (Ne.symm hj)]
      · simp only [readWord]
        rw [ih (x + 1) h.2]
        by_cases hx : x = j
        · subst hx; rw [if_pos rfl, if_neg (by omega), if_pos rfl]
        · rw [if_neg hx, if_neg hx]

/-- What the canonical form says. -/
theorem arrayWf_iff (a : Array16) :
    arrayWf a = true ↔ risesFrom 0 a = true ∧ ∀ e ∈ a, e.1 < Config.arrayWords ∧ e.2 ≠ Config.erasedWord := by
  simp [arrayWf]

/-- A write inside the array keeps the canonical form. -/
theorem arrayWf_writeWord (a : Array16) (k : Nat) (w : Word) (h : arrayWf a = true) (hk : k < Config.arrayWords) :
    arrayWf (writeWord a k w) = true := by
  rw [arrayWf_iff] at h ⊢
  refine ⟨risesFrom_writeWord a 0 k w h.1 (Nat.zero_le k), fun e he => ?_⟩
  rcases mem_writeWord a k w e he with h1 | ⟨rfl, h2⟩
  · exact h.2 e h1
  · exact ⟨hk, h2⟩

/-- Dropping entries keeps the addresses rising. -/
theorem risesFrom_filter (a : Array16) (p : Nat × Word → Bool) (lo : Nat) (h : risesFrom lo a = true) :
    risesFrom lo (a.filter p) = true := by
  induction a generalizing lo with
  | nil => rfl
  | cons e rest ih =>
    obtain ⟨x, v⟩ := e
    simp only [risesFrom, Bool.and_eq_true, decide_eq_true_eq] at h
    rw [List.filter_cons]
    split
    · simp only [risesFrom, Bool.and_eq_true, decide_eq_true_eq]
      exact ⟨h.1, ih (x + 1) h.2⟩
    · exact ih lo (risesFrom_mono rest (by omega) h.2)

/-- Dropping entries keeps the canonical form. -/
theorem arrayWf_filter (a : Array16) (p : Nat × Word → Bool) (h : arrayWf a = true) : arrayWf (a.filter p) = true := by
  rw [arrayWf_iff] at h ⊢
  exact ⟨risesFrom_filter a p 0 h.1, fun e he => h.2 e (List.mem_of_mem_filter he)⟩

/-- A word of a block lies inside the array. -/
theorem wordAddress_lt (b : BlockId) (n : Nat) (hn : n < 64) : wordAddress b n < Config.arrayWords := by
  have := b.isLt
  simp only [wordAddress, Config.arrayWords]
  omega

/-- Writes inside the array one after another keep the canonical form. -/
theorem arrayWf_foldl {α : Type} (l : List α) (k : α → Nat) (w : α → Word) (hk : ∀ x ∈ l, k x < Config.arrayWords) :
    ∀ a, arrayWf a = true → arrayWf (l.foldl (fun a x => writeWord a (k x) (w x)) a) = true := by
  induction l with
  | nil => intro a h; exact h
  | cons x l ih =>
    intro a h
    rw [List.foldl_cons]
    exact ih (fun y hy => hk y (List.mem_cons_of_mem x hy)) _ (arrayWf_writeWord a _ _ h (hk x List.mem_cons_self))

/-- An erase attempt keeps the canonical form. -/
theorem arrayWf_eraseBlock (a : Array16) (b : BlockId) (residue : List (Fin 64 × Word)) (h : arrayWf a = true) :
    arrayWf (eraseBlock a b residue) = true :=
  arrayWf_foldl residue _ _ (fun r _ => wordAddress_lt b r.1.val r.1.isLt) _ (arrayWf_filter a _ h)

/-- A block left in no defined state keeps the canonical form. -/
theorem arrayWf_scrambleBlock (a : Array16) (b : BlockId) (free : Nat) (h : arrayWf a = true) :
    arrayWf (scrambleBlock a b free) = true :=
  arrayWf_foldl (List.range 64) _ _ (fun n hn => wordAddress_lt b n (List.mem_range.mp hn)) _ h

/-- The array after a sound erase attempt: the block reads FFFFH throughout, and every other word is as it was. -/
theorem readWord_eraseBlock (a : Array16) (b : BlockId) (j : Nat) :
    readWord (eraseBlock a b []) j = if j / 64 = b.val then Config.erasedWord else readWord a j := by
  simp only [eraseBlock, List.foldl_nil]
  induction a with
  | nil => simp [readWord]
  | cons e rest ih =>
    obtain ⟨x, v⟩ := e
    rw [List.filter_cons]
    by_cases hx : x / 64 = b.val
    · simp only [hx, ne_eq, not_true_eq_false, decide_false, Bool.false_eq_true, if_false, ih, readWord]
      split
      · rfl
      · rw [if_neg (by rintro rfl; contradiction)]
    · simp only [ne_eq, hx, not_false_eq_true, decide_true, if_true, readWord, ih]
      by_cases hj : x = j
      · subst hj; rw [if_pos rfl, if_neg hx, if_pos rfl]
      · rw [if_neg hj, if_neg hj]

/-- A word program cut off keeps the canonical form. -/
theorem arrayWf_cutProgram (a : Array16) (address : Nat) (value : Word) (free : Nat) (h : arrayWf a = true)
    (hk : address < Config.arrayWords) : arrayWf (cutProgram a address value free).1 = true :=
  arrayWf_writeWord a address _ h hk

/-- An erase cut off keeps the canonical form. -/
theorem arrayWf_cutErase (a : Array16 × Nat) (b : BlockId) (h : arrayWf a.1 = true) : arrayWf (cutErase a b).1 = true := by
  simp only [cutErase]
  exact arrayWf_scrambleBlock a.1 b a.2 h

/-- A configuration address lies inside the array. -/
theorem configAddress_lt (address : Byte) : address.toNat < Config.arrayWords := by
  have := address.isLt
  simp only [Config.arrayWords]
  omega

/-- A loss of supply keeps the canonical form, wherever the interrupted word lies inside the array. -/
theorem arrayWf_arrayAfterLoss (st : Store) (free : Nat) (h : arrayWf st.array = true)
    (hr : ∀ r q w pos ab t, st.op = .record r q w pos ab t →
      slotAddress r (st.ring r).current (st.ring r).next pos < Config.arrayWords) :
    arrayWf (arrayAfterLoss st free).1 = true := by
  unfold arrayAfterLoss
  extract_lets a
  have ha : arrayWf a.1 = true := by
    simp only [a]
    split
    · exact arrayWf_cutProgram _ _ _ _ h (hr _ _ _ _ _ _ ‹_›)
    · exact arrayWf_cutProgram _ _ _ _ h (configAddress_lt _)
    · exact arrayWf_cutErase _ _ h
    · exact h
  split
  · exact arrayWf_cutErase _ _ ha
  · exact ha

/-- The array of `State.reset` is canonical. -/
theorem arrayWf_reset : arrayWf State.reset.store.array = true := rfl

end Sys2Proof.Machine
end

