-- ==== Sys2Proof/Laws/Queue.lean ====
section
/-! SUPPORT. What the order of a key-off save keeps of the store's queue, and that no save record stands before a commit in it. -/

namespace Sys2Proof.Machine

/-- Splitting off the longest end of a list that a test holds on leaves a list that is empty or ends outside the test. -/
theorem take_reverse_takeWhile {α : Type} (p : α → Bool) (l : List α) :
    l.take (l.length - (l.reverse.takeWhile p).reverse.length) ++ (l.reverse.takeWhile p).reverse = l := by
  have h : l.reverse.takeWhile p ++ l.reverse.dropWhile p = l.reverse := List.takeWhile_append_dropWhile
  have hl : (l.reverse.dropWhile p).reverse ++ (l.reverse.takeWhile p).reverse = l := by
    rw [← List.reverse_append, h, List.reverse_reverse]
  generalize (l.reverse.takeWhile p).reverse = rest at hl ⊢
  generalize (l.reverse.dropWhile p).reverse = front at hl
  subst hl
  simp

/-- The order of a key-off save keeps the requests of the queue. -/
theorem savesBehindCommit_perm (queue : List StoreRequest) : (savesBehindCommit queue).Perm queue := by
  unfold savesBehindCommit
  dsimp only
  conv => rhs; rw [← take_reverse_takeWhile (fun q => !q.isCommit) queue]
  refine List.Perm.append_right _ ?_
  generalize queue.take _ = front
  refine List.perm_append_comm.trans ?_
  have := List.filter_append_perm StoreRequest.isSave front
  simpa using this

/-- The order of a key-off save moves no request in or out. -/
@[simp] theorem mem_savesBehindCommit {q : StoreRequest} {queue : List StoreRequest} :
    q ∈ savesBehindCommit queue ↔ q ∈ queue := (savesBehindCommit_perm queue).mem_iff

/-- In the order of a key-off save no save record stands before a commit (R164). -/
theorem savesBehindCommit_pairwise (queue : List StoreRequest) :
    (savesBehindCommit queue).Pairwise fun a b => ¬ (a.isSave = true ∧ b.isCommit = true) := by
  unfold savesBehindCommit
  dsimp only
  have hr : ∀ b ∈ (queue.reverse.takeWhile fun q => !q.isCommit).reverse, b.isCommit = false := by
    intro b hb
    have := List.mem_takeWhile_imp (List.mem_reverse.mp hb)
    simpa using this
  have hs : ∀ (l : List StoreRequest), ∀ b ∈ l.filter (·.isSave), b.isCommit = false := by
    intro l b hb
    have := (List.mem_filter.mp hb).2
    cases b <;> simp_all [StoreRequest.isSave, StoreRequest.isCommit]
  have hf : ∀ l : List StoreRequest, l.Pairwise (fun a b => b.isCommit = false) →
      l.Pairwise fun a b => ¬ (a.isSave = true ∧ b.isCommit = true) :=
    fun l h => h.imp fun hb => by simp [hb]
  generalize queue.take _ = front
  rw [List.append_assoc, List.pairwise_append]
  refine ⟨?_, hf _ ?_, ?_⟩
  · refine (List.pairwise_filter.mpr (List.pairwise_of_forall ?_))
    intro a b ha hb
    simp_all
  · refine List.pairwise_of_forall_mem_list ?_
    intro a _ b hb
    rcases List.mem_append.mp hb with h | h
    · exact hs _ b h
    · exact hr b h
  · intro a ha b _
    have := (List.mem_filter.mp ha).2
    simp_all

end Sys2Proof.Machine
end

