-- ==== Sys2Proof/Laws/Requests.lean ====
section
/-! SUPPORT. What acceptance leaves of a telegram's receiver, and that a request heard reaches its owner. -/

namespace Sys2Proof.Machine

/-! ## Acceptance -/

theorem State.reportFault_pendingList (s : State) (k : FaultKind) : (s.reportFault k).line.pending = s.line.pending := by
  unfold State.reportFault
  dsimp only
  (repeat' split) <;> first | rfl | (simp only [State.reportSources_line, State.publish, State.onLine_line, Line.handOn, Line.choose]; (repeat' split) <;> rfl)

theorem State.reportFault_standing (s : State) (k : FaultKind) : (s.reportFault k).line.standing = s.line.standing := by
  unfold State.reportFault
  dsimp only
  (repeat' split) <;> first | rfl | (simp only [State.reportSources_line, State.publish, State.onLine_line, Line.handOn, Line.choose]; (repeat' split) <;> rfl)

@[simp] theorem State.accept_pendingList (s : State) (o : Station) (r : Bool) : (s.accept o r).line.pending = s.line.pending := by
  simp only [State.accept]
  (repeat' split) <;> first | rfl | exact State.reportFault_pendingList _ _

@[simp] theorem State.accept_standing (s : State) (o : Station) (r : Bool) : (s.accept o r).line.standing = s.line.standing := by
  simp only [State.accept]
  (repeat' split) <;> first | rfl | exact State.reportFault_standing _ _

/-- Acceptance moves nothing of the Key and Supply Monitor but its quiet timer. -/
theorem State.accept_key (s : State) (o : Station) (r : Bool) :
    (s.accept o r).key = { s.key with quiet := (s.accept o r).key.quiet } := by
  simp only [State.accept]
  (repeat' split) <;> simp

/-- Acceptance moves nothing of the hold record but its timer. -/
theorem State.accept_hold (s : State) (o : Station) (r : Bool) :
    (s.accept o r).hold = { s.hold with timer := (s.accept o r).hold.timer } := by
  simp only [State.accept]
  (repeat' split) <;> simp

@[simp] theorem State.accept_started (s : State) (o : Station) (r : Bool) : (s.accept o r).key.started = s.key.started := by
  rw [State.accept_key]
@[simp] theorem State.accept_restart (s : State) (o : Station) (r : Bool) : (s.accept o r).key.restart = s.key.restart := by
  rw [State.accept_key]
@[simp] theorem State.accept_pins (s : State) (o : Station) (r : Bool) : (s.accept o r).key.pins = s.key.pins := by
  rw [State.accept_key]
@[simp] theorem State.accept_keyState (s : State) (o : Station) (r : Bool) : (s.accept o r).key.key = s.key.key := by
  rw [State.accept_key]
@[simp] theorem State.accept_station (s : State) (o : Station) (r : Bool) : (s.accept o r).key.station = s.key.station := by
  rw [State.accept_key]
@[simp] theorem State.accept_role (s : State) (o : Station) (r : Bool) : (s.accept o r).key.role = s.key.role := by
  rw [State.accept_key]
@[simp] theorem State.accept_units (s : State) (o : Station) (r : Bool) : (s.accept o r).key.units = s.key.units := by
  rw [State.accept_key]
@[simp] theorem State.accept_svcEn (s : State) (o : Station) (r : Bool) : (s.accept o r).key.svcEn = s.key.svcEn := by
  rw [State.accept_key]
@[simp] theorem State.accept_mode (s : State) (o : Station) (r : Bool) : (s.accept o r).key.mode = s.key.mode := by
  rw [State.accept_key]
@[simp] theorem State.accept_phase (s : State) (o : Station) (r : Bool) : (s.accept o r).hold.phase = s.hold.phase := by
  rw [State.accept_hold]
@[simp] theorem State.accept_holder (s : State) (o : Station) (r : Bool) : (s.accept o r).hold.station = s.hold.station := by
  rw [State.accept_hold]
@[simp] theorem State.accept_latch (s : State) (o : Station) (r : Bool) : (s.accept o r).hold.latch = s.hold.latch := by
  rw [State.accept_hold]

/-! ## A request heard -/

/-- A request heard reaches its owner, with its index, in the state in which its answer is WAITING. -/
theorem State.request_heard (s : State) (t : Stamp) (name : String) (group : Byte) (r : Request)
    (owner : Byte → State → State) (h : s.hears group r = true) :
    s.request t name group r owner = .next (State.close s (owner r.index (s.heard t group r))) := by
  simp only [State.hears, Bool.and_eq_true, Bool.not_eq_true', decide_eq_true_eq] at h
  obtain ⟨⟨⟨⟨⟨⟨h1, h2⟩, h3⟩, h4⟩, h5⟩, h6⟩, h7⟩ := h
  have e1 : State.receives { s with now := t } = true := h1
  have e3 : (State.accept { s with now := t } r.asker false).draining = false := by
    unfold State.draining at h3 ⊢
    rw [State.accept_restart]
    exact h3
  unfold State.request
  rw [if_pos h4]
  unfold State.event State.takeRequest
  beta_reduce
  rw [e1]
  simp only [Bool.not_true, Bool.false_eq_true, if_false, State.accept_started, h2, e3, h5, Bool.or_self,
    State.accept_pendingList]
  rw [if_neg, if_neg]
  · rfl
  · omega
  · intro hc
    rw [← Bool.not_eq_true] at h6
    exact h6 hc

section heard
variable (s : State) (t : Stamp) (g : Byte) (r : Request)

@[simp] theorem State.heard_now : (s.heard t g r).now = t := by simp [State.heard, State.stamped]
@[simp] theorem State.heard_image : (s.heard t g r).image = s.image := by simp [State.heard, State.stamped]
@[simp] theorem State.heard_slots : (s.heard t g r).slots = s.slots := by simp [State.heard, State.stamped]
@[simp] theorem State.heard_integ : (s.heard t g r).integ = s.integ := by simp [State.heard, State.stamped]
@[simp] theorem State.heard_gauges : (s.heard t g r).gauges = s.gauges := by simp [State.heard, State.stamped]
@[simp] theorem State.heard_trip : (s.heard t g r).trip = s.trip := by simp [State.heard, State.stamped]
@[simp] theorem State.heard_service : (s.heard t g r).service = s.service := by simp [State.heard, State.stamped]
@[simp] theorem State.heard_store : (s.heard t g r).store = s.store := by simp [State.heard, State.stamped]
@[simp] theorem State.heard_freeIndex : (s.heard t g r).freeIndex = s.freeIndex := by simp [State.heard, State.stamped]
@[simp] theorem State.heard_pending : (s.heard t g r).pending = s.pending := by simp [State.heard, State.stamped]
@[simp] theorem State.heard_started : (s.heard t g r).key.started = s.key.started := by simp [State.heard, State.stamped]
@[simp] theorem State.heard_restart : (s.heard t g r).key.restart = s.key.restart := by simp [State.heard, State.stamped]
@[simp] theorem State.heard_pins : (s.heard t g r).key.pins = s.key.pins := by simp [State.heard, State.stamped]
@[simp] theorem State.heard_keyState : (s.heard t g r).key.key = s.key.key := by simp [State.heard, State.stamped]
@[simp] theorem State.heard_station : (s.heard t g r).key.station = s.key.station := by simp [State.heard, State.stamped]
@[simp] theorem State.heard_role : (s.heard t g r).key.role = s.key.role := by simp [State.heard, State.stamped]
@[simp] theorem State.heard_units : (s.heard t g r).key.units = s.key.units := by simp [State.heard, State.stamped]
@[simp] theorem State.heard_svcEn : (s.heard t g r).key.svcEn = s.key.svcEn := by simp [State.heard, State.stamped]
@[simp] theorem State.heard_mode : (s.heard t g r).key.mode = s.key.mode := by simp [State.heard, State.stamped]
@[simp] theorem State.heard_phase : (s.heard t g r).hold.phase = s.hold.phase := by simp [State.heard, State.stamped]
@[simp] theorem State.heard_holder : (s.heard t g r).hold.station = s.hold.station := by simp [State.heard, State.stamped]
@[simp] theorem State.heard_latch : (s.heard t g r).hold.latch = s.hold.latch := by simp [State.heard, State.stamped]
@[simp] theorem State.heard_standing : (s.heard t g r).line.standing = s.line.standing := by simp [State.heard, State.stamped]
@[simp] theorem State.heard_primary : (s.heard t g r).primary = s.primary := by simp [State.primary]
@[simp] theorem State.heard_isHolder (a : Station) : (s.heard t g r).hold.isHolder a = s.hold.isHolder a := by
  simp [Hold.isHolder]
@[simp] theorem State.heard_draining : (s.heard t g r).draining = s.draining := by simp [State.draining]

end heard

end Sys2Proof.Machine
end

