-- ==== Sys2Proof/Tests/Slice0.lean ====
section
/-! SUPPORT. Tests. First the WellFormed smoke, then worked cases of the manual, one step each, and then a witness for the hypotheses
of every obligation that has some, named after the obligation it serves. -/

namespace Sys2Proof.Tests

open Sys2Proof.Machine

/-! ## Small states -/

/-- The state that an outcome goes on with. -/
def after (o : Result) : State :=
  match o with
  | .next x => x
  | _ => State.reset

/-- A running part with the key at RUN: the built-in configuration, an empty fault record, nothing queued. -/
def run : State :=
  { State.reset with
    faults := .cleared, line := .cleared
    monitor := { Monitor.cleared with lampsLive := true }
    key := { State.reset.key with
      started := true, keyTimer := none, svcTimer := none, quiet := none, key := .run, runSeen := true
      pins := { keyAcc := true, keyRun := true, svcEn := true, supplyLow := false }, svcEn := true } }

/-- A parked channel. -/
def parked : Channel := { state := .parked, position := 0, target := 0, filter := 0, zeroCount := 0 }

/-- The same part with the key OFF and its pointers parked. -/
def off : State :=
  { run with
    key := { run.key with key := .off, runSeen := false, pins := { State.reset.key.pins with svcEn := false } }
    gauges := { run.gauges with channels := Vector.replicate 6 parked } }

/-- The part asleep. -/
def asleep : State := { off with key := { off.key with mode := .asleep, svcEn := false } }

/-- The part held by the tool at station 28, the write enable latch set. -/
def held : State := { run with hold := { phase := .held, station := 28, timer := some 30000, latch := true } }

/-- The part opening a hold for station 28. -/
def opening : State := { run with hold := { phase := .opening, station := 28, timer := none, latch := false } }

/-- The same part as a mirror. -/
def mirror (s : State) : State := { s with key := { s.key with role := .mirror } }

/-- A state with a slot in the hands of the test. -/
def withSlot (s : State) (i : SlotId) (x : Slot) : State := { s with slots := s.slots.set i x }

/-- A request of station 28 with its argument bytes. -/
def ask (args : List Byte) : Request := { asker := 28, hold := false, again := false, args }

/-- A telegram of the transmission station with the distance count (R5). -/
def distance (hi lo : Byte) : Publish := { origin := 3, group := 0x10, data := [hi, lo] }

/-- A transmit queue entry. -/
def entry (source : TxSource) (kind : TxKind) (group : Byte) (target : Option Station) : TxEntry :=
  { source, kind, group, target, index := 0, data := [0x00], attempts := 0, inFlight := false, followOn := none }

/-- A reception of bytes back to back with sound stop bits. -/
def received (bytes : List Byte) : List RxByte := bytes.map fun value => { value, stopIsOne := true, delay := 0 }

/-- The HOLD RELEASE telegram of the tool (section 10.8), byte by byte. -/
def releaseFrame : List Byte := [0x7C, 0x60, 0xD0, 0x0C, 0x00, 0x47]

/-! ## WellFormed smoke -/

theorem test_long_publish_refused :
    (Instr.publishReceived 0 { origin := 3, group := 0x10, data := List.replicate 7 0 }).wellFormed = false := by decide

theorem test_long_request_refused :
    [Instr.askStatus 0 (ask (List.replicate 6 0)), .askTripA 0 (ask (List.replicate 6 0)),
      .askTripBRange 0 (ask (List.replicate 6 0)), .askIdentity 0 (ask (List.replicate 6 0)),
      .askServiceRecord 0 (ask (List.replicate 6 0)), .askConfigWord 0 (ask (List.replicate 6 0)),
      .askGaugeState 0 (ask (List.replicate 6 0)), .holdRelease 0 (ask (List.replicate 6 0)),
      .writeEnable 0 (ask (List.replicate 6 0)), .serviceReset 0 (ask (List.replicate 6 0)),
      .eraseConfigBlock 0 (ask (List.replicate 6 0)), .writeConfigWord 0 (ask (List.replicate 6 0)),
      .faultClear 0 (ask (List.replicate 6 0)), .gaugeTest 0 (ask (List.replicate 6 0)),
      .restart 0 (ask (List.replicate 6 0)), .unknownAskOrCommand 0 .ask 0x10 (ask (List.replicate 6 0))].all
      (fun c => !c.wellFormed) = true := by decide

theorem test_good_reception_is_not_discarded :
    (Instr.telegramDiscarded 0 (received releaseFrame)).wellFormed = false := by decide

theorem test_taken_pair_is_not_unknown : (Instr.unknownAskOrCommand 0 .ask 0x50 (ask [0])).wellFormed = false := by decide

theorem test_message_ids_are_1_to_31 :
    (Instr.durationExpiry 0 0).wellFormed = false ∧ (Instr.durationExpiry 0 32).wellFormed = false ∧
    (Instr.durationExpiry 0 1).wellFormed = true ∧ (Instr.durationExpiry 0 31).wellFormed = true := by decide

theorem test_identity_is_not_watched : (Instr.spacingTimerExpiry 0 28 0x50 0).wellFormed = false := by decide

theorem test_residue_names_a_word_once :
    (Instr.eraseAttemptEnd 0 [(3, 0), (3, 1)]).wellFormed = false ∧
    (Instr.eraseAttemptEnd 0 [(3, 0xFFFF)]).wellFormed = false := by decide

/-! ## Frames (sections 10.2 and 10.8) -/

/-- The command of section 10.8 as the manual's table gives it, byte by byte. -/
theorem test_release_frame :
    readFrame releaseFrame = some { urgency := 3, origin := 28, group := 0x60, kind := .command, hold := false,
                                    again := false, data := [0x0C, 0x00] } := by decide

/-- The REPLY of section 10.8 as the manual's table gives it. -/
theorem test_reply_frame :
    ({ urgency := 2, origin := 12, group := 0x60, kind := .reply, hold := false, again := false
       data := [0x1C, 0x00, 0x00, 0x00, 0x00, 0x00] } : Telegram).frame =
      [0x4C, 0x60, 0xB0, 0x1C, 0x00, 0x00, 0x00, 0x00, 0x00, 0x87] := by decide

/-! ## Figures (sections 2.10 to 2.13) -/

theorem test_distance_limit : distanceLimit 300 1250 100 = 107 := by decide

theorem test_speed_window : speedOf 1250 [⟨35, 100⟩, ⟨34, 100⟩] none = some 993 := by decide

theorem test_range_base : rangeBaseStep 500 20000 3000 3320 1 = 3020 := by decide

theorem test_sender_volume : senderVolume builtInTank 56 = 170 ∧ senderVolume builtInTank 212 = 705 := by decide

theorem test_fuel_filter : fuelStep 1936 170 = 1948 ∧ refilled (some 1936) 705 50 = 11280 := by decide

theorem test_average_consumption :
    averageConsumption .metric 1250 40 { dist := 6250000, fuel := 1500000, secs := 21600 } = some 120 ∧
    averageConsumption .us 1250 40 { dist := 6250000, fuel := 1500000, secs := 21600 } = some 315 ∧
    averageConsumption .imperial 1250 40 { dist := 6250000, fuel := 1500000, secs := 21600 } = some 379 := by decide

/-- Section 3.12: an oil pressure of 150 counts lies at the third breakpoint, 800 rpm at 72 steps. -/
theorem test_gauge_targets :
    gaugeTarget builtInGauges[4] 150 = 180 ∧ gaugeTarget builtInGauges[1] 800 = 72 := by decide

/-! ## One step each -/

/-- A DIST_COUNT slot as in section 1.6. -/
def counted (state : Freshness) (base : Nat) (stamp : Stamp) (late lost : Timer) : Slot :=
  { state, value := 0, base, baseValid := true, stamp, acquired := 0, late, lost }

/-- Section 1.6 at 10,300 ms: LATE, the base kept. -/
theorem test_late_expiry :
    let x := after (exec (.slotLateExpiry 10300 4) (withSlot run 4 (counted .fresh 40080 10100 (some 10300) (some 10600))))
    x.slots[4].state = .late ∧ x.slots[4].base = 40080 ∧ x.slots[4].late = none := by decide

/-- Section 1.6 at 10,850 ms: LOST with one DIST_GAP. -/
theorem test_lost_expiry :
    let x := after (exec (.slotLostExpiry 10850 4) (withSlot run 4 (counted .late 40290 10350 none (some 10850))))
    x.slots[4].state = .lost ∧ x.slots[4].baseValid = false ∧ x.faults.counts[11] = 1 := by decide

/-- Section 2.10 at 1200 ms: the counter wraps, one tenth, 19 pulses left over, 99.3 units per hour. -/
theorem test_distance_across_the_wrap :
    let s : State := { withSlot run 4 (counted .fresh 65535 1100 (some 1300) (some 1600)) with
      image := { run.image with params := { run.image.params with p := 1250, q := 40 } }
      integ := { run.integ with tenths := 123456, remainder := 1235, window := [⟨35, 100⟩], speed := some 1008 } }
    let x := after (exec (.publishReceived 1200 (distance 0 33)) s)
    x.integ.tenths = 123457 ∧ x.integ.remainder = 19 ∧ x.integ.speed = some 993 := by decide

/-- Section 2.10, the telegram of count 109 at dt = 0: rejected, the base moves. -/
theorem test_implausible_distance :
    let s := withSlot run 4 (counted .fresh 104 1400 (some 1600) (some 1900))
    let x := after (exec (.publishReceived 1400 (distance 0 109)) s)
    x.slots[4].base = 109 ∧ x.faults.newest = some .implausible := by decide

/-- A part whose standing reply of trip A stands in the queue with bytes that have changed since, the record being empty. -/
def staleReply : State :=
  { withSlot run 4 (counted .fresh 104 1400 (some 1600) (some 1900)) with
    line := { run.line with
      queue := [{ entry .standing .reply 0x41 (some 28) with data := [28, 0, 0, 0, 9, 0] }]
      standing := [⟨28, 0x41, 0, [0, 0, 9, 0], none, true⟩] } }

/-- R81: an accepted delta of 0 compares the bytes, so the queued reply has its data replaced (R186); the form flags are 1 (R79). -/
theorem test_delta_of_0_compares :
    (after (exec (.publishReceived 1500 (distance 0 104)) staleReply)).line.queue.map (·.data) = [[28, 0, 0, 0, 0, 1]] := by decide

/-- R81: a reset of an empty record compares them too, while a page press does not. -/
theorem test_reset_compares :
    let s : State := { staleReply with display := { staleReply.display with mode := .page, line := ['0'] } }
    (s.resetPress.handed.trip, s.pagePress.handed.trip, (currentPage s).trip) = (true, false, some .a) := by decide

/-- Section 1.7: a tank reading of all ones loses the slot at once. -/
theorem test_all_ones_is_no_reading :
    let s := withSlot run 6 { counted .fresh 0 0 (some 2000) (some 5000) with value := 141, baseValid := false }
    (after (exec (.publishReceived 1000 { origin := 5, group := 0x21, data := [0xFF, 60, 0] }) s)).slots[6].state = .lost := by
  decide

/-- Section 3.11, update 66: a filter of 1,920 closes by 480, the pointer comes down by the slew of 6. -/
theorem test_gauge_update :
    let s : State := { run with
      gauges := { run.gauges with
        channels := run.gauges.channels.set 0 { state := .tracking, position := 120, target := 0, filter := 1920, zeroCount := 0 } } }
    let x := after (exec (.gaugeUpdateExpiry 20) { s with integ := { s.integ with speed := some 0 } })
    x.gauges.channels[0].position = 114 ∧ x.gauges.channels[0].filter = 1440 := by decide

/-- Section 3.11: the key to OFF in the sweep returns the pointer from where it stands. -/
theorem test_key_off_returns :
    let s : State := { run with
      key := { run.key with pins := { run.key.pins with keyAcc := false, keyRun := false }, keyTimer := some 20 }
      gauges := { run.gauges with
        channels := run.gauges.channels.set 0 { state := .sweepUp, position := 300, target := 0, filter := 0, zeroCount := 0 } } }
    let x := after (exec (.keyStateChange 20) s)
    x.gauges.channels[0].state = .returning ∧ x.gauges.channels[0].position = 300 := by decide

/-- Section 5.10: an IMPLAUSIBLE occurrence hands on the set 1000H, kind 12, count 1. -/
theorem test_fault_telegram :
    (run.reportFault .implausible).line.queue.map (·.data) = [[0x10, 0x00, 12, 1]] := by decide

/-- Section 6.9 at 1.4 s: after entry 5 the HIGH scan serves entry 6. -/
theorem test_gap_expiry_serves_the_next :
    let high (p : Pattern) : Option ChimeRequest := some { chimeClass := .high, pattern := p }
    let s : State := { run with chime := { Chime.cleared with
      phase := .gap, gapTimer := some 1400, highPtr := some 5
      requests := ((run.chime.requests.set 5 (high .triple)).set 6 (high .tone)).set 0 (some ⟨.low, .slow⟩) } }
    (after (exec (.gapExpiry 1400) s)).chime.holder = some 6 := by decide

/-- Section 8.6 at 60 s: a selector without its complement. -/
theorem test_bad_complement :
    let x := after (exec (.serviceReset 0 (ask [0, 0xFE])) held)
    x.hold.latch = false ∧ x.line.queue.map (·.data) = [[0x20, 0, 13, 1], [28, 6, 0, 0, 0, 0]] := by decide

/-- Section 9.11 at 6 ms: the supply-low line suspends the erase, 6 ms spent, and an urgent commit is programmed. -/
theorem test_supply_low_suspends :
    let job : EraseJob := { owner := .ring .odo, block := 7, attempt := 1, spent := 0 }
    let s : State := { run with
      integ := { run.integ with tenths := 123440 }
      store := { run.store with op := .erasing job 0, opTimer := some 16, odo := { run.store.odo with current := 6 } } }
    let x := after (exec (.supplyLowActive 6) s)
    x.store.suspended = some { job with spent := 6 } ∧ x.store.opTimer = some 10 := by decide

/-- Section 10.9, gap 1: after REPLY the LOW position, after STATUS the source TRIP, its first entry. -/
theorem test_transmit_choice :
    let s : State := { run with line := { run.line with
      highPtr := .reply, lowPtr := .status
      queue := [entry .trip .publish 0x41 none, entry .trip .publish 0x42 none, entry .status .publish 0x40 none,
                entry .reply .reply 0x51 (some 28), entry .fault .publish 0x48 none] } }
    (after (exec (.interframeGapElapsed 0) s)).line.queue.map (·.inFlight) = [true, false, false, false, false] := by decide

/-! ## Witnesses: the machine and the starts -/

theorem witness_StepRunsTheFrontCommand :
    ({ run with pending := [.wake 0] } : State).pending = .wake 0 :: [] ∧ State.reset.pending = [] := by decide

theorem witness_WellFormedCommandsComplete :
    (Instr.wake 0).wellFormed = true ∧ (Instr.wake 0).isStart = false ∧ ∃ x, exec (.wake 0) run = .next x :=
  ⟨by decide, by decide, _, rfl⟩

theorem witness_CloseMovesOnlyTheTraffic :
    quietClose run run = true ∧
    (let e : State := { run with display := { run.display with mode := .message, shown := some 4 } }
     e.display.mode = .message ∧ e.display.shown ≠ none) ∧ run.display.mode ≠ .message ∧
    (let e : State := { run with display := { run.display with mode := .page, line := ['1'] } }
     e.display.mode = .page ∧ e.display.line ≠ []) ∧
    (let e : State := { off with handed := { status := [[1, 0xFF, 0], (statusBytes off).drop 3], trip := false } }
     e.handed.status.getLast? = some ((statusBytes e).drop 3) ∧ e.key.started = true ∧ off.awake = true ∧ e.awake = true ∧
     e.key.key = .off ∧ e.line.standing = [] ∧ e.line.pending = []) ∧
    (let r : StandingAsk := ⟨28, 0x41, 0, [0, 0, 0, 9], none, true⟩
     let e : State := { run with line := { run.line with standing := [r] }, handed := { status := [], trip := true } }
     e.line.standing = [r] ∧ r.group = 0x41 ∧ e.handed.trip = true ∧ (watchedAnswer e r.group r.index).1 = .done) := by decide

theorem witness_ErasedPartPowersOnToReset :
    State.reset.store.array = [] ∧ State.reset.store.op = .idle ∧ State.reset.store.suspended = none := by decide

/-- A state whose key lines have held the levels of `pins` for 20 ms. -/
def keyDue (s : State) (acc on : Bool) : State :=
  { s with key := { s.key with pins := { s.key.pins with keyAcc := acc, keyRun := on }, keyTimer := some 20 } }

/-- A part whose first channel stands in a state of its own. -/
def withChannel (s : State) (state : GaugeState) (position : Nat) : State :=
  { s with gauges := { s.gauges with
      channels := s.gauges.channels.set 0 { state, position, target := 0, filter := 16 * position, zeroCount := 6 } } }

/-- The same part with its first channel disabled. -/
def disabled (s : State) : State :=
  { s with image := { s.image with gauges := s.image.gauges.set 0 { s.image.gauges[0] with enabled := false } } }

/-- An array with one complete save record, of 5 tenths, in the first slot of its ring. -/
def saved : Array16 :=
  (List.range 32).foldl (fun a n => writeWord a (slotAddress .save 8 0 n)
    (nthWord (saveRecord { run with integ := { run.integ with tenths := 5 } }) n)) []

theorem witness_PowerOnStartsAfresh :
    roleOf .zero = .primary ∧ roleOf .one = .mirror ∧
    (let s : State := { run with store := { run.store with array := saved } }
     ∃ w, (newestSave (arrayAfterLoss s.store s.freeIndex).1).map (·.2) = some w ∧ twoWords w 1 = 5) ∧
    newestSave (arrayAfterLoss State.reset.store State.reset.freeIndex).1 = none := by
  refine ⟨by decide, by decide, ⟨slotWords saved .save 8 0, by decide, by decide⟩, by decide⟩

theorem witness_StartupTakesTheKeyState :
    State.reset.key.started = false ∧ isDue 20 State.reset.key.keyTimer = true ∧ State.reset.primary = true ∧
    State.reset.awake = true ∧ derivedKey State.reset.key.pins = .off ∧
    (let s := keyDue State.reset true true
     s.key.started = false ∧ isDue 20 s.key.keyTimer = true ∧ s.awake = true ∧ derivedKey s.key.pins ≠ .off) ∧
    (let s := keyDue (mirror State.reset) false false
     s.key.started = false ∧ isDue 20 s.key.keyTimer = true ∧ derivedKey s.key.pins = .off ∧ s.primary = false ∧
     s.chime.phase = .idle ∧ ∀ e : EntryId, s.chime.requests[e] = none) ∧
    (let s := keyDue State.reset true false
     s.primary = true ∧ derivedKey s.key.pins = .acc) ∧
    (∀ e : EntryId, State.reset.image.warnings[e].reads .range = false) ∧
    (let s := keyDue (disabled (withChannel State.reset .parked 0)) true true
     s.image.gauges[0].enabled = false ∧ s.image.gauges[1].enabled = true) := by decide

/-- A part that waits for its restart, the save of RESTART served. -/
def restarting : State :=
  { run with key := { run.key with restart := some { commitOpen := false, saveOpen := false, draining := true } } }

/-- The same with the key OFF and its first two channels at positions of their own, over an array with a save record. -/
def restartingOff : State :=
  { withChannel restarting .tracking 40 with
    key := { restarting.key with key := .off, pins := { restarting.key.pins with keyAcc := false, keyRun := false } }
    store := { restarting.store with array := saved } }

theorem witness_RestartWaitEndStartsAgain :
    restartReady restarting = true ∧ restarting.primary = true ∧ roleOf .zero = .primary ∧ roleOf .one = .mirror ∧
    restarting.key.key = .run ∧ newestSave restarting.store.array = none ∧ restartReady run = false ∧
    restartReady restartingOff = true ∧ restartingOff.key.key = .off ∧ restartingOff.image.gauges[0].enabled = true ∧
    restartingOff.gauges.channels[0].state ≠ .zeroing ∧ restartingOff.gauges.channels[0].position = 40 ∧
    (∃ w, (newestSave restartingOff.store.array).map (·.2) = some w ∧ twoWords w 1 = 5) := by
  refine ⟨by decide, by decide, by decide, by decide, by decide, by decide, by decide, by decide, by decide, by decide, by decide,
    by decide, ⟨slotWords saved .save 8 0, by decide, by decide⟩⟩

/-- A restart with the key at RUN leaves the journey window closed (R66). -/
theorem test_restart_keeps_the_window_closed :
    (restarting.restarted { station := .zero, role := .zero, units := .zero }).trip.window = none := rfl

/-! ## Witnesses: key and supply -/

theorem witness_LineLevelsStartTheCounts : run.awake = true ∧ asleep.awake = false := by decide

theorem witness_KeyOffReturnsThePointers :
    (let s := keyDue (withChannel run .resting 300) false false
     s.key.started = true ∧ isDue 20 s.key.keyTimer = true ∧ derivedKey s.key.pins = .off ∧ s.image.gauges[0].enabled = true ∧
     s.gauges.channels[0].state ∈ [GaugeState.sweepUp, .sweepDown, .tracking, .holding, .resting] ∧
     s.gauges.channels[1].state ∈ [GaugeState.zeroing, .returning, .parked]) ∧
    (disabled run).image.gauges[0].enabled = false ∧
    (let ch : Channel := { state := .zeroing, position := 0, target := 0, filter := 0, zeroCount := 6 }
     ch.state = .zeroing ∧ ch.zeroCount ≤ 6) := by decide

theorem witness_KeyOffStopsTheTimers :
    let s := keyDue run false false
    s.key.started = true ∧ isDue 20 s.key.keyTimer = true ∧ derivedKey s.key.pins = .off ∧ s.primary = true ∧
    s.store.odo.failed = false ∧ s.store.save.failed = false ∧ (mirror s).primary = false := by decide

theorem witness_KeyOnStartsTheTimers :
    (let s := keyDue off true true
     s.key.started = true ∧ isDue 20 s.key.keyTimer = true ∧ derivedKey s.key.pins ≠ .off ∧ s.primary = true ∧
     derivedKey s.key.pins = .run ∧ s.key.runSeen = false) ∧
    (let s := keyDue (mirror off) true false
     s.key.started = true ∧ isDue 20 s.key.keyTimer = true ∧ derivedKey s.key.pins ≠ .off ∧ s.primary = false) ∧
    (let s := keyDue off true true
     let s : State := { s with
       service := { s.service with days := 400 }
       image := { s.image with warnings := Vector.ofFn fun e => { s.image.warnings[e] with message := 0 } } }
     s.key.started = true ∧ isDue 20 s.key.keyTimer = true ∧ derivedKey s.key.pins = .run ∧ s.key.runSeen = false ∧
     s.primary = true ∧ serviceState s = 3 ∧ daysState s = serviceState s ∧ distState s ≠ serviceState s ∧ s.awake = true ∧
     s.display.queue = [] ∧ s.display.mode ≠ .message ∧ ∀ e : EntryId, s.image.warnings[e].message = 0) := by decide

/-- A held part with a reset pending that no record carries, a word program and a configuration erase queued, and the answers
waiting. -/
def ending (b : BlockId) : State :=
  { held with
    service := { held.service with reset := some { asker := 28, selector := 2 } }
    store := { held.store with
      op := .word 29 5 0, opTimer := some 4
      queue := [.program 28 7 0, .erase (.config 28) b, .save false true false false false] }
    line := { held.line with pending :=
      [⟨28, 0x62, 2, .waiting⟩, ⟨28, 0x64, 7, .waiting⟩, ⟨28, 0x63, BitVec.ofNat 8 b.val, .waiting⟩] } }

/-- The same part with the reset carried by a record that waits to be built anew. -/
def endingCarried : State :=
  let s := ending 3
  { s with store := { s.store with queue := [.save false true true true false] } }

/-- The cases of the end of a hold: a reset that no record carries, one that a record carries, and the operations queued. -/
theorem witness_HoldEnded :
    (let s := ending 3
     s.service.reset = some { asker := 28, selector := 2 } ∧ s.store.carriesReset = false ∧
     (⟨28, 0x62, 2, .waiting⟩ : PendingAnswer) ∈ s.line.pending ∧ StoreRequest.program 28 7 0 ∈ s.store.queue ∧
     (⟨28, 0x64, 7, .waiting⟩ : PendingAnswer) ∈ s.line.pending ∧ StoreRequest.erase (.config 28) 3 ∈ s.store.queue ∧
     (⟨28, 0x63, 3, .waiting⟩ : PendingAnswer) ∈ s.line.pending) ∧
    endingCarried.service.reset.isSome = true ∧ endingCarried.store.carriesReset = true := by decide

/-- A state whose SVC_EN level has fallen for 20 ms. -/
def enableFallen (s : State) : State :=
  { s with key := { s.key with pins := { s.key.pins with svcEn := false }, svcTimer := some 20 } }

theorem witness_ServiceEnableIsTaken :
    (let s := enableFallen held
     s.key.started = true ∧ isDue 20 s.key.svcTimer = true ∧ s.key.svcEn = true ∧ s.key.pins.svcEn = false ∧
     s.hold.phase = .held) ∧
    (let s := enableFallen opening
     s.key.started = true ∧ isDue 20 s.key.svcTimer = true ∧ s.key.svcEn = true ∧ s.key.pins.svcEn = false ∧
     s.hold.phase = .opening) ∧
    (let s := enableFallen run
     s.key.started = true ∧ isDue 20 s.key.svcTimer = true ∧ s.hold.phase = .none) ∧
    (let s := enableFallen (ending 3)
     s.key.started = true ∧ isDue 20 s.key.svcTimer = true ∧ s.key.svcEn = true ∧ s.key.pins.svcEn = false ∧
     s.hold.phase = .held) := by decide

/-- A save record that reached its last word but one. -/
def saving (s : State) (pos : Nat) (word : Word) : State :=
  { s with store := { s.store with
      op := .record .save (.save true false false false false) (List.replicate 32 word) pos false 0, opTimer := some 4 } }

theorem witness_SupplyLowMovesTheStore :
    (mirror run).primary = false ∧ asleep.awake = false ∧ State.reset.key.started = false ∧
    (let s := saving run 3 0
     s.key.pins.supplyLow = false ∧ s.primary = true ∧ s.awake = true ∧ s.key.started = true ∧ s.store.odo.failed = false ∧
     s.store.op = .record .save (.save true false false false false) (List.replicate 32 0) 3 false 0 ∧ s.store.op ≠ .idle) ∧
    (let s : State := { run with store := { run.store with queue := [.save true false false false false] } }
     s.store.op = .idle ∧ s.store.queue = [.save true false false false false] ∧ s.store.suspended = none ∧
     s.draining = false) := by decide

theorem witness_WakeAndSleep :
    sleepReady off = true ∧ off.line.pending = [] ∧
    (let s : State := { run with line := { run.line with receiver := .abandoned } }
     s.awake = true ∧ s.line.receiver = .abandoned) ∧
    (let s : State := { asleep with line := { asleep.line with stuck := true } }
     s.awake = false ∧ s.line.stuck = true) ∧ sleepReady run = false ∧ run.awake = true ∧ asleep.awake = false ∧
    Instr.wake 7 = .wake (Instr.wake 7).stamp ∧ Instr.keyLineChange 7 true false =
      .keyLineChange (Instr.keyLineChange 7 true false).stamp true false ∧ (true || false) = true := by decide

/-! ## Witnesses: the line -/

/-- A line with an entry in flight between two others. -/
def sending (attempts : Nat) : State :=
  { run with line := { run.line with queue :=
      [entry .trip .publish 0x42 none, { entry .status .publish 0x40 none with attempts, inFlight := true },
       entry .fault .publish 0x48 none] } }

/-- A stuck run before sleep and another that wakes the part are two occurrences: the wire read recessive between (R180). -/
theorem test_stuck_run_that_wakes_is_a_new_one :
    let s : State := { asleep with line := { asleep.line with stuck := true } }
    faultCount (after (execLineStuck 9 (after (execWake 7 s)))).faults .lineStuck = 1 := by decide

theorem witness_DiscardedTelegramsAreCounted :
    receive (received [0x7C, 0x60, 0xD0, 0x0C, 0x00, 0x48]) = none ∧ run.receives = true ∧
    ({ run with line := { run.line with rxErrors := 14 } } : State).line.rxErrors < 15 ∧
    15 ≤ ({ run with line := { run.line with rxErrors := 15 } } : State).line.rxErrors ∧
    asleep.receives = false ∧ receive (received releaseFrame) ≠ none := by decide

theorem witness_WireEventsMoveTheTransmitter :
    asleep.awake = false ∧ run.awake = true ∧ (sending 0).line.sending = true ∧ run.line.queue = [] ∧
    (let s (high : TxHigh) : State := { run with line := { run.line with
        highPtr := high, queue := [entry .status .publish 0x40 none, entry .reply .reply 0x50 (some 28)] } }
     (∀ high, (s high).line.sending = false ∧ (s high).line.queue ≠ [] ∧ (s high).line.highPtr = high) ∧
     (s .fault).line.has .reply = true ∧
     ((s .reply).line.has .status || (s .reply).line.has .trip || (s .reply).line.has .standing) = true) ∧
    (∀ source : TxSource, ∀ high ∈ [TxHigh.fault, .reply, .low], ∀ low ∈ [TxLow.status, .trip, .standing],
      let s : State := { run with line := { run.line with
        highPtr := high, lowPtr := low, queue := [entry source .publish 0x40 none] } }
      s.awake = true ∧ s.line.sending = false ∧ s.line.queue ≠ []) := by
  refine ⟨by decide, by decide, by decide, by decide, ⟨?_, by decide, by decide⟩, ?_⟩
  · intro high
    cases high <;> decide
  · intro source
    cases source <;> decide

/-- A part with a standing reply in flight, its registration due since. -/
def answering : State :=
  { run with line := { run.line with
      queue := [{ entry .standing .reply 0x40 (some 28) with inFlight := true }]
      standing := [⟨28, 0x40, 0, [0, 0, 0, 9], none, true⟩] } }

theorem witness_TransmitOutcomesSettleTheAttempt :
    let l₁ := [entry .trip .publish 0x42 none]
    let e (n : Nat) : TxEntry := { entry .status .publish 0x40 none with attempts := n, inFlight := true }
    let l₂ := [entry .fault .publish 0x48 none]
    (sending 6).line.queue = l₁ ++ e 6 :: l₂ ∧ (sending 7).line.queue = l₁ ++ e 7 :: l₂ ∧ (e 6).inFlight = true ∧
    (∀ a ∈ l₁ ++ l₂, a.inFlight = false) ∧ (e 6).attempts + 1 < run.image.params.retryLimit ∧
    run.image.params.retryLimit ≤ (e 7).attempts + 1 ∧
    (let s := answering
     ∃ q r, s.line.queue = [] ++ q :: [] ∧ q.inFlight = true ∧ q.source = .standing ∧ q.kind = .reply ∧ q.target = some 28 ∧
       s.line.standing = [r] ∧ r.isFor 28 q.group q.index = true ∧ r.due = true ∧ s.handed = .nothing ∧ s.line.pending = [] ∧
       q.attempts + 1 < s.image.params.retryLimit) :=
  ⟨by decide, by decide, by decide, by decide, by decide, by decide,
    { entry .standing .reply 0x40 (some 28) with inFlight := true }, ⟨28, 0x40, 0, [0, 0, 0, 9], none, true⟩, by decide⟩

/-- An unheard standing reply is sent again with its old bytes, its registration being due (R186). -/
theorem test_unheard_reply_keeps_its_bytes :
    ((after (execTransmitOutcome 9 .unheard answering)).line.queue.map fun q => (q.data, q.attempts)) = [([0], 1)] := by decide

theorem witness_AcceptedTelegramsAreHeard :
    run.receives = true ∧ (28 : Station) ≠ run.key.station ∧ (12 : Station) = run.key.station ∧ run.line.sending = false ∧
    (sending 0).receives = true ∧ (12 : Station) = (sending 0).key.station ∧ (sending 0).line.sending = true ∧
    asleep.receives = false := by decide

theorem witness_PublishMovesTheSlots :
    let m := distance 1 2
    let n : Publish := { origin := 5, group := 0x21, data := [0xFF, 60, 1] }
    m.fits = true ∧ n.fits = true ∧ (asleep.receives && asleep.key.started && decide (m.origin ≠ asleep.key.station)) = false ∧
    run.receives = true ∧ run.key.started = true ∧ m.origin ≠ run.key.station ∧ n.origin ≠ run.key.station ∧
    (∀ f ∈ feeds run.image.subs m, f.1.slot ≠ 5) ∧
    feeds run.image.subs m = [] ++ (.feeding 3 0x10 0 2 4 100 5, 258) :: [] ∧
    ¬ (slotKind 4 = .level ∧ 258 = 2 ^ (8 * 2) - 1) ∧
    feeds run.image.subs n = [] ++ (.feeding 5 0x21 0 1 6 1000 5, 255) ::
      [(.feeding 5 0x21 1 1 7 1000 5, 60), (.feeding 5 0x21 2 1 13 1000 5, 1)] ∧
    slotKind 6 = .level ∧ 255 = 2 ^ (8 * 1) - 1 := by decide

/-- A part with a warning entry in a state, its timers due. -/
def warned (e : EntryId) (state : WarningState) : State :=
  { run with monitor := { run.monitor with
      active := if state = .pending then [] else [e]
      entries := run.monitor.entries.set e
        { Warning.cleared with state, condition := true, debounce := some 20, remind := some 20 } } }

/-- A part that sounds a phrase of entry 5, all its timers due. -/
def sounding (pattern : Pattern) (strikeEnd : Timer) (cutPending : Bool) : State :=
  { warned 5 .active with chime := { Chime.cleared with
      phase := .sounding, holder := some 5, pattern, granted := 0, strikeTimer := some 400, strikeEnd, cutPending
      cutTimer := if cutPending then some 150 else none
      phraseTimer := some 1200, preempt := some 1000, requests := Vector.replicate 16 (some ⟨.high, pattern⟩) } }

/-- A PUBLISH that feeds one slot, in a running part, the slot having been usable. -/
def feedsOne (s : State) (m : Publish) (e : Subscription) (v : Nat) : Bool :=
  m.fits && s.receives && s.key.started && decide (m.origin ≠ s.key.station) &&
  decide (feeds s.image.subs m = [(e, v)]) && s.slots[e.slot].usable && decide (0 < s.image.params.p) &&
  decide (s.integ.tenths ≤ 9999999 ∧ s.integ.remainder < s.image.params.p ∧ s.service.dist ≤ 16777215 ∧
    s.service.days ≤ 65535 ∧ s.service.wear ≤ 4294967295)

/-- The same part with one subscription alone in its table. -/
def subscribed (s : State) (e : Subscription) : State :=
  { s with image := { s.image with subs := (Vector.replicate 16 .disabled).set 0 e } }

theorem witness_PublishFeedsTheBlocks :
    run.primary = true ∧ (mirror run).primary = false ∧ (mirror run).trip.window = none ∧
    (let s (full : Bool) : State :=
       let s := mirror (withSlot run 4 (counted .fresh 65500 1000 (some 1200) (some 1500)))
       { s with integ := { s.integ with window := if full then List.replicate 4 ⟨35, 100⟩ else [] } }
     ∀ full ∈ [false, true], feedsOne (s full) (distance 0 49) (.feeding 3 0x10 0 2 4 100 5) 49 = true) ∧
    (let s := withSlot run 4 (counted .fresh 0 0 (some 200) (some 500))
     let s : State := { s with integ := { s.integ with window := [⟨35, 100⟩] } }
     feedsOne s (distance 0 2) (.feeding 3 0x10 0 2 4 100 5) 2 = true) ∧
    (let e : Subscription := .feeding 5 0x21 2 1 13 1000 5
     let s := subscribed (withSlot run 13 { Slot.cleared with base := 250, baseValid := true }) e
     let m : Publish := ⟨5, 0x21, [0, 0, 249]⟩
     m.fits = true ∧ s.receives = true ∧ s.key.started = true ∧ m.origin ≠ s.key.station ∧
     feeds s.image.subs m = [(e, 249)] ∧ s.slots[(13 : SlotId)].state = .absent ∧
     s.slots[(13 : SlotId)].baseValid = true ∧ (249 + 256 - 250) % 256 = 255) ∧
    (let s (tenths : Nat) (low : Bool) : State :=
       let s := withSlot run 4 (counted .fresh 65500 1000 (some 1200) (some 1500))
       { s with integ := { s.integ with tenths, mark := true, remainder := 1240 % s.image.params.p }
                key := { s.key with pins := { s.key.pins with supplyLow := low } } }
     ∀ low ∈ [false, true], ∀ tenths ∈ [8, 9, 9999999],
       feedsOne (s tenths low) (distance 0 49) (.feeding 3 0x10 0 2 4 100 5) 49 = true) ∧
    feedsOne (withSlot run 5 (counted .late 10 900 none (some 1900))) ⟨2, 0x11, [0, 30]⟩ (.feeding 2 0x11 0 2 5 200 5) 30 = true ∧
    (let e : Subscription := .feeding 5 0x21 0 1 6 1000 5
     let s := subscribed (withSlot run 6 (counted .fresh 0 0 (some 2000) (some 5000))) e
     feedsOne s ⟨5, 0x21, [56]⟩ e 56 = true ∧ 56 ≠ 2 ^ (8 * e.width) - 1) ∧
    (let e : Subscription := .feeding 5 0x21 2 1 13 1000 5
     let s := subscribed (withSlot run 13 (counted .fresh 250 0 (some 2000) (some 5000))) e
     feedsOne s ⟨5, 0x21, [0, 0, 1]⟩ e 1 = true ∧ feedsOne s ⟨5, 0x21, [0, 0, 2]⟩ e 2 = true ∧
     (1 + 256 - 250) % 256 = 7 ∧ (2 + 256 - 250) % 256 = 8) ∧
    (let e : Subscription := .feeding 6 0x30 0 2 12 500 5
     let s := withSlot (sounding .tone none false) 12 (counted .fresh 0 0 (some 1000) (some 2500))
     let d := s.image.warnings[5]
     let s : State := { s with image := { s.image with warnings := s.image.warnings.set 5 { d with ackable := true } } }
     feedsOne s ⟨6, 0x30, [1, 0x11]⟩ e 0x111 = true ∧
     (∀ w : EntryId, s.image.warnings[w].reads (.slot 12) = false) ∧
     s.trip.page < max 1 s.image.params.pages.length ∧ s.chime.phase ≠ .idle ∧ s.chime.holder = some 5 ∧
     s.image.warnings[(5 : EntryId)].ackable = true) := by decide

/-- The boundary of the plausible distance: 49 pulses at 100 ms pass, 50 do not (R24). -/
theorem witness_PublishFeedsTheBlocks_limit :
    let s := withSlot run 4 (counted .fresh 65500 1000 (some 1200) (some 1500))
    (∀ m ∈ [distance 0 49, distance 0 50], m.fits = true ∧ m.origin ≠ s.key.station) ∧ s.receives = true ∧
    s.key.started = true ∧ s.primary = true ∧
    feeds s.image.subs (distance 0 49) = [(.feeding 3 0x10 0 2 4 100 5, 49)] ∧
    feeds s.image.subs (distance 0 50) = [(.feeding 3 0x10 0 2 4 100 5, 50)] ∧
    s.slots[(4 : SlotId)].usable = true ∧ 0 < s.image.params.p ∧ s.integ.tenths ≤ 9999999 ∧
    (49 + 65536 - 65500) % 65536 ≤ (300 * 10 * 1000 * 99 + 3599999) / 3600000 + 2 ∧
    (300 * 10 * 1000 * 99 + 3599999) / 3600000 + 2 < (50 + 65536 - 65500) % 65536 := by decide

/-! ## Witnesses: asks -/

/-- Four pending answers of other asks. -/
def crowded : State :=
  { run with line := { run.line with pending :=
      [⟨1, 0x50, 0, .queued⟩, ⟨2, 0x50, 0, .queued⟩, ⟨3, 0x50, 0, .waiting⟩, ⟨4, 0x50, 0, .waiting⟩] } }

/-- The answer of station 28 to index 0 of a group pending. -/
def awaiting (s : State) (group index : Byte) : State :=
  { s with line := { s.line with pending := [⟨28, group, index, .waiting⟩] } }

theorem witness_RequestsAreTurnedAway :
    (ask [0]).fits = true ∧ (ask (List.replicate 5 0)).fits = true ∧ (ask (List.replicate 6 0)).fits = false ∧
    asleep.receives = false ∧ State.reset.receives = true ∧ State.reset.key.started = false ∧
    restarting.receives = true ∧ restarting.draining = true ∧
    run.receives = true ∧ run.key.started = true ∧ run.draining = false ∧ (ask []).args = [] ∧ (ask [0]).args ≠ [] ∧
    takes .ask 0x54 = false ∧ takes .command 0x68 = false ∧
    (let s := awaiting run 0x40 0
     s.receives = true ∧ s.key.started = true ∧ s.draining = false ∧
     s.line.pending.any (fun p => p.isFor (ask [0]).asker 0x40 (ask [0]).index) = true) ∧
    (let s := crowded
     s.receives = true ∧ s.key.started = true ∧ s.draining = false ∧ 4 ≤ s.line.pending.length ∧
     s.line.pending.any (fun p => p.isFor (ask [0]).asker 0x40 (ask [0]).index) = false) := by decide

/-- A request of station 28 with the repeat flag. -/
def askAgain (args : List Byte) : Request := { ask args with again := true }

/-- A request of station 28 with the hold flag. -/
def askHolding (args : List Byte) : Request := { ask args with hold := true }

/-- Standing asks of four other stations. -/
def watched : State :=
  { run with line := { run.line with standing :=
      [⟨1, 0x40, 0, [], none, false⟩, ⟨2, 0x40, 0, [], none, false⟩, ⟨3, 0x40, 0, [], none, false⟩,
       ⟨4, 0x40, 0, [], none, false⟩] } }

theorem witness_WatchedAsksAreAnswered :
    (∀ g ∈ [0x40, 0x41, 0x42, 0x53], run.hears g (ask [0]) = true ∧ run.hears g (askAgain [0]) = true) ∧
    run.hears 0x40 (askAgain [2]) = true ∧ (watchedAnswer (run.heard 0 0x40 (askAgain [2])) 0x40 2).1 ≠ .done ∧
    (watchedAnswer (run.heard 0 0x40 (askAgain [0])) 0x40 0).1 = .done ∧ run.line.standing.length < 4 ∧
    watched.hears 0x40 (askAgain [0]) = true ∧
    (watchedAnswer (watched.heard 0 0x40 (askAgain [0])) 0x40 0).1 = .done ∧
    (watched.line.standing.any fun x => x.isFor (28 : Station) 0x40 0) = false ∧ 4 ≤ watched.line.standing.length ∧
    watched.hears 0x40 { askAgain [0] with asker := 4 } = true ∧
    (watched.line.standing.any fun x => x.isFor (4 : Station) 0x40 0) = true := by
  decide

theorem witness_WatchedGroupsReadTheFigures :
    run.primary = true ∧ (mirror run).primary = false ∧ 1 < (2 : Byte).toNat ∧ 5 < (6 : Byte).toNat ∧
    (∀ n ∈ [4, 123457, 9999999],
      let s : State := { run with integ := { run.integ with tenths := n }, display := { run.display with mode := .page } }
      s.display.mode = .page ∧ s.primary = true ∧ s.integ.tenths = n ∧ s.integ.tenths ≤ 9999999) ∧
    (let s := mirror { run with display := { run.display with mode := .message } }
     s.display.mode = .message ∧ s.primary = false) ∧
    State.reset.display.mode ≠ .page ∧ State.reset.display.mode ≠ .message := by decide

/-- Section 7.7: T = 123,457 is shown as "12345.7", right-aligned in seven positions. -/
theorem test_odometer_field :
    let s : State := { run with integ := { run.integ with tenths := 123457 }, display := { run.display with mode := .page } }
    odometerField s = some { positions := [' ', '1', '2', '3', '4', '5', '7'], point := true } := by decide

theorem witness_IdentityAskIsAnswered :
    run.hears 0x50 (ask [0]) = true ∧ (ask [0]).index = 0 ∧ run.hears 0x50 (ask [1]) = true ∧ (ask [1]).index = 1 ∧
    run.hears 0x50 (ask [2]) = true ∧ 1 < (ask [2]).index.toNat := by decide

/-- The part held by another station. -/
def heldByOther : State := { run with hold := { phase := .held, station := 29, timer := some 30000, latch := false } }

theorem witness_ServiceRecordAskIsAnswered :
    (mirror run).hears 0x51 (ask [0]) = true ∧ (mirror run).primary = false ∧
    run.hears 0x51 (ask [4]) = true ∧ run.primary = true ∧ 3 < (ask [4]).index.toNat ∧
    run.hears 0x51 (ask [3]) = true ∧ (ask [3]).index.toNat ≤ 3 ∧ (ask [3]).hold = false ∧
    (let s := enableFallen run
     let s : State := { s with key := { s.key with svcEn := false } }
     s.hears 0x51 (askHolding [3]) = true ∧ s.hold.phase = .none ∧ s.key.svcEn = false) ∧
    run.hears 0x51 (askHolding [3]) = true ∧ (askHolding [3]).hold = true ∧ run.hold.phase = .none ∧ run.key.svcEn = true ∧
    held.hears 0x51 (askHolding [0]) = true ∧ held.hold.phase ≠ .none ∧ held.hold.station = (askHolding [0]).asker ∧
    heldByOther.hears 0x51 (askHolding [0]) = true ∧ heldByOther.hold.phase ≠ .none ∧
    heldByOther.hold.station ≠ (askHolding [0]).asker := by decide

/-- A store with a number of reads of another station queued behind the programming of a word. -/
def reading (s : State) (n : Nat) : State :=
  { s with store := { s.store with
      op := .word 29 5 0, opTimer := some 4, queue := List.replicate n (.read 29 7 .plain (some 1000)) } }

theorem witness_ConfigWordAskQueuesARead :
    (let s := reading run 2
     s.hears 0x52 (ask [0]) = true ∧ 2 ≤ s.store.queue.countP fun q => match q with | .read .. => true | _ => false) ∧
    (let s := reading run 1
     s.hears 0x52 (askHolding [0]) = true ∧ s.hold.phase = .none ∧ s.key.svcEn = true ∧
     (s.store.queue.countP fun q => match q with | .read .. => true | _ => false) < 2) ∧
    (let s : State := { reading run 1 with store := { (reading run 1).store with op := .reading 29 7 .plain } }
     s.hears 0x52 (ask [0]) = true ∧
     (s.store.queue.countP fun q => match q with | .read .. => true | _ => false) = 1) ∧
    run.hears 0x52 (ask [0]) = true ∧ run.store.op = .idle ∧ run.store.queue = [] ∧ run.store.suspended = none ∧
    (run.store.queue.countP fun q => match q with | .read .. => true | _ => false) < 2 ∧
    (let s : State := { run with key := { run.key with svcEn := false } }
     s.hears 0x52 (askHolding [0]) = true ∧ s.hold.phase = .none ∧ s.key.svcEn = false ∧
     (s.store.queue.countP fun q => match q with | .read .. => true | _ => false) < 2) ∧
    heldByOther.hears 0x52 (askHolding [0]) = true ∧ heldByOther.hold.phase ≠ .none ∧
    heldByOther.hold.station ≠ (askHolding [0]).asker := by decide

theorem witness_UnknownRequestsAreAnswered :
    takes .ask 0x53 = true ∧ takes .ask 0x54 = false ∧ takes .command 0x68 = false ∧ takes .command 0x5F = false ∧
    run.hears 0x54 (ask [0]) = true ∧ run.hears 0x68 (askHolding [0]) = true ∧ (askHolding [0]).hold = true ∧
    run.hold.isHolder (28 : Station) = false ∧ held.hold.isHolder (28 : Station) = true := by decide

/-! ## Witnesses: commands -/

theorem witness_StrangersAreRefused :
    (∀ g ∈ [0x60, 0x61, 0x62, 0x63, 0x64, 0x65, 0x66, 0x67],
      run.hears g (askHolding [0]) = true ∧ heldByOther.hears g (askHolding [0]) = true) ∧ run.primary = true ∧
    run.hold.phase ≠ .held ∧ heldByOther.hold.station ≠ (askHolding [0]).asker := by decide

theorem witness_HoldCommandsMoveTheHold :
    held.hears 0x60 (ask [0]) = true ∧ held.hears 0x61 (ask [0]) = true ∧ held.hold.phase = .held ∧
    held.hold.station = (ask [0]).asker ∧ heldByOther.hears 0x60 (ask [0]) = true ∧ (ask [0]).hold = false ∧
    ¬ (heldByOther.hold.phase = .held ∧ heldByOther.hold.station = (ask [0]).asker) := by decide

/-- A held part with its save ring FAILED. -/
def saveFailed (s : State) : State := { s with store := { s.store with save := { s.store.save with failed := true } } }

/-- A held part with its odometer ring FAILED. -/
def odoFailed (s : State) : State := { s with store := { s.store with odo := { s.store.odo with failed := true } } }

/-- A held part with its latch clear. -/
def unlatched : State := { held with hold := { held.hold with latch := false } }

/-- A held part with its supply low. -/
def starved : State := { held with key := { held.key with pins := { held.key.pins with supplyLow := true } } }

/-- A held part with a reset pending. -/
def resetting : State := { held with service := { held.service with reset := some { asker := 28, selector := 3 } } }

theorem witness_ServiceResetIsTaken :
    (mirror held).hears 0x62 (ask [3, 0xFC]) = true ∧ (mirror held).primary = false ∧
    (∀ s ∈ [held, unlatched, resetting, starved, saveFailed held],
      s.hears 0x62 (ask [3, 0xFC]) = true ∧ s.hold.phase = .held ∧ s.hold.station = (ask [3, 0xFC]).asker ∧ s.primary = true) ∧
    (ask [3, 0xFC]).arg 1 = some (~~~ (ask [3, 0xFC]).index) ∧ (ask [3, 0xFC]).index.toNat ≤ 3 ∧
    held.hears 0x62 (ask [3]) = true ∧ (ask [3]).arg 1 ≠ some (~~~ (ask [3]).index) ∧
    held.hears 0x62 (ask [4, 0xFB]) = true ∧ (ask [4, 0xFB]).arg 1 = some (~~~ (ask [4, 0xFB]).index) ∧
    3 < (ask [4, 0xFB]).index.toNat ∧ unlatched.hold.latch = false ∧ resetting.hold.latch = true ∧
    resetting.service.reset ≠ none ∧ starved.hold.latch = true ∧ starved.service.reset = none ∧
    starved.key.pins.supplyLow = true ∧ held.key.pins.supplyLow = false ∧ held.hold.latch = true ∧
    held.service.reset = none ∧ (saveFailed held).store.save.failed = true ∧ held.store.save.failed = false := by decide

/-- A held part whose store is busy with a configuration word. -/
def writing : State := { held with store := { held.store with op := .word 28 5 0, opTimer := some 4 } }

theorem witness_ConfigWritesEnterTheStore :
    held.hears 0x63 (ask [4]) = true ∧ 3 < (ask [4]).index.toNat ∧ (ask [3]).index.toNat ≤ 3 ∧
    (∀ s ∈ [held, unlatched, starved, writing], s.hold.phase = .held ∧ s.hold.station = (28 : Station) ∧
      s.hears 0x63 (ask [3]) = true ∧ s.hears 0x64 (ask [255, 0x12, 0x34, 0xED, 0xCB]) = true) ∧
    unlatched.hold.latch = false ∧ writing.hold.latch = true ∧ writing.store.configBusy = true ∧
    starved.hold.latch = true ∧ starved.store.configBusy = false ∧ starved.key.pins.supplyLow = true ∧
    held.hold.latch = true ∧ held.store.configBusy = false ∧ held.key.pins.supplyLow = false ∧
    held.store.op = .idle ∧ held.store.queue = [] ∧ held.store.suspended = none ∧
    (ask [255, 0x12, 0x34, 0xED, 0xCB]).word 1 = some 0x1234 ∧ (ask [255, 0x12, 0x34, 0xED, 0xCB]).word 3 = some (~~~ 0x1234) ∧
    readWord held.store.array 255 &&& 0x1234 = 0x1234 ∧
    (let s : State := { held with store := { held.store with array := [(255, 0)] } }
     s.hears 0x64 (ask [255, 0x12, 0x34, 0xED, 0xCB]) = true ∧ s.store.configBusy = false ∧
     readWord s.store.array 255 &&& 0x1234 ≠ 0x1234) ∧
    held.hears 0x64 (ask [255, 0x12, 0x34, 0xED]) = true ∧ (ask [255, 0x12, 0x34, 0xED]).word 3 = none := by decide

theorem witness_FaultClearEmptiesTheRecord :
    (let s := { held with line := { held.line with queue := [entry .fault .publish 0x48 none] } }
     s.hears 0x65 (ask [0]) = true ∧ s.hold.phase = .held ∧ s.hold.station = (ask [0]).asker ∧ s.line.has .fault = true) ∧
    held.hears 0x65 (ask [0]) = true ∧ (held.heard 0 0x65 (ask [0])).faultAny = false := by decide

theorem witness_GaugeTestSweeps :
    (let s := withChannel run .returning 300
     s.hears 0x66 (ask [0]) = true ∧ s.key.key ≠ .off ∧ s.image.gauges[0].enabled = true ∧
     s.gauges.channels[0].state ≠ .zeroing) ∧
    (ask [0]).hold = false ∧ held.hears 0x66 (askHolding [6]) = true ∧ held.hold.isHolder (askHolding [6]).asker = true ∧
    (ask [6]).index.toNat = 6 ∧ 7 < (ask [8]).index.toNat ∧ run.hears 0x66 (ask [8]) = true ∧
    run.hears 0x66 (ask [7]) = true ∧ (ask [7]).index.toNat ≤ 7 ∧ run.gauges.channels[0].state = .zeroing ∧
    off.hears 0x66 (ask [0]) = true ∧ off.key.key = .off := by decide

theorem witness_RestartIsTaken :
    (∀ s ∈ [odoFailed held, saveFailed held, odoFailed (saveFailed held)],
      s.hears 0x67 (ask [0]) = true ∧ s.hold.phase = .held ∧ s.hold.station = (ask [0]).asker ∧ s.key.restart = none ∧
      s.service.reset = none ∧ s.primary = true) ∧
    (odoFailed held).store.odo.failed = true ∧ (saveFailed held).store.odo.failed = false ∧
    held.hears 0x67 (ask [0]) = true ∧ held.hold.phase = .held ∧ held.hold.station = (ask [0]).asker ∧
    held.key.restart = none ∧ held.service.reset = none ∧ held.primary = true ∧ held.store.odo.failed = false ∧
    held.store.save.failed = false ∧ resetting.hears 0x67 (ask [0]) = true ∧ resetting.service.reset ≠ none ∧
    (mirror held).hears 0x67 (ask [0]) = true ∧ (mirror held).primary = false := by decide

/-! ## Witnesses: slots, fuel, gauges, trips -/

theorem witness_SlotExpiriesLoseTheSlot :
    (let s := withSlot run 4 (counted .fresh 0 0 (some 200) (some 500))
     isDue 200 s.slots[(4 : SlotId)].late = true ∧ s.slots[(4 : SlotId)].state = .fresh ∧
     isDue 500 s.slots[(4 : SlotId)].lost = true) ∧
    (let s := withSlot run 0 (counted .acquiring 0 0 (some 200) (some 500))
     isDue 200 s.slots[(0 : SlotId)].late = true ∧ s.slots[(0 : SlotId)].state = .acquiring ∧
     isDue 500 s.slots[(0 : SlotId)].lost = true) := by decide

/-- A part whose fuel filter works on a reading of 56 (section 2.12). -/
def fuelled (armed : Bool) (volume : Option Nat) : State :=
  let s := withSlot run 6 { counted .fresh 0 0 (some 2000) (some 5000) with value := 56 }
  { s with integ := { s.integ with volume, armed } }

theorem witness_FuelFilterTakesOneStep :
    (let s := fuelled false (some 1936)
     isDue 1000 s.integ.fuelTimer = true ∧ s.keyOn = true ∧ s.slots[(6 : SlotId)].usable = true ∧
     s.integ.volume = some 1936 ∧ s.integ.armed = false) ∧
    isDue 1000 (fuelled true (some 1936)).integ.fuelTimer = true ∧ (fuelled true (some 1936)).integ.armed = true ∧
    isDue 1000 (fuelled false none).integ.fuelTimer = true ∧ (fuelled false none).integ.volume = none ∧
    isDue 1000 run.integ.fuelTimer = true ∧ run.slots[(6 : SlotId)].usable = false ∧
    isDue 1000 off.integ.fuelTimer = true ∧ off.keyOn = false := by decide

theorem witness_ReturningPointersPark :
    (let s := withChannel run .returning 12
     isDue 20 s.gauges.updateTimer = true ∧ s.image.gauges[0].enabled = true ∧ s.gauges.channels[0].state = .returning) ∧
    isDue 20 off.gauges.updateTimer = true ∧ off.gauges.channels[0].state = .parked ∧
    isDue 20 (disabled run).gauges.updateTimer = true ∧ (disabled run).image.gauges[0].enabled = false := by decide

theorem witness_PointersFollowTheirSources :
    (∀ g ∈ [GaugeState.tracking, .holding, .resting, .sweepUp, .sweepDown],
      isDue 20 (withChannel run g 0).gauges.updateTimer = true ∧ (withChannel run g 840).image.gauges[0].enabled = true ∧
      (withChannel run g 840).gauges.channels[0].state = g) ∧
    (withChannel run .sweepUp 840).gauges.channels[0].position ≤ (withChannel run .sweepUp 840).image.gauges[0].fs := by
  decide

/-- A part with every one of its plain timers due. -/
def timersDue : State :=
  { withSlot run 11 { counted .fresh 0 0 none none with value := 1 } with
    key := { run.key with quiet := some 20 }
    trip := { run.trip with window := some 20, tripTimer := some 20 }
    monitor := { run.monitor with bulbTimer := some 20 }
    service := { run.service with secTimer := some 20 }
    line := { run.line with statusTimer := some 20, standing := [⟨28, 0x40, 0, [], some 20, true⟩] } }

theorem witness_TripSecondIsCounted : isDue 20 timersDue.trip.tripTimer = true := by decide

theorem witness_PlainTimersRunOut :
    isDue 20 timersDue.key.quiet = true ∧ isDue 20 timersDue.trip.window = true ∧ isDue 20 timersDue.monitor.bulbTimer = true ∧
    isDue 20 timersDue.service.secTimer = true ∧ isDue 20 timersDue.line.statusTimer = true ∧
    timersDue.line.standing = [] ++ ⟨28, 0x40, 0, [], some 20, true⟩ :: [] ∧
    (⟨28, 0x40, 0, [], some 20, true⟩ : StandingAsk).isFor 28 0x40 0 = true ∧ isDue 20 (some 20) = true := by decide

/-- A part whose one registration is due with its spacing timer run out; another index of its group may stand in the way. -/
def spaced (last : List Byte) (barred : Bool) : State :=
  { run with line := { run.line with
      queue := if barred then [{ entry .standing .reply 0x40 (some 28) with index := 1 }] else []
      standing := [⟨28, 0x40, 0, last, some 20, true⟩] } }

theorem witness_PlainTimersRunOut_spacing :
    (∀ barred : Bool, ∀ last ∈ [[0, 0, 0, 0], [0, 0, 0, (9 : Byte)]],
      let s := spaced last barred
      let r : StandingAsk := ⟨28, 0x40, 0, last, some 20, true⟩
      s.line.standing = [r] ∧ r.due = true ∧ isDue 20 r.spacing = true ∧ s.handed = .nothing ∧ s.line.pending = [] ∧
      (watchedAnswer s r.group r.index).2 = [0, 0, 0, 0] ∧ s.line.canReply .standing r.asker r.group = !barred) := by decide

/-- R186: at the expiry the due mark goes where the bytes are those last sent, though the reply could not join. -/
theorem test_due_mark_goes :
    ((after (execSpacingTimerExpiry 20 28 0x40 0 (spaced [0, 0, 0, 0] true))).line.standing.map (·.due)) = [false] := by decide

theorem witness_AverageSpeedIsRounded :
    (let r : TripRecord := { dist := 10000, fuel := 0, secs := 60 }
     60 ≤ r.secs ∧ 10 * 1000 ≤ r.dist) ∧
    (let r : TripRecord := { dist := 9999, fuel := 0, secs := 60 }
     r.secs < 60 ∨ r.dist < 10 * 1000) ∧
    (let r : TripRecord := { dist := 10000, fuel := 0, secs := 59 }
     r.secs < 60 ∨ r.dist < 10 * 1000) := by decide

/-! ## Witnesses: warnings, chime, display -/

/-- A part whose entry 4 tests the service state, in a state and with a condition of its own. -/
def tested (arg : Nat) (debounce : Nat) (state : WarningState) (condition : Bool) : State :=
  let s := warned 4 state
  let d := s.image.warnings[4]
  { s with
    image := { s.image with warnings := s.image.warnings.set 4 { d with
      debounce, first := { d.first with source := .serviceState, kind := .below, arg }, second := none } }
    monitor := { s.monitor with entries := s.monitor.entries.set 4 { s.monitor.entries[4] with condition } } }

/-- The cases of an evaluation: a condition become true with and without a debounce time, one become false in each state, and a
holder of the chime. -/
theorem witness_WarningsBecomeActive_evaluation :
    (let now (s : State) := (judge s s.image.warnings[4] s.monitor.entries[4]).2.2
     (∀ debounce ∈ [0, 5], now (tested 1 debounce .inactive false) = true ∧
       (tested 1 debounce .inactive false).image.warnings[4].enabled = true) ∧
     (∀ state ∈ [WarningState.pending, .active, .acknowledged, .silenced], now (tested 0 0 state true) = false) ∧
     (let s := tested 0 0 .active true
      let s : State := { s with chime := { s.chime with phase := .sounding, holder := some 4 } }
      now s = false ∧ (4 : EntryId) ∈ s.monitor.active ∧ s.monitor.active.length ≤ 16)) ∧
    run.image.warnings[4].allows .run = true ∧
    (∃ e : EntryId, run.image.warnings[e].allows .off = false) ∧
    (∃ e : EntryId, run.image.warnings[e].lossHolds = true ∧ sourceValue run run.image.warnings[e].first.source = none) ∧
    (∃ e : EntryId, run.image.warnings[e].second ≠ none) ∧
    (∃ e : EntryId, run.image.warnings[e].enabled = false) := by decide

theorem witness_WarningsBecomeActive :
    (warned 4 .pending).monitor.entries[4].state = .pending ∧ isDue 20 (warned 4 .pending).monitor.entries[4].debounce = true ∧
    (warned 4 .acknowledged).monitor.entries[4].state = .acknowledged ∧
    isDue 20 (warned 4 .acknowledged).monitor.entries[4].remind = true ∧ run.image.warnings[4].pattern = some .single ∧
    run.image.warnings[7].pattern = none ∧ (warned 7 .pending).monitor.entries[7].state = .pending := by decide

theorem witness_StrikesSound :
    isDue 400 (sounding .triple none false).chime.strikeTimer = true ∧
    isDue 150 (sounding .triple (some 150) false).chime.strikeEnd = true ∧
    isDue 150 (sounding .triple (some 150) true).chime.strikeEnd = true := by decide

theorem witness_PhrasesEndInAGap :
    (sounding .tone none false).chime.holder = some 5 ∧ isDue 1200 (sounding .tone none false).chime.phraseTimer = true ∧
    isDue 150 (sounding .tone none true).chime.cutTimer = true ∧ (sounding .tone none true).chime.cutPending = true ∧
    isDue 1000 (sounding .tone none false).chime.preempt = true ∧
    150 ≤ ((1000 : Stamp) - (sounding .tone none false).chime.granted).toNat ∧
    (sounding .triple none false).chime.pattern ≠ .tone ∧ (sounding .triple none false).chime.strikeEnd = none ∧
    (sounding .triple (some 150) false).chime.strikeEnd ≠ none ∧
    (let s := sounding .tone none false
     let s : State := { s with chime := { s.chime with granted := 851 } }
     isDue 1000 s.chime.preempt = true ∧ ((1000 : Stamp) - s.chime.granted).toNat < 150) ∧
    (warned 5 .active).monitor.entries[5].state = .active ∧ run.image.warnings[5].repeatLimit ≠ 0 ∧
    run.image.warnings[6].repeatLimit = 0 ∧ min 15 ((warned 5 .active).monitor.entries[5].phrases + 1) <
      run.image.warnings[5].repeatLimit := by decide

theorem witness_GapExpiryDecides :
    (let s : State := { run with chime := { Chime.cleared with phase := .gap, gapTimer := some 200 } }
     isDue 200 s.chime.gapTimer = true ∧ ∀ e : EntryId, s.chime.requests[e] = none) ∧
    (let s : State := { run with chime := { Chime.cleared with
        phase := .gap, gapTimer := some 200, requests := Chime.cleared.requests.set 15 (some ⟨.low, .slow⟩) } }
     isDue 200 s.chime.gapTimer = true ∧ s.chime.requests[(15 : EntryId)] = some ⟨.low, .slow⟩ ∧ s.chime.highPtr = none ∧
     ∀ j : EntryId, j ≠ 15 → s.chime.requests[j] = none) ∧
    (∀ high ∈ [none, some (2 : EntryId), some 9],
      let s : State := { run with chime := { Chime.cleared with
        phase := .gap, gapTimer := some 200, highPtr := high
        requests := ((Chime.cleared.requests.set 5 (some ⟨.high, .tone⟩)).set 9 (some ⟨.high, .triple⟩)).set 15
          (some ⟨.low, .slow⟩) } }
      isDue 200 s.chime.gapTimer = true ∧ s.chime.highPtr = high ∧ s.chime.requests[(5 : EntryId)] = some ⟨.high, .tone⟩ ∧
      s.chime.requests[(9 : EntryId)] = some ⟨.high, .triple⟩ ∧ s.chime.requests[(15 : EntryId)] = some ⟨.low, .slow⟩) ∧
    (let s : State := { run with chime := { Chime.cleared with
       phase := .gap, gapTimer := some 200, highPtr := some 9
       requests := Chime.cleared.requests.set 5 (some ⟨.high, .tone⟩) } }
     isDue 200 s.chime.gapTimer = true ∧ s.chime.requests[(5 : EntryId)] = some ⟨.high, .tone⟩ ∧
     ∀ j : EntryId, j ≠ 5 → s.chime.requests[j] = none) := by decide

/-- The cases of the preempt timer: a first request in a phrase, and a withdrawal that leaves another request or none. -/
theorem witness_GapExpiryDecides_preempt :
    (∀ state ∈ [WarningState.pending, .acknowledged],
      let s : State := { warned 4 state with chime := { (sounding .slow none false).chime with
        preempt := none, requests := Chime.cleared.requests.set 5 (some ⟨.high, .slow⟩) } }
      s.monitor.entries[4].state = state ∧ isDue 20 s.monitor.entries[4].debounce = true ∧
      isDue 20 s.monitor.entries[4].remind = true ∧ s.image.warnings[4].pattern = some .single ∧
      s.chime.phase = .sounding ∧ s.chime.cutPending = false ∧ s.chime.holder ≠ some 4 ∧
      ¬ ∃ j : EntryId, s.chime.requests[j] ≠ none ∧ s.chime.holder ≠ some j) ∧
    (let c := (sounding .slow none true).chime
     let one : Chime := { c with requests := (Chime.cleared.requests.set 5 (some ⟨.high, .slow⟩)).set 4 (some ⟨.low, .tone⟩) }
     c.phase = .sounding ∧ c.holder = some 5 ∧ (∃ j : EntryId, j ≠ 4 ∧ c.requests[j] ≠ none ∧ c.holder ≠ some j) ∧
     one.phase = .sounding ∧ one.holder ≠ some 4 ∧
     ¬ ∃ j : EntryId, j ≠ 4 ∧ one.requests[j] ≠ none ∧ one.holder ≠ some j) := by decide

/-- Two persistent messages of one priority and a TIMED one below them. -/
def showing (switch : Bool) : State :=
  let p : Message := { id := 4, priority := 1, stamp := 0, duration := none, timer := none, owners := [.warning 3] }
  let q : Message := { id := 5, priority := 1, stamp := 1, duration := none, timer := none, owners := [.warning 4] }
  let r : Message := { id := 20, priority := 2, stamp := 2, duration := some 4, timer := some 20, owners := [.service] }
  { run with display := { run.display with
      mode := .message, queue := [p, q, r], shown := some 4, minimum := some 20, rotation := some 20, refresh := some 20
      switchPending := switch } }

theorem witness_DisplayTimersMoveTheLine :
    (let s := showing true
     isDue 20 s.display.minimum = true ∧ s.display.shown = some 4 ∧ hasId (eligible s.display.queue) 4 = true ∧
     s.display.switchPending = true) ∧
    (let s := showing true
     let s : State := { s with display := { s.display with shown := some 9 } }
     isDue 20 s.display.minimum = true ∧ s.display.switchPending = true ∧ hasId (eligible s.display.queue) 9 = false ∧
     (eligible s.display.queue).map (·.id) = [4, 5]) ∧
    (let s := showing false
     isDue 20 s.display.rotation = true ∧ (eligible s.display.queue).map (·.id) = [4, 5] ∧ s.display.shown = some 4 ∧
     isDue 20 s.display.refresh = true ∧
     ∃ m ∈ s.display.queue, m.id = 20 ∧ m.duration ≠ none ∧ isDue 20 m.timer = true) := by decide

/-! ## Witnesses: the hold and the store -/

theorem witness_HoldExpires :
    (let s := awaiting { held with store := { held.store with queue := [.program 28 7 0] } } 0x64 7
     isDue 30000 s.hold.timer = true ∧ s.hold.phase = .held ∧ StoreRequest.program 28 7 0 ∈ s.store.queue ∧
     (⟨28, 0x64, 7, .waiting⟩ : PendingAnswer) ∈ s.line.pending) ∧ (ask [7]).asker = 28 ∧ (ask [7]).index = 7 ∧
    (∀ s ∈ [ending 3, endingCarried], isDue 30000 s.hold.timer = true ∧ s.hold.phase = .held) := by decide

/-- A reset that the record under way carries. -/
def carrying (s : State) : State :=
  { s with
    service := { s.service with reset := some { asker := 28, selector := 3 } }
    store := { s.store with
      op := .record .save (.save false true false true false) (List.replicate 32 0) 31 false 0, opTimer := some 4 } }

/-- A record that is to be abandoned at the end of its word. -/
def abandoning (s : State) : State :=
  { s with store := { s.store with op := match s.store.op with
      | .record r q words pos _ tenths => .record r q words pos true tenths
      | op => op } }

/-- An odometer record at its second word, with two failed ones before it. -/
def thirdTry : State :=
  { run with store := { run.store with
      op := .record .odo (.commit false true false) (odoRecord 7) 1 false 7, opTimer := some 4
      odo := { run.store.odo with fails := 2 } } }

theorem witness_RecordWordsAreProgrammed :
    (∀ s ∈ [saving run 30 0, carrying run, abandoning (saving run 30 0), abandoning (carrying run)], StoreLaw s ∧
      isDue 4 s.store.opTimer = true ∧
      slotAddress .save (s.store.ring .save).current (s.store.ring .save).next 31 < 1024 ∧ (s.store.ring .save).fails < 2 ∧
      readWord s.store.array (slotAddress .save (s.store.ring .save).current (s.store.ring .save).next 31) &&&
        (nthWord (List.replicate 32 0) 31 ||| 0) = nthWord (List.replicate 32 0) 31 ∧
      readWord s.store.array (slotAddress .save (s.store.ring .save).current (s.store.ring .save).next 31) &&&
        (nthWord (List.replicate 32 0) 31 ||| 1) ≠ nthWord (List.replicate 32 0) 31) ∧
    (saving run 30 0).store.op = .record .save (.save true false false false false) (List.replicate 32 0) 30 false 0 ∧
    (carrying run).store.op = .record .save (.save false true false true false) (List.replicate 32 0) 31 false 0 ∧
    (abandoning (carrying run)).store.op = .record .save (.save false true false true false) (List.replicate 32 0) 31 true 0 ∧
    (carrying run).service.reset = some { asker := 28, selector := 3 } ∧ 30 + 1 < (List.replicate 32 (0 : Word)).length ∧
    31 + 1 = (List.replicate 32 (0 : Word)).length ∧
    (let s := thirdTry
     StoreLaw s ∧ isDue 4 s.store.opTimer = true ∧ s.store.op = .record .odo (.commit false true false) (odoRecord 7) 1 false 7 ∧
     2 ≤ (s.store.ring .odo).fails ∧ slotAddress .odo (s.store.ring .odo).current (s.store.ring .odo).next 1 < 1024 ∧
     readWord s.store.array (slotAddress .odo (s.store.ring .odo).current (s.store.ring .odo).next 1) &&&
       (nthWord (odoRecord 7) 1 ||| ~~~ (nthWord (odoRecord 7) 1)) ≠ nthWord (odoRecord 7) 1) := by
  unfold StoreLaw
  decide

/-- A store with an erase attempt due. -/
def erasing (owner : EraseOwner) (block : BlockId) (attempt : Nat) : State :=
  awaiting { held with store := { held.store with
      array := [(64 * block.val + 63, 5)], op := .erasing { owner, block, attempt, spent := 0 } 0, opTimer := some 16 } }
    0x63 (BitVec.ofNat 8 block.val)

theorem witness_ConfigWritesComplete :
    (let s := awaiting { held with store := { held.store with op := .word 28 255 0x1234, opTimer := some 4 } } 0x64 255
     isDue 4 s.store.opTimer = true ∧ s.store.op = .word (ask [255]).asker (ask [255]).index 0x1234 ∧
     (⟨28, 0x64, 255, .waiting⟩ : PendingAnswer) ∈ s.line.pending ∧
     readWord s.store.array 255 &&& (0x1234 ||| 0) = 0x1234 ∧ readWord s.store.array 255 &&& (0x1234 ||| 1) ≠ 0x1234) ∧
    (let s := erasing (.config 28) 3 3
     isDue 16 s.store.opTimer = true ∧
     s.store.op = .erasing { owner := .config (ask [3]).asker, block := 3, attempt := 3, spent := 0 } 0 ∧
     (⟨28, 0x63, 3, .waiting⟩ : PendingAnswer) ∈ s.line.pending ∧ (ask [3]).index = BitVec.ofNat 8 3 ∧
     blockIsBlank (eraseBlock s.store.array 3 []) 3 = true ∧
     blockIsBlank (eraseBlock s.store.array 3 [(63, 1)]) 3 = false) ∧
    (let s := erasing (.ring .odo) 7 2
     isDue 16 s.store.opTimer = true ∧ s.store.op = .erasing { owner := .ring .odo, block := 7, attempt := 2, spent := 0 } 0 ∧
     blockIsBlank (eraseBlock s.store.array 7 []) 7 = true ∧
     blockIsBlank (eraseBlock s.store.array 7 [(0, 1)]) 7 = false) ∧
    (let s := erasing (.ring .save) 15 3
     s.store.op = .erasing { owner := .ring .save, block := 15, attempt := 3, spent := 0 } 0 ∧
     blockIsBlank (eraseBlock s.store.array 15 [(63, 1)]) 15 = false) ∧
    (let good (s : State) (b : BlockId) : Bool := decide ((s.store.conditions.set 4 .bad)[b] ≠ .bad)
     let s (left : BlockCondition) : State :=
       let s := erasing (.ring .odo) 4 3
       { s with store := { s.store with conditions := ((s.store.conditions.set 5 .bad).set 6 left).set 7 .used } }
     (s .bad).store.op = .erasing { owner := .ring .odo, block := 4, attempt := 3, spent := 0 } 0 ∧
     isDue 16 (s .bad).store.opTimer = true ∧ (s .bad).store.odo.current = 4 ∧
     blockIsBlank (eraseBlock (s .bad).store.array 4 [(0, 1)]) 4 = false ∧
     (ringBlocks .odo).countP (good (s .bad)) < 2 ∧ 2 ≤ (ringBlocks .odo).countP (good (s .used))) := by
  decide

/-- A ring erase that fails its third blank check leaves two good blocks, and then one (R156, R157). -/
theorem test_ring_fails_with_one_good_block :
    let s (left : BlockCondition) : State :=
      let s := erasing (.ring .odo) 4 3
      { s with store := { s.store with conditions := ((s.store.conditions.set 5 .bad).set 6 left).set 7 .used } }
    let x (left : BlockCondition) := after (execEraseAttemptEnd 16 [(0, 1)] (s left))
    (x .bad).store.odo.failed = true ∧ (x .bad).faults.newest = some .nvFailed ∧ (x .used).store.odo.failed = false ∧
    (x .used).store.odo.current = 6 := by decide

/-- A read due, as a plain one, a claim, or a claim dropped. -/
def readingWord (claim : Claim) : State :=
  awaiting { opening with store := { run.store with op := .reading 28 7 claim, opTimer := some 1 } } 0x52 7

/-- The same read still waiting in the queue. -/
def readWaiting (claim : Claim) : State :=
  awaiting { opening with store := { run.store with
      op := .word 29 5 0, opTimer := some 4, queue := [.read 29 7 .plain (some 1000), .read 28 7 claim (some 1000)] } } 0x52 7

theorem witness_ReadsAreAnswered :
    (∀ c ∈ [Claim.plain, .claiming, .dropped],
      isDue 1 (readingWord c).store.opTimer = true ∧
      (readingWord c).store.op = .reading (ask [7]).asker (ask [7]).index c ∧
      (⟨28, 0x52, 7, .waiting⟩ : PendingAnswer) ∈ (readingWord c).line.pending ∧
      (readWaiting c).store.queue = [.read 29 7 .plain (some 1000)] ++ .read (ask [7]).asker (ask [7]).index c (some 1000) :: [] ∧
      isDue 1000 (some 1000) = true ∧ (⟨28, 0x52, 7, .waiting⟩ : PendingAnswer) ∈ (readWaiting c).line.pending) ∧
    (∀ q ∈ [StoreRequest.read 29 7 .plain (some 1000)], ∀ c k, q ≠ .read (ask [7]).asker (ask [7]).index c k) := by
  refine ⟨by decide, ?_⟩
  intro q hq c k
  simp only [List.mem_singleton] at hq
  subst hq
  intro h
  injection h with h
  exact absurd h (by decide)

theorem witness_EarlyExpiriesMoveOnlyTheTime :
    isDue (Instr.gapExpiry 199).stamp (some 200) = false ∧ isDue (Instr.gapExpiry 199).stamp run.chime.gapTimer = false := by
  decide

/-! ## Witnesses: encodings and laws -/

theorem witness_FramesAndRecordsReadBack :
    ({ urgency := 2, origin := 12, group := 0x60, kind := .reply, hold := false, again := false
       data := [0x1C, 0, 0, 0, 0, 0] } : Telegram).data.length ≤ 6 ∧ (9999999 : Nat) ≤ 9999999 ∧
    ({ run with integ := { run.integ with tenths := 9999999 } } : State).integ.tenths ≤ 9999999 := by decide

/-- A state with a command waiting. -/
def waking (s : State) : State := { s with pending := [.wake 0] }

theorem witness_StepKeepsTheMessageQueue : DisplayLaw (waking (showing false)) ∧ ∃ x, step (waking (showing false)) = .next x :=
  ⟨by unfold DisplayLaw; decide, _, rfl⟩

theorem witness_StepKeepsTheHold : HoldLaw (waking held) ∧ ∃ x, step (waking held) = .next x :=
  ⟨by unfold HoldLaw; decide, _, rfl⟩

theorem witness_StepKeepsTheLineLists : LineLaw (waking (sending 7)) ∧ ∃ x, step (waking (sending 7)) = .next x :=
  ⟨by unfold LineLaw; decide, _, rfl⟩

theorem witness_StepKeepsTheOdometer : OdometerLaw (waking run) ∧ ∃ x, step (waking run) = .next x :=
  ⟨by unfold OdometerLaw; decide, _, rfl⟩

theorem witness_StepKeepsThePointers : GaugeLaw (waking off) ∧ ∃ x, step (waking off) = .next x :=
  ⟨by unfold GaugeLaw; decide, _, rfl⟩

theorem witness_StepKeepsTheStore : StoreLaw (waking (saving run 31 0)) ∧ ∃ x, step (waking (saving run 31 0)) = .next x :=
  ⟨by unfold StoreLaw; decide, _, rfl⟩

end Sys2Proof.Tests
end

section
/-! The average speed of a trip (R41): the two sides of the bracket in which a quotient rounded to nearest lies, the two cases
of `averageSpeed`, and O42. -/

namespace Sys2Proof.Machine

/-- Halves go up: a quotient exactly half a unit above a whole number meets this bound with equality at the next one. -/
theorem two_mul_mul_roundDiv_le (a b : Nat) : 2 * b * roundDiv a b ≤ 2 * a + b :=
  Nat.mul_div_le (2 * a + b) (2 * b)

/-- The quotient lies less than half a unit above its rounding. -/
theorem lt_two_mul_mul_roundDiv_succ (a : Nat) {b : Nat} (hb : 0 < b) : 2 * a + b < 2 * b * (roundDiv a b + 1) :=
  Nat.lt_mul_div_succ (2 * a + b) (Nat.mul_pos two_pos hb)

theorem averageSpeed_of_short {p : Nat} {r : TripRecord} (hshort : r.secs < 60 ∨ r.dist < 10 * p) : averageSpeed p r = none :=
  if_pos hshort

theorem averageSpeed_of_long {p : Nat} {r : TripRecord} (hsecs : 60 ≤ r.secs) (hdist : 10 * p ≤ r.dist) :
    averageSpeed p r = some (min (roundDiv (r.dist * 3600) (p * r.secs)) 3000) :=
  if_neg (not_or.mpr ⟨hsecs.not_gt, hdist.not_gt⟩)

/-- Settles O42: the two cases of `averageSpeed`, with the rounded quotient itself as the one that the bracket asks for; the
divisor P S is positive because a trip with a value has run a minute. -/
theorem averageSpeedIsRounded : Obligations.AverageSpeedIsRounded := by
  refine ⟨fun _ _ hshort => averageSpeed_of_short hshort, ?_, by decide⟩
  intro p r hp hsecs hdist
  have hdivisor : 0 < p * r.secs := Nat.mul_pos hp (by omega)
  exact ⟨_, averageSpeed_of_long hsecs hdist, two_mul_mul_roundDiv_le _ _, lt_two_mul_mul_roundDiv_succ _ hdivisor⟩

end Sys2Proof.Machine
end

section
/-! The Gauge Drive by itself (chapter 3): what the key turned OFF and a gauge update make of one channel by its state, and of
the six channels by their calibrations. -/

namespace Sys2Proof.Machine

/-- A pointer moved toward 0 goes down by the limit, or by its position if that is less (R52, R60). -/
theorem moveToward_zero (p limit : Nat) : moveToward p 0 limit = p - min p limit := by
  unfold moveToward
  split
  · split <;> omega
  · split <;> omega

namespace Channel

/-- The channels that R59 sends to RETURNING. -/
theorem keyOff_of_moving {ch : Channel}
    (h : ch.state ∈ [GaugeState.sweepUp, .sweepDown, .tracking, .holding, .resting]) :
    ch.keyOff = { ch with state := .returning } := by
  simp only [List.mem_cons, List.not_mem_nil, or_false] at h
  obtain h | h | h | h | h := h <;> simp only [keyOff, h]

/-- The channels that R59 leaves as they are. -/
theorem keyOff_of_not_moving {ch : Channel} (h : ch.state ∈ [GaugeState.zeroing, .returning, .parked]) : ch.keyOff = ch := by
  simp only [List.mem_cons, List.not_mem_nil, or_false] at h
  obtain h | h | h := h <;> simp only [keyOff, h]

variable (c : Calibration) (status : SourceStatus) (sweep keyOn : Bool) {ch : Channel}

/-- The update at which the zeroing count runs out (R56, R57). -/
theorem update_of_zeroing_done (h : ch.state = .zeroing) (hcount : ch.zeroCount ≤ 6) :
    ch.update c status sweep keyOn =
      { ch with
        zeroCount := 0, position := 0, filter := 0
        state := if keyOn then (if sweep then .sweepUp else .tracking) else .parked } := by
  have hzero : ch.zeroCount - min 6 ch.zeroCount = 0 := by omega
  cases keyOn <;> simp [update, depart, h, hzero]

theorem update_of_returning (h : ch.state = .returning) :
    ch.update c status sweep keyOn =
      { ch with
        position := ch.position - min ch.position c.returnSlew
        state := if ch.position - min ch.position c.returnSlew = 0 then .parked else .returning } := by
  simp only [update, h, moveToward_zero]

theorem update_of_parked (h : ch.state = .parked) : ch.update c status sweep keyOn = ch := by
  simp only [update, h]

end Channel

theorem commanded_of_returning (c : Calibration) {ch : Channel} (h : ch.state = .returning) : commanded c ch = 0 := by
  simp only [commanded, h]

theorem commanded_of_parked (c : Calibration) {ch : Channel} (h : ch.state = .parked) : commanded c ch = 0 := by
  simp only [commanded, h]

theorem driveHeld_eq_false_iff (ch : Channel) : driveHeld ch = false ↔ ch.state = .parked := by
  simp [driveHeld]

theorem gaugeUpdate_of_enabled {s : State} {i : Fin 6} (h : s.image.gauges[i].enabled = true) :
    (gaugeUpdate s)[i] =
      s.gauges.channels[i].update s.image.gauges[i] (gaugeSource s i) s.image.params.sweep s.keyOn := by
  simp only [Fin.getElem_fin] at h
  simp [gaugeUpdate, h]

theorem gaugeUpdate_of_disabled {s : State} {i : Fin 6} (h : s.image.gauges[i].enabled = false) :
    (gaugeUpdate s)[i] = s.gauges.channels[i] := by
  simp only [Fin.getElem_fin] at h
  simp [gaugeUpdate, h]

/-- A PARKED channel stays through an update, be it enabled or not (R47, R60). -/
theorem gaugeUpdate_of_parked {s : State} {i : Fin 6} (h : s.gauges.channels[i].state = .parked) :
    (gaugeUpdate s)[i] = s.gauges.channels[i] := by
  cases he : s.image.gauges[i].enabled with
  | true => rw [gaugeUpdate_of_enabled he, Channel.update_of_parked _ _ _ _ h]
  | false => exact gaugeUpdate_of_disabled he

@[simp] theorem State.mapChannels_updateTimer (s : State) (f : Channel → Channel) :
    (s.mapChannels f).gauges.updateTimer = s.gauges.updateTimer := rfl

theorem State.mapChannels_of_enabled {s : State} {i : Fin 6} (f : Channel → Channel)
    (h : s.image.gauges[i].enabled = true) : (s.mapChannels f).gauges.channels[i] = f s.gauges.channels[i] := by
  simp only [Fin.getElem_fin] at h
  simp [State.mapChannels, h]

theorem State.mapChannels_of_disabled {s : State} {i : Fin 6} (f : Channel → Channel)
    (h : s.image.gauges[i].enabled = false) : (s.mapChannels f).gauges.channels[i] = s.gauges.channels[i] := by
  simp only [Fin.getElem_fin] at h
  simp [State.mapChannels, h]

end Sys2Proof.Machine
end

section
/-! A gauge update taken as an event, and O38. -/

namespace Sys2Proof.Machine

/-- The state after a gauge update, before its event closes (R49). -/
def State.gaugesUpdated (s : State) (t : Stamp) : State :=
  { s with now := t, gauges := { channels := gaugeUpdate (s.stamped t), updateTimer := some (t + 20) } }

theorem exec_gaugeUpdateExpiry_of_due {t : Stamp} {s : State} (hdue : isDue t s.gauges.updateTimer = true) :
    exec (.gaugeUpdateExpiry t) s = .next (State.close s (s.gaugesUpdated t)) := by
  change Host.Outcome.next (State.close s (if isDue t s.gauges.updateTimer then _ else _)) = _
  rw [if_pos hdue]
  rfl

/-- A RETURNING channel comes out of its update PARKED exactly where the return slew reaches 0. -/
theorem driveHeld_update_of_returning (c : Calibration) (status : SourceStatus) (sweep keyOn : Bool) {ch : Channel}
    (h : ch.state = .returning) :
    driveHeld (ch.update c status sweep keyOn) = false ↔ ch.position ≤ c.returnSlew := by
  rw [driveHeld_eq_false_iff, Channel.update_of_returning c status sweep keyOn h]
  have hreach : ch.position - min ch.position c.returnSlew = 0 ↔ ch.position ≤ c.returnSlew := by omega
  simp [hreach]

/-- RETURNING and PARKED both command 0 (section 3.3), and an update of a RETURNING channel leaves it in one of them. -/
theorem commanded_update_of_returning (c : Calibration) (status : SourceStatus) (sweep keyOn : Bool) {ch : Channel}
    (h : ch.state = .returning) : commanded c (ch.update c status sweep keyOn) = 0 := by
  rw [Channel.update_of_returning c status sweep keyOn h]
  split
  · exact commanded_of_parked c rfl
  · exact commanded_of_returning c rfl

/-- Settles O38: the close leaves the channels that `gaugeUpdate` made, and each of them is read off by its state. -/
theorem returningPointersPark : Obligations.ReturningPointersPark := by
  intro t s hdue
  refine ⟨_, exec_gaugeUpdateExpiry_of_due hdue, ?_, ?_,
    fun i => ⟨fun henabled hret => ?_, fun hparked => ?_, fun hdisabled => ?_⟩⟩
  · rw [State.close_gauges]
    exact State.close_traffic s (s.gaugesUpdated t)
  · rw [State.close_gauges]
    rfl
  · have hchannel : (State.close s (s.gaugesUpdated t)).gauges.channels[i] =
        s.gauges.channels[i].update s.image.gauges[i] (gaugeSource (s.stamped t) i) s.image.params.sweep s.keyOn := by
      rw [State.close_gauges]
      exact gaugeUpdate_of_enabled (s := s.stamped t) henabled
    rw [hchannel]
    exact ⟨commanded_of_returning _ hret, commanded_update_of_returning _ _ _ _ hret,
      Channel.update_of_returning _ _ _ _ hret, driveHeld_update_of_returning _ _ _ _ hret⟩
  · refine ⟨?_, commanded_of_parked _ hparked, (driveHeld_eq_false_iff _).mpr hparked⟩
    rw [State.close_gauges]
    exact gaugeUpdate_of_parked (s := s.stamped t) hparked
  · rw [State.close_gauges]
    exact gaugeUpdate_of_disabled (s := s.stamped t) hdisabled

end Sys2Proof.Machine
end

section
/-! A change of key state taken block by block (R189): only the Gauge Drive's part of it moves the channels, and no part moves
the key record; with O10. -/

namespace Sys2Proof.Machine

section

variable (s : State)

@[simp] theorem State.gaugesTakeKey_key (before : KeyState) : (s.gaugesTakeKey before).key = s.key := by
  unfold State.gaugesTakeKey; (repeat' split) <;> rfl

@[simp] theorem State.warningsTakeKey_gauges (firstRun : Bool) : (s.warningsTakeKey firstRun).gauges = s.gauges := by
  unfold State.warningsTakeKey; dsimp only; (repeat' split) <;> simp

@[simp] theorem State.warningsTakeKey_key (firstRun : Bool) : (s.warningsTakeKey firstRun).key = s.key := by
  unfold State.warningsTakeKey; dsimp only; (repeat' split) <;> simp

@[simp] theorem State.announce_gauges : s.announce.gauges = s.gauges := by unfold State.announce; split <;> rfl

@[simp] theorem State.announce_key : s.announce.key = s.key := by unfold State.announce; split <;> rfl

@[simp] theorem State.serviceTakesKey_gauges (before : KeyState) (firstRun : Bool) :
    (s.serviceTakesKey before firstRun).gauges = s.gauges := by
  unfold State.serviceTakesKey; dsimp only; (repeat' split) <;> simp

@[simp] theorem State.serviceTakesKey_key (before : KeyState) (firstRun : Bool) :
    (s.serviceTakesKey before firstRun).key = s.key := by
  unfold State.serviceTakesKey; dsimp only; (repeat' split) <;> simp

@[simp] theorem State.tripTakesKey_gauges (before : KeyState) : (s.tripTakesKey before).gauges = s.gauges := by
  unfold State.tripTakesKey; (repeat' split) <;> rfl

@[simp] theorem State.tripTakesKey_key (before : KeyState) : (s.tripTakesKey before).key = s.key := by
  unfold State.tripTakesKey; (repeat' split) <;> rfl

@[simp] theorem State.integTakesKey_gauges (before : KeyState) : (s.integTakesKey before).gauges = s.gauges := by
  unfold State.integTakesKey; split <;> rfl

@[simp] theorem State.integTakesKey_key (before : KeyState) : (s.integTakesKey before).key = s.key := by
  unfold State.integTakesKey; split <;> rfl

/-- A key-off save made for no RESTART closes none, so it leaves the key record with its restart wait. -/
@[simp] theorem State.keyOffSave_false_key : (s.keyOffSave false).key = s.key := by simp [State.keyOffSave]

@[simp] theorem State.storeTakesKey_gauges : s.storeTakesKey.gauges = s.gauges := by
  unfold State.storeTakesKey; split <;> simp

@[simp] theorem State.storeTakesKey_key : s.storeTakesKey.key = s.key := by
  unfold State.storeTakesKey; split <;> simp

@[simp] theorem State.lineTakesKey_gauges (before : KeyState) : (s.lineTakesKey before).gauges = s.gauges := by
  unfold State.lineTakesKey; (repeat' split) <;> rfl

@[simp] theorem State.lineTakesKey_key (before : KeyState) : (s.lineTakesKey before).key = s.key := by
  unfold State.lineTakesKey; (repeat' split) <;> rfl

theorem State.takeKey_key_key (after : KeyState) : (s.takeKey after).key.key = after := by
  simp [State.takeKey]

/-- The Gauge Drive's part of a change to OFF is all that moves the channels. -/
theorem State.takeKey_off_gauges : (s.takeKey .off).gauges = (s.mapChannels Channel.keyOff).gauges := by
  simp only [State.takeKey, State.lineTakesKey_gauges, State.storeTakesKey_gauges, State.displayTakesKey_gauges,
    State.integTakesKey_gauges, State.tripTakesKey_gauges, State.serviceTakesKey_gauges, State.warningsTakeKey_gauges]
  rfl

end

theorem exec_keyStateChange_of_due {t : Stamp} {s : State} (hstarted : s.key.started = true)
    (hdue : isDue t s.key.keyTimer = true) :
    exec (.keyStateChange t) s = .next (State.close s
      (State.takeKey { s with now := t, key := { s.key with keyTimer := none } } (derivedKey s.key.pins))) := by
  have htaken : (s.key.started && isDue t s.key.keyTimer) = true := by rw [hstarted, hdue]; rfl
  change Host.Outcome.next (State.close s (if s.key.started && isDue t s.key.keyTimer then _ else _)) = _
  rw [if_pos htaken]

/-- The channels after a change to OFF, with the close of its event. -/
theorem exec_keyStateChange_off {t : Stamp} {s : State} (hstarted : s.key.started = true)
    (hdue : isDue t s.key.keyTimer = true) (hoff : derivedKey s.key.pins = .off) :
    ∃ x, exec (.keyStateChange t) s = .next x ∧ x.key.key = .off ∧ x.gauges = (s.mapChannels Channel.keyOff).gauges := by
  refine ⟨_, exec_keyStateChange_of_due hstarted hdue, ?_, ?_⟩
  · rw [State.close_key, State.takeKey_key_key, hoff]
  · rw [State.close_gauges, hoff, State.takeKey_off_gauges]
    rfl

/-- A zeroing that completes holds its drive exactly where the key is on (R57). -/
theorem driveHeld_update_of_zeroing_done (c : Calibration) (status : SourceStatus) (sweep keyOn : Bool) {ch : Channel}
    (h : ch.state = .zeroing) (hcount : ch.zeroCount ≤ 6) : driveHeld (ch.update c status sweep keyOn) = keyOn := by
  rw [Channel.update_of_zeroing_done c status sweep keyOn h hcount]
  cases keyOn <;> cases sweep <;> rfl

/-- Settles O10: the channels after the change are `Channel.keyOff` of the enabled ones, split by the state they were in; the
second part is the update at which a zeroing count runs out. -/
theorem keyOffReturnsThePointers : Obligations.KeyOffReturnsThePointers := by
  refine ⟨fun t s hstarted hdue hoff => ?_, fun c status sweep keyOn ch hzeroing hcount => ⟨?_, ?_⟩⟩
  · obtain ⟨x, hexec, hkey, hgauges⟩ := exec_keyStateChange_off hstarted hdue hoff
    refine ⟨x, hexec, hkey, by rw [hgauges, State.mapChannels_updateTimer], fun i => ⟨fun henabled hmoving => ?_, ?_⟩⟩
    · have hreturning : x.gauges.channels[i] = { s.gauges.channels[i] with state := .returning } := by
        rw [hgauges, State.mapChannels_of_enabled _ henabled, Channel.keyOff_of_moving hmoving]
      exact ⟨hreturning, commanded_of_returning _ (by rw [hreturning])⟩
    · rw [hgauges]
      intro hstays
      cases henabled : s.image.gauges[i].enabled with
      | false => exact State.mapChannels_of_disabled _ henabled
      | true =>
        obtain hdisabled | hstanding := hstays
        · exact absurd (henabled.symm.trans hdisabled) (by decide)
        · rw [State.mapChannels_of_enabled _ henabled, Channel.keyOff_of_not_moving hstanding]
  · rw [Channel.update_of_zeroing_done c status sweep keyOn hzeroing hcount]
  · exact driveHeld_update_of_zeroing_done c status sweep keyOn hzeroing hcount

end Sys2Proof.Machine
end

section
/-! The rotation of the Chime Arbiter (R106 to R108): `Chime.choose` read off the request set and the two pointers. -/

namespace Sys2Proof.Machine

/-- What a search finds in a list in strictly increasing order comes before everything else that would do. -/
theorem le_of_find?_eq_some {α : Type} {f : α → Nat} {p : α → Bool} {l : List α} {a b : α}
    (hsorted : l.Pairwise (f · < f ·)) (hfind : l.find? p = some a) (hmem : b ∈ l) (hb : p b = true) : f a ≤ f b := by
  obtain ⟨-, before, after, rfl, hbefore⟩ := List.find?_eq_some_iff_append.mp hfind
  obtain hin | rfl | hin := (List.mem_append.trans (or_congr_right List.mem_cons)).mp hmem
  · exact absurd hb (by simpa using hbefore b hin)
  · exact le_rfl
  · exact (List.rel_of_pairwise_cons (List.pairwise_append.mp hsorted).2.1 hin).le

/-- How many entries the LOW rotation passes before `e`, beginning after the pointer `p` (R107). -/
def turn (p e : EntryId) : Nat := (e.val + 15 - p.val) % 16

theorem turn_cyclic (p : EntryId) {k : Nat} (hk : k < 16) : turn p (Fin.ofNat 16 (p.val + 1 + k)) = k := by
  have hp := p.isLt
  simp only [turn, Fin.val_ofNat]
  omega

theorem cyclicAfter_sorted (p : EntryId) : (cyclicAfter p).Pairwise (turn p · < turn p ·) := by
  refine List.pairwise_map.mpr (List.pairwise_lt_range.imp_of_mem fun ha hb hlt => ?_)
  rwa [turn_cyclic p (List.mem_range.mp ha), turn_cyclic p (List.mem_range.mp hb)]

theorem mem_cyclicAfter (p e : EntryId) : e ∈ cyclicAfter p := by
  have hp := p.isLt
  have he := e.isLt
  refine List.mem_map.mpr ⟨turn p e, List.mem_range.mpr (Nat.mod_lt _ (by decide)), Fin.ext ?_⟩
  simp only [turn, Fin.val_ofNat]
  omega

namespace Chime

variable (c : Chime)

/-- The entries after the HIGH pointer, all of them where it stands at LOW (R107). -/
def Ahead (e : EntryId) : Prop := ∀ h, c.highPtr = some h → h < e

/-- The entries whose request stands with a class. -/
def Standing (k : ChimeClass) (e : EntryId) : Prop := ∃ r, c.requests[e] = some r ∧ r.chimeClass = k

theorem requested_iff (e : EntryId) : c.requested e = true ↔ c.requests[e] ≠ none := Option.isSome_iff_ne_none

theorem waits_iff (k : ChimeClass) (e : EntryId) : c.waits k e = true ↔ c.Standing k e := by
  unfold waits Standing
  cases c.requests[e] <;> simp

theorem othersWait_iff : c.othersWait = true ↔ ∃ j : EntryId, c.requests[j] ≠ none ∧ c.holder ≠ some j := by
  simp [othersWait, requested_iff]

theorem mem_highScan_fst (e : EntryId) : e ∈ c.highScan.1 ↔ c.Ahead e := by
  unfold highScan Ahead
  cases c.highPtr <;> simp

theorem mem_highScan_snd (e : EntryId) : e ∈ c.highScan.2 ↔ ¬ c.Ahead e := by
  unfold highScan Ahead
  cases c.highPtr <;> simp

theorem highScan_sorted :
    c.highScan.1.Pairwise (fun a b : EntryId => a.val < b.val) ∧ c.highScan.2.Pairwise (fun a b : EntryId => a.val < b.val) := by
  unfold highScan
  cases c.highPtr with
  | none => exact ⟨List.pairwise_lt_finRange 16, .nil⟩
  | some p => exact ⟨.filter _ (List.pairwise_lt_finRange 16), .filter _ (List.pairwise_lt_finRange 16)⟩

/-- The three places of the rotation at which a request can be served (R107), and whether that is at the LOW position. -/
inductive Serves (g : EntryId) : Bool → Prop
  | ahead (hg : c.Standing .high g) (hahead : c.Ahead g) (hfirst : ∀ j, c.Standing .high j → c.Ahead j → g ≤ j) :
    Serves g false
  | low (hahead : ¬ ∃ j, c.Standing .high j ∧ c.Ahead j) (hg : c.Standing .low g)
    (hfirst : ∀ j, c.Standing .low j → turn c.lowPtr g ≤ turn c.lowPtr j) : Serves g true
  | around (hahead : ¬ ∃ j, c.Standing .high j ∧ c.Ahead j) (hlow : ¬ ∃ j, c.Standing .low j)
    (hg : c.Standing .high g) (hfirst : ∀ j, c.Standing .high j → g ≤ j) : Serves g false

/-- The entry chosen is the one that the rotation serves. -/
theorem choose_serves {g : EntryId} {low : Bool} (h : c.choose = some (g, low)) : c.Serves g low := by
  cases hfindAhead : c.highScan.1.find? (c.waits .high) with
  | some e =>
    simp only [choose, hfindAhead, Option.some.injEq, Prod.mk.injEq] at h
    obtain ⟨rfl, rfl⟩ := h
    exact .ahead ((c.waits_iff _ _).mp (List.find?_some hfindAhead))
      ((c.mem_highScan_fst _).mp (List.mem_of_find?_eq_some hfindAhead))
      fun j hj hahead => le_of_find?_eq_some c.highScan_sorted.1 hfindAhead ((c.mem_highScan_fst j).mpr hahead)
        ((c.waits_iff _ _).mpr hj)
  | none =>
    have hahead : ¬ ∃ j, c.Standing .high j ∧ c.Ahead j := fun ⟨j, hj, hmem⟩ =>
      List.find?_eq_none.mp hfindAhead j ((c.mem_highScan_fst j).mpr hmem) ((c.waits_iff _ _).mpr hj)
    cases hfindLow : (cyclicAfter c.lowPtr).find? (c.waits .low) with
    | some e =>
      simp only [choose, hfindAhead, hfindLow, Option.some.injEq, Prod.mk.injEq] at h
      obtain ⟨rfl, rfl⟩ := h
      exact .low hahead ((c.waits_iff _ _).mp (List.find?_some hfindLow))
        fun j hj => le_of_find?_eq_some (cyclicAfter_sorted _) hfindLow (mem_cyclicAfter _ j) ((c.waits_iff _ _).mpr hj)
    | none =>
      simp only [choose, hfindAhead, hfindLow, Option.map_eq_some_iff, Prod.mk.injEq] at h
      obtain ⟨e, hfind, rfl, rfl⟩ := h
      exact .around hahead
        (fun ⟨j, hj⟩ => List.find?_eq_none.mp hfindLow j (mem_cyclicAfter _ j) ((c.waits_iff _ _).mpr hj))
        ((c.waits_iff _ _).mp (List.find?_some hfind))
        fun j hj => le_of_find?_eq_some c.highScan_sorted.2 hfind
          ((c.mem_highScan_snd j).mpr fun hmem => hahead ⟨j, hj, hmem⟩) ((c.waits_iff _ _).mpr hj)

/-- Every request in the set is considered: where one stands, one is chosen. -/
theorem choose_ne_none {e : EntryId} {r : ChimeRequest} (he : c.requests[e] = some r) : c.choose ≠ none := by
  intro hnone
  cases hfindAhead : c.highScan.1.find? (c.waits .high) with
  | some g => simp [choose, hfindAhead] at hnone
  | none =>
    cases hfindLow : (cyclicAfter c.lowPtr).find? (c.waits .low) with
    | some g => simp [choose, hfindAhead, hfindLow] at hnone
    | none =>
      simp only [choose, hfindAhead, hfindLow, Option.map_eq_none_iff] at hnone
      cases hclass : r.chimeClass with
      | low => exact List.find?_eq_none.mp hfindLow e (mem_cyclicAfter _ e) ((c.waits_iff _ _).mpr ⟨r, he, hclass⟩)
      | high =>
        have hwaits := (c.waits_iff _ _).mpr ⟨r, he, hclass⟩
        by_cases hahead : c.Ahead e
        · exact List.find?_eq_none.mp hfindAhead e ((c.mem_highScan_fst e).mpr hahead) hwaits
        · exact List.find?_eq_none.mp hnone e ((c.mem_highScan_snd e).mpr hahead) hwaits

/-- At the LOW position a LOW request is served, elsewhere a HIGH one. -/
theorem Serves.standing {c : Chime} {g : EntryId} {low : Bool} (h : c.Serves g low) :
    c.Standing (if low then .low else .high) g := by
  cases h with
  | ahead hg => exact hg
  | low _ hg => exact hg
  | around _ _ hg => exact hg

end Chime

end Sys2Proof.Machine
end

section
/-! What a grant, an arrival and a withdrawal make of the arbiter (R105 to R109, R112). -/

namespace Sys2Proof.Machine
namespace Chime

variable (now : Stamp) (ttp : Option Nat)

@[simp] theorem startPreempt_preempt (c : Chime) :
    (c.startPreempt now ttp).preempt = ttp.map fun ms => now + BitVec.ofNat 32 ms := by
  cases ttp <;> rfl

/-- The arbiter `x` with the phrase of `c`'s request `q` of the entry `g` begun, served at the LOW position or not (R106 to
R108). -/
structure Begun (c x : Chime) (g : EntryId) (low : Bool) (q : ChimeRequest) : Prop where
  requests : x.requests = c.requests
  gapTimer : x.gapTimer = none
  phase : x.phase = .sounding
  holder : x.holder = some g
  pattern : x.pattern = q.pattern
  granted : x.granted = now
  phraseTimer : x.phraseTimer = some (now + BitVec.ofNat 32 (phraseLength q.pattern))
  highPtr : x.highPtr = if low then none else some g
  lowPtr : x.lowPtr = if low then g else c.lowPtr

/-- A grant whole: the phrase begun, and the preempt timer as the other requests have it (R109). -/
structure Granted (c x : Chime) (g : EntryId) (low : Bool) (q : ChimeRequest) : Prop extends Begun now c x g low q where
  alone : (∀ j : EntryId, j ≠ g → c.requests[j] = none) → x.preempt = none
  crowded : ∀ j : EntryId, j ≠ g → c.requests[j] ≠ none → x.preempt = ttp.map fun ms => now + BitVec.ofNat 32 ms

/-- The last step of a grant: the preempt timer is started where a request other than the holder's waits (R109). -/
theorem Begun.granted_of_preempt {c x : Chime} {g : EntryId} {low : Bool} {q : ChimeRequest} (h : Begun now c x g low q)
    (hstopped : x.preempt = none) :
    Granted now ttp c (if x.othersWait then x.startPreempt now ttp else x) g low q := by
  have hothers : x.othersWait = true ↔ ∃ j : EntryId, j ≠ g ∧ c.requests[j] ≠ none := by
    rw [othersWait_iff, h.requests, h.holder]
    simp only [ne_eq, Option.some.injEq, and_comm, eq_comm (a := g)]
  split
  next hwait =>
    obtain ⟨i, hi, hstands⟩ := hothers.mp hwait
    exact { h with
      alone := fun halone => absurd (halone i hi) hstands
      crowded := fun _ _ _ => startPreempt_preempt _ _ _ }
  next hwait =>
    exact { h with
      alone := fun _ => hstopped
      crowded := fun j hj hstands => absurd (hothers.mpr ⟨j, hj, hstands⟩) hwait }

theorem granted_grant {c : Chime} {g : EntryId} {low : Bool} {q : ChimeRequest} (hchoose : c.choose = some (g, low))
    (hg : c.requests[g] = some q) : Granted now ttp c (c.grant now ttp) g low q := by
  simp only [grant, hchoose, hg]
  exact Begun.granted_of_preempt now ttp ⟨rfl, rfl, rfl, rfl, rfl, rfl, rfl, rfl, rfl⟩ rfl

/-- The grant decision of an arbiter in IDLE with a request in its set (R106). -/
theorem settle_grants {c : Chime} (hidle : c.phase = .idle) {e : EntryId} {r : ChimeRequest} (he : c.requests[e] = some r) :
    ∃ g low q, c.Serves g low ∧ c.requests[g] = some q ∧ q.chimeClass = (if low then .low else .high) ∧
      Granted now ttp c (c.settle now ttp) g low q := by
  obtain ⟨⟨g, low⟩, hchoose⟩ := Option.ne_none_iff_exists'.mp (c.choose_ne_none he)
  have hserves := c.choose_serves hchoose
  obtain ⟨q, hg, hclass⟩ := hserves.standing
  have hany : (List.finRange 16).any c.requested = true :=
    List.any_eq_true.mpr ⟨e, List.mem_finRange e, (c.requested_iff e).mpr (by simp [he])⟩
  refine ⟨g, low, q, hserves, hg, hclass, ?_⟩
  rw [settle, if_pos ⟨hidle, hany⟩]
  exact granted_grant now ttp hchoose hg

theorem settle_of_no_request {c : Chime} (h : ∀ e : EntryId, c.requests[e] = none) : c.settle now ttp = c := by
  refine if_neg fun ⟨_, hany⟩ => ?_
  obtain ⟨e, -, he⟩ := List.any_eq_true.mp hany
  exact (c.requested_iff e).mp he (h e)

theorem settle_of_sounding {c : Chime} (h : c.phase = .sounding) : c.settle now ttp = c :=
  if_neg fun ⟨hidle, _⟩ => nomatch h.symm.trans hidle

/-- A request taken into the set or out of it leaves those of the other entries. -/
theorem requests_set_ne {c : Chime} {e j : EntryId} (r : Option ChimeRequest) (hj : j ≠ e) :
    (c.requests.set e r)[j] = c.requests[j] :=
  Vector.getElem_set_ne e.isLt j.isLt fun h => hj (Fin.ext h.symm)

/-- After an arrival a request other than the holder's waits if one did before, or if the one that joins is not the holder's. -/
theorem othersWait_joined_iff {c : Chime} {e : EntryId} {r : ChimeRequest} :
    othersWait { c with requests := c.requests.set e (some r) } = true ↔ c.othersWait = true ∨ c.holder ≠ some e := by
  simp only [othersWait_iff]
  constructor
  · rintro ⟨j, hj, hne⟩
    by_cases hje : j = e
    · exact .inr (hje ▸ hne)
    · exact .inl ⟨j, requests_set_ne _ hje ▸ hj, hne⟩
  · rintro (⟨j, hj, hne⟩ | hne)
    · by_cases hje : j = e
      · exact ⟨e, by simp, hje ▸ hne⟩
      · exact ⟨j, (requests_set_ne _ hje).symm ▸ hj, hne⟩
    · exact ⟨e, by simp, hne⟩

theorem othersWait_left_iff {c : Chime} {e : EntryId} :
    othersWait { c with requests := c.requests.set e none } = true ↔
      ∃ j : EntryId, j ≠ e ∧ c.requests[j] ≠ none ∧ c.holder ≠ some j := by
  simp only [othersWait_iff]
  constructor
  · rintro ⟨j, hj, hne⟩
    have hje : j ≠ e := by
      rintro rfl
      simp at hj
    exact ⟨j, hje, requests_set_ne _ hje ▸ hj, hne⟩
  · rintro ⟨j, hje, hj, hne⟩
    exact ⟨j, (requests_set_ne _ hje).symm ▸ hj, hne⟩

section place

variable {c : Chime} (e : EntryId) (r : ChimeRequest)

@[simp] theorem place_holder : (c.place now ttp e r).holder = c.holder := by
  unfold place; dsimp only; split <;> rfl

@[simp] theorem place_phase : (c.place now ttp e r).phase = c.phase := by
  unfold place; dsimp only; split <;> rfl

/-- The arrivals that leave the preempt timer: another request waited before, or it is the holder's own (R109). -/
theorem place_of_waited (h : c.othersWait = true ∨ c.holder = some e) : (c.place now ttp e r).preempt = c.preempt := by
  unfold place
  dsimp only
  split
  next hstart =>
    simp only [Bool.and_eq_true, Bool.not_eq_true'] at hstart
    obtain ⟨⟨⟨-, hbefore⟩, hafter⟩, -⟩ := hstart
    obtain hwaited | hholder := h
    · exact nomatch hwaited.symm.trans hbefore
    · obtain hwaited | hother := othersWait_joined_iff.mp hafter
      · exact nomatch hwaited.symm.trans hbefore
      · exact absurd hholder hother
  · rfl

/-- The first other request to wait during a phrase starts the preempt timer (R109). -/
theorem place_of_first (hphase : c.phase = .sounding) (hcut : c.cutPending = false) (hfirst : ¬ c.othersWait = true)
    (hother : c.holder ≠ some e) :
    (c.place now ttp e r).preempt = ttp.map fun ms => now + BitVec.ofNat 32 ms := by
  have hafter : othersWait { c with requests := c.requests.set e (some r) } = true := othersWait_joined_iff.mpr (.inr hother)
  have hstart : (decide (c.phase = .sounding) && !c.othersWait &&
      othersWait { c with requests := c.requests.set e (some r) } && !c.cutPending) = true := by
    rw [hafter, hcut, Bool.eq_false_iff.mpr hfirst, decide_eq_true hphase]
    rfl
  exact (congrArg Chime.preempt (if_pos hstart)).trans (startPreempt_preempt _ _ _)

end place

section withdraw

variable {c : Chime} {e : EntryId}

/-- A withdrawal that leaves another request standing beside the holder's touches only the set (R109). -/
theorem withdraw_of_waiting (hother : c.holder ≠ some e)
    (hwaits : ∃ j : EntryId, j ≠ e ∧ c.requests[j] ≠ none ∧ c.holder ≠ some j) :
    c.withdraw e = { c with requests := c.requests.set e none } := by
  have hleft := othersWait_left_iff.mpr hwaits
  exact (if_neg fun h => hother h.2).trans (if_neg fun h => absurd hleft (by simpa using h.2))

/-- The withdrawal of the last other request stops the preempt timer and the pending cut (R109). -/
theorem withdraw_of_last (hphase : c.phase = .sounding) (hother : c.holder ≠ some e)
    (hlast : ¬ ∃ j : EntryId, j ≠ e ∧ c.requests[j] ≠ none ∧ c.holder ≠ some j) :
    c.withdraw e =
      { c with requests := c.requests.set e none, preempt := none, cutPending := false, cutTimer := none } := by
  have hleft : othersWait { c with requests := c.requests.set e none } = false :=
    Bool.eq_false_iff.mpr fun h => hlast (othersWait_left_iff.mp h)
  exact (if_neg fun h => hother h.2).trans (if_pos ⟨hphase, by rw [hleft]; rfl⟩)

/-- The withdrawal of the holder's own request ends the phrase at once (R112). -/
theorem withdraw_of_holder (hphase : c.phase = .sounding) (hholder : c.holder = some e) :
    c.withdraw e = { silence { c with requests := c.requests.set e none } with phase := .idle } :=
  if_pos ⟨hphase, hholder⟩

end withdraw

end Chime
end Sys2Proof.Machine
end

section
/-! The gap expiry and a warning's entry to ACTIVE as events, and O46. -/

namespace Sys2Proof.Machine

/-- The arbiter after the gap expiry, before the decision (R113). -/
def Chime.gapOver (c : Chime) : Chime := { c with phase := .idle, gapTimer := none }

/-- The alerts with the gap over. -/
def Alerts.gapOver (a : Alerts) : Alerts := { a with chime := a.chime.gapOver }

theorem exec_gapExpiry_of_due {t : Stamp} {s : State} (hdue : isDue t s.chime.gapTimer = true) :
    exec (.gapExpiry t) s = .next (State.close s ((s.stamped t).onAlerts Alerts.gapOver)) := by
  change Host.Outcome.next (State.close s (if isDue t s.chime.gapTimer then _ else _)) = _
  rw [if_pos hdue]
  rfl

theorem exec_debounceExpiry_of_due {t : Stamp} {e : EntryId} {s : State} (hstate : s.monitor.entries[e].state = .pending)
    (hdue : isDue t s.monitor.entries[e].debounce = true) :
    exec (.debounceExpiry t e) s =
      .next (State.close s ((s.stamped t).onAlerts (Alerts.activate (s.stamped t) e true))) := by
  change Host.Outcome.next (State.close s (if isDue t s.monitor.entries[e].debounce then
    if s.monitor.entries[e].state = .pending then _ else _ else _)) = _
  rw [if_pos hdue, if_pos hstate]
  rfl

theorem exec_remindExpiry_of_due {t : Stamp} {e : EntryId} {s : State}
    (hstate : s.monitor.entries[e].state = .acknowledged) (hdue : isDue t s.monitor.entries[e].remind = true) :
    exec (.remindExpiry t e) s =
      .next (State.close s ((s.stamped t).onAlerts (Alerts.activate (s.stamped t) e false))) := by
  change Host.Outcome.next (State.close s (if isDue t s.monitor.entries[e].remind then
    if s.monitor.entries[e].state = .acknowledged then _ else _ else _)) = _
  rw [if_pos hdue, if_pos hstate]
  rfl

/-- The arbiter makes its decision once the alerts have changed (R106). -/
theorem State.onAlerts_chime (s : State) (f : Alerts → Alerts) :
    (s.onAlerts f).chime = (f s.alerts).chime.settle s.now s.image.params.preempt := rfl

theorem State.close_gapOver_chime (s : State) (t : Stamp) :
    (State.close s ((s.stamped t).onAlerts Alerts.gapOver)).chime =
      s.chime.gapOver.settle t s.image.params.preempt :=
  State.close_chime _ _

/-- A gap expiry moves the arbiter, and beside it only what the close of the event moves. -/
theorem State.close_gapOver_traffic (s : State) (t : Stamp) :
    let x := State.close s ((s.stamped t).onAlerts Alerts.gapOver)
    x = State.withTraffic { s with now := t, chime := x.chime } x := by
  intro x
  have hchime : x.chime = ((s.stamped t).onAlerts Alerts.gapOver).chime := State.close_chime _ _
  rw [hchime]
  exact State.close_traffic s ((s.stamped t).onAlerts Alerts.gapOver)

/-- A warning with a chime pattern that becomes ACTIVE places its request (R90). -/
theorem Alerts.activate_chime (s : State) (e : EntryId) (fromPending : Bool) (a : Alerts) {p : Pattern}
    (hpattern : s.image.warnings[e].pattern = some p) :
    (a.activate s e fromPending).chime =
      a.chime.place s.now s.image.params.preempt e ⟨s.image.warnings[e].chimeClass, p⟩ := by
  by_cases hmessage : s.image.warnings[e].message = 0
  · simp only [Alerts.activate, hpattern, hmessage, ↓reduceIte]
    cases fromPending <;> rfl
  · simp only [Alerts.activate, hpattern, hmessage, ↓reduceIte]
    cases fromPending <;> rfl

/-- The request of a warning that becomes ACTIVE during a phrase: no grant is made, and the arbiter is as the arrival left it. -/
theorem State.close_activate_chime {t : Stamp} {e : EntryId} {s : State} {p : Pattern} (fromPending : Bool)
    (hpattern : s.image.warnings[e].pattern = some p) (hphase : s.chime.phase = .sounding) :
    (State.close s ((s.stamped t).onAlerts (Alerts.activate (s.stamped t) e fromPending))).chime =
      s.chime.place t s.image.params.preempt e ⟨s.image.warnings[e].chimeClass, p⟩ := by
  rw [State.close_chime, State.onAlerts_chime, Alerts.activate_chime (s.stamped t) e fromPending _ hpattern]
  exact Chime.settle_of_sounding _ _ ((Chime.place_phase _ _ _ _).trans hphase)

/-- Both expiries that make a warning ACTIVE place its request in the arbiter (R89, R90, R93). -/
theorem exec_activation {t : Stamp} {e : EntryId} {s : State} {c : Instr} {p : Pattern}
    (hactivates :
      (c = .debounceExpiry t e ∧ s.monitor.entries[e].state = .pending ∧ isDue t s.monitor.entries[e].debounce = true) ∨
      (c = .remindExpiry t e ∧ s.monitor.entries[e].state = .acknowledged ∧ isDue t s.monitor.entries[e].remind = true))
    (hpattern : s.image.warnings[e].pattern = some p) (hphase : s.chime.phase = .sounding) :
    ∃ x, exec c s = .next x ∧
      x.chime = s.chime.place t s.image.params.preempt e ⟨s.image.warnings[e].chimeClass, p⟩ := by
  obtain ⟨rfl, hstate, hdue⟩ | ⟨rfl, hstate, hdue⟩ := hactivates
  · exact ⟨_, exec_debounceExpiry_of_due hstate hdue, State.close_activate_chime true hpattern hphase⟩
  · exact ⟨_, exec_remindExpiry_of_due hstate hdue, State.close_activate_chime false hpattern hphase⟩

/-- The requests and the gap timer after the gap expiry, whatever the decision. -/
theorem Chime.settle_gapOver_keeps (now : Stamp) (ttp : Option Nat) (c : Chime) :
    (c.gapOver.settle now ttp).requests = c.requests ∧ (c.gapOver.settle now ttp).gapTimer = none := by
  by_cases hnone : ∀ e : EntryId, c.requests[e] = none
  · rw [settle_of_no_request now ttp (c := c.gapOver) hnone]
    exact ⟨rfl, rfl⟩
  · push Not at hnone
    obtain ⟨e, he⟩ := hnone
    obtain ⟨r, he⟩ := Option.ne_none_iff_exists'.mp he
    obtain ⟨_, _, _, _, _, _, hgrant⟩ := settle_grants now ttp (c := c.gapOver) rfl he
    exact ⟨hgrant.requests, hgrant.gapTimer⟩

/-- Settles O46: the decision at the gap expiry is a grant to the entry that the rotation serves, split by the place of the
rotation at which that is; an arrival and a withdrawal during a phrase are read off `Chime.place` and `Chime.withdraw`. -/
theorem gapExpiryDecides : Obligations.GapExpiryDecides := by
  refine ⟨fun t s hdue => ?_, fun t e s c p hactivates hpattern hphase hcut => ?_, fun c e hphase => ?_⟩
  · intro waits ahead turn
    obtain ⟨hrequests, htimer⟩ := Chime.settle_gapOver_keeps t s.image.params.preempt s.chime
    refine ⟨_, exec_gapExpiry_of_due hdue, State.close_gapOver_traffic s t, ?_⟩
    rw [State.close_gapOver_chime]
    refine ⟨hrequests, htimer, fun hnone => Chime.settle_of_no_request _ _ (c := s.chime.gapOver) hnone, fun e r he => ?_⟩
    obtain ⟨g, low, q, hserves, hg, hclass, hgrant⟩ :=
      Chime.settle_grants t s.image.params.preempt (c := s.chime.gapOver) rfl he
    refine ⟨g, q, hg, hgrant.phase, hgrant.holder, hgrant.pattern, hgrant.granted, hgrant.phraseTimer, hgrant.alone,
      hgrant.crowded, ?_⟩
    have honly : (∀ j : EntryId, j ≠ e → s.chime.requests[j] = none) → g = e := fun halone =>
      by_contra fun hne => nomatch hg.symm.trans (halone g hne)
    have hhigh := hgrant.highPtr
    have hlow := hgrant.lowPtr
    cases hserves with
    | ahead hstands hahead hfirst =>
      have hclass : q.chimeClass = .high := hclass
      have hsome : ∃ j, waits .high j ∧ ahead j := ⟨g, hstands, hahead⟩
      exact ⟨fun _ => ⟨hhigh, hlow⟩, fun h => (nomatch hclass.symm.trans h), fun _ => ⟨hclass, hahead, hfirst⟩,
        fun h => absurd hsome h, fun h => absurd hsome h, honly⟩
    | low hahead hstands hfirst =>
      have hclass : q.chimeClass = .low := hclass
      exact ⟨fun h => (nomatch hclass.symm.trans h), fun _ => ⟨hhigh, hlow⟩, fun h => absurd h hahead,
        fun _ _ => ⟨hclass, hfirst⟩, fun _ h => absurd ⟨g, hstands⟩ h, honly⟩
    | around hahead hnoLow hstands hfirst =>
      have hclass : q.chimeClass = .high := hclass
      exact ⟨fun _ => ⟨hhigh, hlow⟩, fun h => (nomatch hclass.symm.trans h), fun h => absurd h hahead,
        fun _ h => absurd h hnoLow, fun _ _ => ⟨hclass, hfirst⟩, honly⟩
  · intro waits
    obtain ⟨x, hexec, hchime⟩ := exec_activation hactivates hpattern hphase
    refine ⟨x, hexec, ?_⟩
    rw [hchime, Chime.place_holder, Chime.place_phase]
    exact ⟨rfl, hphase, fun h => Chime.place_of_waited _ _ _ _ (h.imp_left (Chime.othersWait_iff _).mpr),
      fun hfirst hother =>
        Chime.place_of_first _ _ _ _ hphase hcut (fun h => hfirst ((Chime.othersWait_iff _).mp h)) hother⟩
  · exact ⟨Chime.withdraw_of_last hphase, Chime.withdraw_of_waiting, Chime.withdraw_of_holder hphase⟩

end Sys2Proof.Machine
end

section
/-! The law of the transmit queue (R176), operation by operation. A queue entry counts by its key alone: its source, and its
kind, group and target. -/

namespace Sys2Proof.Machine

/-- What makes two queue entries the same (R176). -/
def TxEntry.address (e : TxEntry) : TxKind × Byte × Option Station := (e.kind, e.group, e.target)

/-- What the law of the queue reads of an entry. -/
def TxEntry.key (e : TxEntry) : TxSource × (TxKind × Byte × Option Station) := (e.source, e.address)

theorem TxEntry.key_eq_iff {a b : TxEntry} :
    a.key = b.key ↔ a.source = b.source ∧ a.kind = b.kind ∧ a.group = b.group ∧ a.target = b.target := by
  simp [key, address]

theorem TxEntry.matchesEntry_iff {a b : TxEntry} : a.matchesEntry b = true ↔ a.address = b.address := by
  simp [matchesEntry, address, and_assoc]

theorem TxEntry.matchesEntry_eq_false_iff {a b : TxEntry} : a.matchesEntry b = false ↔ a.address ≠ b.address := by
  rw [← Bool.not_eq_true, TxEntry.matchesEntry_iff]

theorem TxEntry.sound_of_key {a b : TxEntry} (h : a.key = b.key) : a.sound = b.sound := by
  obtain ⟨hsource, hkind, hgroup, htarget⟩ := TxEntry.key_eq_iff.mp h
  simp only [sound, hsource, hkind, hgroup, htarget]

/-- The law of the transmit queue but for the attempts in flight. -/
structure KeysSound (q : List TxEntry) : Prop where
  sound : ∀ e ∈ q, e.sound = true
  distinct : (q.map TxEntry.address).Nodup
  replies : q.countP (fun e => e.source = .reply) ≤ 2
  standings : q.countP (fun e => e.source = .standing) ≤ 2

theorem pairwise_matchesEntry_iff {q : List TxEntry} :
    q.Pairwise (fun a b => a.matchesEntry b = false) ↔ (q.map TxEntry.address).Nodup := by
  rw [List.Nodup, List.pairwise_map]
  simp only [TxEntry.matchesEntry_eq_false_iff]

namespace KeysSound

/-- The law is read off the keys, in order. -/
theorem of_keys {q q' : List TxEntry} (hq : KeysSound q) (h : q'.map TxEntry.key = q.map TxEntry.key) : KeysSound q' := by
  have hcount : ∀ s : TxSource, q'.countP (fun e => e.source = s) = q.countP (fun e => e.source = s) := fun s => by
    have hkeys := congrArg (List.countP fun k => k.1 = s) h
    rwa [List.countP_map, List.countP_map] at hkeys
  have haddress : q'.map TxEntry.address = q.map TxEntry.address := by
    have hkeys := congrArg (List.map Prod.snd) h
    rwa [List.map_map, List.map_map] at hkeys
  refine ⟨fun e he => ?_, haddress ▸ hq.distinct, (hcount .reply).trans_le hq.replies,
    (hcount .standing).trans_le hq.standings⟩
  have hmem : e.key ∈ q.map TxEntry.key := h ▸ List.mem_map_of_mem he
  obtain ⟨b, hb, hkey⟩ := List.mem_map.mp hmem
  exact (TxEntry.sound_of_key hkey).symm.trans (hq.sound b hb)

theorem sublist {q q' : List TxEntry} (hq : KeysSound q) (h : q'.Sublist q) : KeysSound q' where
  sound e he := hq.sound e (h.mem he)
  distinct := hq.distinct.sublist (h.map _)
  replies := h.countP_le.trans hq.replies
  standings := h.countP_le.trans hq.standings

theorem nil : KeysSound [] := ⟨by simp, by simp, by simp, by simp⟩

/-- An entry of a new address joins where its source has room (R176). -/
theorem append {q : List TxEntry} {e : TxEntry} (hq : KeysSound q) (hsound : e.sound = true)
    (hnew : ∀ x ∈ q, x.address ≠ e.address) (hreply : e.source = .reply → q.countP (fun e => e.source = .reply) < 2)
    (hstanding : e.source = .standing → q.countP (fun e => e.source = .standing) < 2) : KeysSound (q ++ [e]) where
  sound x hx := by
    obtain hx | hx := List.mem_append.mp hx
    · exact hq.sound x hx
    · exact List.mem_singleton.mp hx ▸ hsound
  distinct := by
    rw [List.map_append, List.map_singleton, List.nodup_append]
    refine ⟨hq.distinct, by simp, fun a ha b hb => ?_⟩
    obtain ⟨x, hx, rfl⟩ := List.mem_map.mp ha
    exact List.mem_singleton.mp hb ▸ hnew x hx
  replies := by
    have := hq.replies
    rw [List.countP_append, List.countP_singleton]
    split
    next hs => have := hreply (of_decide_eq_true hs); omega
    next => omega
  standings := by
    have := hq.standings
    rw [List.countP_append, List.countP_singleton]
    split
    next hs => have := hstanding (of_decide_eq_true hs); omega
    next => omega

end KeysSound

/-- Of the entries of one address a list without repeats holds one at most. -/
theorem countP_le_one_of_address {q : List TxEntry} (hq : (q.map TxEntry.address).Nodup) {p : TxEntry → Bool}
    (x : TxKind × Byte × Option Station) (hp : ∀ e ∈ q, p e = true → e.address = x) : q.countP p ≤ 1 := by
  calc q.countP p ≤ q.countP (fun e => e.address == x) :=
        List.countP_mono_left fun e he hpe => by simp [hp e he hpe]
    _ = (q.map TxEntry.address).count x := by rw [List.count, List.countP_map]; rfl
    _ ≤ 1 := List.nodup_iff_count_le_one.mp hq x

theorem length_eq_countP_sources (q : List TxEntry) :
    q.length = q.countP (fun e => e.source = .fault) + q.countP (fun e => e.source = .reply) +
      q.countP (fun e => e.source = .status) + q.countP (fun e => e.source = .trip) +
      q.countP (fun e => e.source = .standing) := by
  induction q with
  | nil => rfl
  | cons e q ih =>
    simp only [List.length_cons, List.countP_cons, ih]
    cases e.source <;> simp <;> omega

theorem countP_le_add {α : Type} {p a b : α → Bool} {l : List α} (h : ∀ x ∈ l, p x = true → a x = true ∨ b x = true) :
    l.countP p ≤ l.countP a + l.countP b := by
  induction l with
  | nil => simp
  | cons x l ih =>
    obtain ⟨hx, hl⟩ := List.forall_mem_cons.mp h
    have := ih hl
    simp only [List.countP_cons]
    split
    next hp => obtain ha | hb := hx hp <;> simp [*] <;> omega
    next => omega

/-- Every source within its cap makes eight entries (R176): FAULT and STATUS publish one group each, TRIP two. -/
theorem KeysSound.length_le {q : List TxEntry} (hq : KeysSound q) : q.length ≤ 8 := by
  have hsource : ∀ (src : TxSource) (g : Byte), (∀ e : TxEntry, e.source = src → e.sound = true →
      e.kind = .publish ∧ e.target = none) → q.countP (fun e => e.source = src ∧ e.group = g) ≤ 1 := fun src g hsrc =>
    countP_le_one_of_address hq.distinct (.publish, g, none) fun e he hp => by
      obtain ⟨hs, hg⟩ := of_decide_eq_true hp
      obtain ⟨hkind, htarget⟩ := hsrc e hs (hq.sound e he)
      simp only [TxEntry.address, hkind, hg, htarget]
  have hone : ∀ (src : TxSource) (g : Byte), (∀ e : TxEntry, e.source = src → e.sound = true →
      e.kind = .publish ∧ e.target = none ∧ e.group = g) → q.countP (fun e => e.source = src) ≤ 1 := fun src g hsrc =>
    (List.countP_mono_left fun e he hs => by
      simpa using ⟨of_decide_eq_true hs, (hsrc e (of_decide_eq_true hs) (hq.sound e he)).2.2⟩).trans
      (hsource src g fun e hs hsound => ⟨(hsrc e hs hsound).1, (hsrc e hs hsound).2.1⟩)
  have hfault := hone .fault 0x48 fun e hs hsound => by simp_all [TxEntry.sound]
  have hstatus := hone .status 0x40 fun e hs hsound => by simp_all [TxEntry.sound]
  have htripA := hsource .trip 0x41 fun e hs hsound => by simp_all [TxEntry.sound]
  have htripB := hsource .trip 0x42 fun e hs hsound => by simp_all [TxEntry.sound]
  have htrip := countP_le_add (l := q) (p := fun e => e.source = .trip) (a := fun e => e.source = .trip ∧ e.group = 0x41)
    (b := fun e => e.source = .trip ∧ e.group = 0x42) fun e he hs => by
      have hsound := hq.sound e he
      simp_all [TxEntry.sound]
  have := length_eq_countP_sources q
  have := hq.replies
  have := hq.standings
  omega

end Sys2Proof.Machine
end

section
/-! Every operation of the Line Station on its own state keeps the law of its lists (R176 to R179, R184 to R186). -/

namespace Sys2Proof.Machine

/-- The law of the Line Station's three lists (R176, R177, R184, R185). -/
structure Line.Lists (l : Line) : Prop where
  keys : KeysSound l.queue
  flights : l.queue.countP (·.inFlight) ≤ 1
  pending : l.pending.length ≤ 4
  standing : l.standing.length ≤ 4

theorem lineLaw_iff (s : State) : LineLaw s ↔ s.line.Lists ∧ s.handed = .nothing := by
  simp only [LineLaw, pairwise_matchesEntry_iff]
  constructor
  · rintro ⟨hsound, -, hdistinct, hreplies, hstandings, hflights, hpending, hstanding, hhanded⟩
    exact ⟨⟨⟨hsound, hdistinct, hreplies, hstandings⟩, hflights, hpending, hstanding⟩, hhanded⟩
  · rintro ⟨⟨hkeys, hflights, hpending, hstanding⟩, hhanded⟩
    exact ⟨hkeys.sound, hkeys.length_le, hkeys.distinct, hkeys.replies, hkeys.standings, hflights, hpending, hstanding,
      hhanded⟩

/-! ### The first match changed -/

theorem length_mapFirst {α : Type} (test : α → Bool) (f : α → α) (l : List α) : (mapFirst test f l).length = l.length := by
  induction l with
  | nil => rfl
  | cons x l ih => unfold mapFirst; split <;> simp [ih]

/-- A change of the first match that a reading does not see is not seen in the list. -/
theorem map_mapFirst {α β : Type} {test : α → Bool} {f : α → α} {g : α → β} (h : ∀ x, test x = true → g (f x) = g x)
    (l : List α) : (mapFirst test f l).map g = l.map g := by
  induction l with
  | nil => rfl
  | cons x l ih =>
    unfold mapFirst
    split
    next hx => simp [h x hx]
    next => simp [ih]

theorem countP_mapFirst_le {α : Type} (p test : α → Bool) (f : α → α) (l : List α) :
    (mapFirst test f l).countP p ≤ l.countP p + 1 := by
  induction l with
  | nil => simp [mapFirst]
  | cons x l ih =>
    unfold mapFirst
    split
    · simp only [List.countP_cons]; split <;> split <;> omega
    · simp only [List.countP_cons]; omega

/-- The first match changed where the key and the mark of flight stay. -/
theorem countP_mapFirst {α : Type} {p test : α → Bool} {f : α → α} (h : ∀ x, test x = true → p (f x) = p x) (l : List α) :
    (mapFirst test f l).countP p = l.countP p := by
  have := congrArg (List.countP id) (map_mapFirst (g := p) h l)
  rwa [List.countP_map, List.countP_map, Function.id_comp] at this

theorem Line.sending_eq_false_iff (l : Line) : l.sending = false ↔ l.queue.countP (·.inFlight) = 0 := by
  simp [sending, List.countP_eq_zero]

namespace Line.Lists

variable {l : Line}

/-- The law is about the lists alone. -/
theorem of_eq {l' : Line} (h : l.Lists) (hq : l'.queue = l.queue) (hp : l'.pending = l.pending)
    (hs : l'.standing = l.standing) : l'.Lists :=
  ⟨hq ▸ h.keys, hq ▸ h.flights, hp ▸ h.pending, hs ▸ h.standing⟩

theorem with_standing (h : l.Lists) {xs : List StandingAsk} (hxs : xs.length ≤ l.standing.length) :
    Line.Lists { l with standing := xs } := { h with standing := hxs.trans h.standing }

theorem with_pending (h : l.Lists) {xs : List PendingAnswer} (hxs : xs.length ≤ l.pending.length) :
    Line.Lists { l with pending := xs } := { h with pending := hxs.trans h.pending }

/-- The queue replaced by one of the same keys with no more attempts in flight. -/
theorem with_queue (h : l.Lists) {q : List TxEntry} (hkeys : q.map TxEntry.key = l.queue.map TxEntry.key)
    (hflights : q.countP (·.inFlight) ≤ 1) : Line.Lists { l with queue := q } :=
  { h with keys := h.keys.of_keys hkeys, flights := hflights }

theorem choose (h : l.Lists) : l.choose.Lists := by
  unfold Line.choose
  split
  next hidle =>
    split
    next src _ =>
      simp only [Bool.and_eq_true, Bool.not_eq_true'] at hidle
      have hnone := (Line.sending_eq_false_iff l).mp hidle.2
      have hflights := countP_mapFirst_le (·.inFlight) (fun e => decide (e.source = src))
        (fun e => { e with inFlight := true }) l.queue
      have hkeys : (mapFirst (fun e => decide (e.source = src)) (fun e => { e with inFlight := true }) l.queue).map
          TxEntry.key = l.queue.map TxEntry.key := map_mapFirst (fun _ _ => by rfl) _
      exact (h.with_queue hkeys (by omega)).of_eq rfl rfl rfl
    next => exact h
  next => exact h

/-- A telegram handed on joins where its source has room, or changes the data of its like (R176). -/
theorem handOn (h : l.Lists) {e : TxEntry} (hsound : e.sound = true) (hidle : e.inFlight = false)
    (hreply : e.source = .reply → l.entries .reply < 2) (hstanding : e.source = .standing → l.entries .standing < 2) :
    (l.handOn e).Lists := by
  unfold Line.handOn
  dsimp only
  refine Line.Lists.choose ?_
  split
  · refine h.with_queue (map_mapFirst (fun x _ => ?_) _) ((countP_mapFirst (fun x _ => ?_) _).trans_le h.flights)
    · split <;> rfl
    · split <;> rfl
  next hnew =>
    simp only [Bool.not_eq_true, List.any_eq_false, TxEntry.matchesEntry_iff] at hnew
    exact { h with
      keys := h.keys.append hsound (fun x hx hxe => hnew x hx hxe.symm) hreply hstanding
      flights := by simpa [List.countP_append, hidle] using h.flights }

/-- The part's own publications have room: their sources hold one entry of each group (R176). -/
theorem handOn_publish (h : l.Lists) {source : TxSource} {group : Byte} (data : List Byte)
    (hsound : (publishEntry source group data).sound = true) : (l.handOn (publishEntry source group data)).Lists := by
  refine h.handOn hsound rfl (fun hs => ?_) (fun hs => ?_)
  · simp only [publishEntry] at hs
    subst hs
    simp [publishEntry, TxEntry.sound] at hsound
  · simp only [publishEntry] at hs
    subst hs
    simp [publishEntry, TxEntry.sound] at hsound

theorem handOn_reply (h : l.Lists) {asker : Station} {group : Byte} (hroom : l.canReply .reply asker group = true)
    (index : Byte) (status : Status) (values : List Byte) :
    (l.handOn (replyEntry .reply asker group index status values)).Lists := by
  simp only [Line.canReply, Bool.and_eq_true] at hroom
  exact h.handOn (by simp [replyEntry, TxEntry.sound]) rfl (fun _ => of_decide_eq_true hroom.1) (fun hs => nomatch hs)

theorem handOn_standing (h : l.Lists) {asker : Station} {group : Byte} (hroom : l.canReply .standing asker group = true)
    (index : Byte) (status : Status) (values : List Byte) :
    (l.handOn (replyEntry .standing asker group index status values)).Lists := by
  simp only [Line.canReply, Bool.and_eq_true] at hroom
  exact h.handOn (by simp [replyEntry, TxEntry.sound]) rfl (fun hs => nomatch hs) (fun _ => of_decide_eq_true hroom.1)

theorem served (h : l.Lists) (source : TxSource) : (l.served source).Lists := by
  cases source <;> exact h.of_eq rfl rfl rfl

theorem startBit (h : l.Lists) : l.startBit.Lists := h.of_eq rfl rfl rfl

/-! ### The pending answers -/

/-- The owner's answer takes its own WAITING entry out and a READY one in (R184). -/
theorem answer (h : l.Lists) (asker : Station) (group index : Byte) (status : Status) (values : List Byte) :
    (l.answer asker group index status values).Lists := by
  unfold Line.answer
  dsimp only
  split
  next hany =>
    obtain ⟨p, hp, hmine⟩ := List.any_eq_true.mp hany
    have hless := List.length_filter_lt_length_iff_exists (l := l.pending)
      (p := fun p => !(p.isFor asker group index && decide (p.stage = .waiting))) |>.mpr ⟨p, hp, by rw [hmine]; decide⟩
    exact h.with_pending (by simpa using hless)
  next => exact h

theorem joinOne (h : l.Lists) (p : PendingAnswer) : (l.joinOne p).Lists := by
  unfold Line.joinOne
  split
  · split
    next hroom =>
      refine Line.Lists.handOn_reply (h.with_pending (length_mapFirst _ _ _).le) ?_ _ _ _
      exact hroom
    next => exact h
  · exact h

theorem joinReady (h : l.Lists) : l.joinReady.Lists :=
  List.foldlRecOn (motive := Line.Lists) _ _ h fun _ hl p _ => hl.joinOne p

theorem replyAtOnce (h : l.Lists) (asker : Station) (group index : Byte) (status : Status) :
    (l.replyAtOnce asker group index status).Lists := by
  unfold Line.replyAtOnce
  split
  next hroom => exact h.handOn_reply hroom _ _ _
  next => exact h

theorem replyGone (h : l.Lists) (asker : Station) (group : Byte) : (l.replyGone asker group).Lists :=
  h.with_pending (List.length_filter_le _ _)

/-! ### The standing asks -/

theorem dropStanding (h : l.Lists) (asker : Station) (group index : Byte) : (l.dropStanding asker group index).Lists :=
  h.with_standing (List.length_filter_le _ _)

theorem setStanding (h : l.Lists) (r : StandingAsk) : (l.setStanding r).Lists :=
  h.with_standing (List.length_map _).le

theorem register (h : l.Lists) (now : Stamp) (asker : Station) (group index : Byte) (values : List Byte) :
    (l.register now asker group index values).2.Lists := by
  unfold Line.register
  split
  · exact h.setStanding _
  · split
    next hroom => exact { h with standing := by simpa using Nat.succ_le_of_lt hroom }
    next => exact h

theorem placeStanding (h : l.Lists) (now : Stamp) (r : StandingAsk) (values : List Byte)
    (hroom : l.canReply .standing r.asker r.group = true) : (l.placeStanding now r values).Lists :=
  (h.setStanding _).handOn_standing hroom _ _ _

theorem reportStanding (h : l.Lists) (now : Stamp) (r : StandingAsk) (values : List Byte) :
    (l.reportStanding now r values).Lists := by
  unfold Line.reportStanding
  split
  · exact h
  · split
    · exact Line.Lists.setStanding (h.with_queue (map_mapFirst (fun _ _ => by rfl) _)
        ((countP_mapFirst (fun _ _ => by rfl) _).trans_le h.flights)) _
    · split
      · exact h.setStanding _
      next hroom => exact h.placeStanding now r values (by simp_all)

theorem retryStanding (h : l.Lists) (now : Stamp) (r : StandingAsk) (values : List Byte) :
    (l.retryStanding now r values).Lists := by
  unfold Line.retryStanding
  split
  · exact h.setStanding _
  · split
    next hroom => exact h.placeStanding now r values (by simp_all)
    next => exact h

/-! ### The end of an attempt -/

theorem map_stays (h : l.Lists) (n : TxEntry → Nat) :
    Line.Lists { l with queue := l.queue.map fun x => if x.inFlight then x.stays (n x) else x } := by
  refine h.with_queue ?_ ?_
  · rw [List.map_map]
    refine List.map_congr_left fun x _ => ?_
    simp only [Function.comp_apply]
    split <;> rfl
  · rw [List.countP_map, List.countP_eq_zero.mpr]
    · exact Nat.zero_le 1
    · intro x _
      simp only [Function.comp_apply]
      split
      · simp [TxEntry.stays]
      · assumption

/-- The entry in flight leaves the queue, or with follow-on data takes the last place (R178). -/
theorem queueAfter (h : l.Lists) {e : TxEntry} (he : l.flying = some e) :
    Line.Lists { l with queue := queueAfter l.queue e } := by
  obtain ⟨hflying, before, after, hqueue, hbefore⟩ := List.find?_eq_some_iff_append.mp he
  have hafter : ∀ x ∈ after, x.inFlight = false := fun x hx => by
    have hcount := h.flights
    rw [hqueue, List.countP_append, List.countP_cons, if_pos hflying] at hcount
    have : after.countP (·.inFlight) = 0 := by omega
    simpa using List.countP_eq_zero.mp this x hx
  have hothers : l.queue.filter (fun x => !x.inFlight) = before ++ after := by
    rw [hqueue, List.filter_append, List.filter_cons, if_neg (by simp [hflying]),
      List.filter_eq_self.mpr fun x hx => hbefore x hx, List.filter_eq_self.mpr fun x hx => by simp [hafter x hx]]
  have hnone : (before ++ after).countP (·.inFlight) = 0 := by
    rw [← hothers, List.countP_filter]
    simp
  have hsub : (before ++ after).Sublist l.queue := hothers ▸ List.filter_sublist
  unfold Machine.queueAfter
  rw [hothers]
  split
  · refine { h with keys := ?_, flights := by rw [List.countP_append, hnone]; simp [TxEntry.stays] }
    have hperm : (before ++ after ++ [e]).Perm l.queue := by
      rw [hqueue]
      exact (List.perm_append_singleton e _).trans List.perm_middle.symm
    refine KeysSound.of_keys (q := before ++ after ++ [e]) ⟨fun x hx => h.keys.sound x (hperm.mem_iff.mp hx), ?_, ?_, ?_⟩
      (by simp [TxEntry.key, TxEntry.address, TxEntry.stays])
    · exact (hperm.map TxEntry.address).nodup_iff.mpr h.keys.distinct
    · exact (hperm.countP_eq _).trans_le h.keys.replies
    · exact (hperm.countP_eq _).trans_le h.keys.standings
  · refine { h with keys := ?_, flights := ?_ }
    · rw [List.append_nil]
      exact h.keys.sublist hsub
    · rw [List.append_nil, hnone]
      exact Nat.zero_le 1

theorem replyEnded (h : l.Lists) (e : TxEntry) (discarded : Bool) : (l.replyEnded e discarded).Lists := by
  unfold Line.replyEnded
  split
  · exact h.replyGone _ _
  · split
    · exact h.dropStanding _ _ _
    · exact h
  · exact h

end Line.Lists

end Sys2Proof.Machine
end

section
/-! Every operation of the Display Controller, and of the warnings on it, keeps the law of the message queue (R117 to R127). -/

namespace Sys2Proof.Machine

/-- The law of the message queue but for its owners (R117). -/
structure QueueOrdered (q : List Message) : Prop where
  length : q.length ≤ 8
  ids : (q.map (·.id)).Nodup
  sorted : q.Pairwise fun a b => a.priority ≤ b.priority

/-- The law of the message queue (R117). -/
structure MessagesSound (q : List Message) : Prop extends QueueOrdered q where
  owned : ∀ m ∈ q, m.owners ≠ []

theorem displayLaw_iff (s : State) : DisplayLaw s ↔ MessagesSound s.display.queue :=
  ⟨fun ⟨hlength, hids, hsorted, howned⟩ => ⟨⟨hlength, hids, hsorted⟩, howned⟩,
    fun h => ⟨h.length, h.ids, h.sorted, h.owned⟩⟩

theorem QueueOrdered.sublist {q q' : List Message} (h : QueueOrdered q) (hsub : q'.Sublist q) : QueueOrdered q' :=
  ⟨hsub.length_le.trans h.length, h.ids.sublist (hsub.map _), h.sorted.sublist hsub⟩

theorem MessagesSound.sublist {q q' : List Message} (h : MessagesSound q) (hsub : q'.Sublist q) : MessagesSound q' :=
  ⟨h.toQueueOrdered.sublist hsub, fun m hm => h.owned m (hsub.mem hm)⟩

/-- A change in place that leaves id and priority leaves the order. -/
theorem QueueOrdered.updateId {q : List Message} (h : QueueOrdered q) (id : Nat) {f : Message → Message}
    (hf : ∀ m, (f m).id = m.id ∧ (f m).priority = m.priority) : QueueOrdered (updateId q id f) := by
  have hid : ∀ m : Message, (if m.id = id then f m else m).id = m.id := fun m => by split <;> simp [hf]
  have hpriority : ∀ m : Message, (if m.id = id then f m else m).priority = m.priority := fun m => by split <;> simp [hf]
  refine ⟨by simpa [Machine.updateId] using h.length, ?_, ?_⟩
  · simpa [Machine.updateId, Function.comp_def, hid] using h.ids
  · simpa [Machine.updateId, List.pairwise_map, hpriority] using h.sorted

theorem MessagesSound.updateId {q : List Message} (h : MessagesSound q) (id : Nat) {f : Message → Message}
    (hf : ∀ m, (f m).id = m.id ∧ (f m).priority = m.priority) (howned : ∀ m, m.owners ≠ [] → (f m).owners ≠ []) :
    MessagesSound (updateId q id f) := by
  refine ⟨h.toQueueOrdered.updateId id hf, fun m hm => ?_⟩
  obtain ⟨x, hx, rfl⟩ := List.mem_map.mp hm
  split
  · exact howned x (h.owned x hx)
  · exact h.owned x hx

/-- A message that joins stands among the others, each once (R118). -/
theorem insertMessage_perm (q : List Message) (m : Message) : (insertMessage q m).Perm (m :: q) := by
  have hsplit := List.filter_append_perm (fun x : Message => decide (x.priority ≤ m.priority)) q
  simp only [← Nat.not_lt, decide_not, Bool.not_not] at hsplit
  unfold insertMessage
  simp only [← Nat.not_lt, decide_not, List.append_assoc, List.singleton_append]
  exact List.perm_middle.trans (hsplit.cons m)

/-- A new entry of a new id joins after those of its rank (R118). -/
theorem MessagesSound.insertMessage {q : List Message} (h : MessagesSound q) {m : Message} (hroom : q.length < 8)
    (hnew : hasId q m.id = false) (howned : m.owners ≠ []) : MessagesSound (insertMessage q m) where
  length := (insertMessage_perm q m).length_eq.trans_le hroom
  ids := by
    rw [((insertMessage_perm q m).map (·.id)).nodup_iff, List.map_cons, List.nodup_cons]
    refine ⟨fun hmem => ?_, h.ids⟩
    obtain ⟨x, hx, hid⟩ := List.mem_map.mp hmem
    simp only [hasId, List.any_eq_false, decide_eq_true_eq] at hnew
    exact hnew x hx hid
  sorted := by
    unfold Machine.insertMessage
    rw [List.append_assoc, List.pairwise_append]
    refine ⟨h.sorted.sublist List.filter_sublist, ?_, fun a ha b hb => ?_⟩
    · refine List.pairwise_cons.mpr ⟨fun b hb => ?_, h.sorted.sublist List.filter_sublist⟩
      exact (of_decide_eq_true (List.mem_filter.mp hb).2).le
    · have hle : a.priority ≤ m.priority := of_decide_eq_true (List.mem_filter.mp ha).2
      obtain hb | hb := List.mem_append.mp hb
      · exact List.mem_singleton.mp hb ▸ hle
      · exact hle.trans (of_decide_eq_true (List.mem_filter.mp hb).2).le
  owned x hx := by
    obtain rfl | hx := List.mem_cons.mp ((insertMessage_perm q m).mem_iff.mp hx)
    · exact howned
    · exact h.owned x hx

namespace Display

variable {d : Display}

theorem keepRotation_queue (now : Stamp) (d : Display) : (d.keepRotation now).queue = d.queue := by
  unfold keepRotation; (repeat' split) <;> rfl

theorem beginShow_sound (now : Stamp) (id : Nat) (h : MessagesSound d.queue) : MessagesSound (d.beginShow now id).queue := by
  unfold beginShow
  rw [keepRotation_queue]
  refine h.updateId id (fun m => ?_) (fun m hm => ?_)
  · split <;> exact ⟨rfl, rfl⟩
  · split <;> exact hm

theorem switch_sound (now : Stamp) (h : MessagesSound d.queue) : MessagesSound (d.switch now).queue := by
  unfold switch
  split
  · exact beginShow_sound now _ h
  · exact h

theorem compare_sound (now : Stamp) (h : MessagesSound d.queue) : MessagesSound (d.compare now).queue := by
  unfold compare
  split
  · exact h
  · split
    · exact switch_sound now h
    · split
      · rwa [keepRotation_queue]
      · split
        · rwa [keepRotation_queue]
        · exact switch_sound now h

theorem workOutMode_queue (v : DisplayView) (d : Display) : (d.workOutMode v).queue = d.queue := by
  unfold workOutMode; dsimp only; (repeat' split) <;> rfl

theorem queueChanged_sound (v : DisplayView) (h : MessagesSound d.queue) : MessagesSound (d.queueChanged v).queue := by
  unfold queueChanged
  dsimp only
  split
  · exact compare_sound _ ((workOutMode_queue v d).symm ▸ h)
  · exact (workOutMode_queue v d).symm ▸ h

theorem settle_sound (v : DisplayView) (h : MessagesSound d.queue) : MessagesSound (d.settle v).queue := by
  unfold settle
  (repeat' split)
  · exact switch_sound _ h
  · exact h
  · exact h

theorem draw_queue (v : DisplayView) (d : Display) : (d.draw v).queue = d.queue := by unfold draw; split <;> rfl

theorem refreshMessage_key (now : Stamp) (p : Post) (m : Message) :
    (refreshMessage now p m).id = m.id ∧ (refreshMessage now p m).priority = m.priority := by
  unfold refreshMessage
  (repeat' split) <;> exact ⟨rfl, rfl⟩

/-- A refreshed message keeps an owner: its poster where it takes the message over (R119). -/
theorem refreshMessage_owned (now : Stamp) (p : Post) {m : Message} (h : m.owners ≠ []) :
    (refreshMessage now p m).owners ≠ [] := by
  unfold refreshMessage
  split
  · split
    · exact h
    · simp
  · exact h
  · exact h
  · dsimp only
    split
    next hposter => exact List.ne_nil_of_mem (List.contains_iff_mem.mp hposter)
    next => simp

theorem post_sound (v : DisplayView) (p : Post) (h : MessagesSound d.queue) : MessagesSound (d.post v p).queue := by
  unfold post
  dsimp only
  split
  · exact queueChanged_sound v (h.updateId _ (refreshMessage_key v.now p) fun _ => refreshMessage_owned v.now p)
  next hnew =>
    rw [Bool.not_eq_true] at hnew
    split
    next hroom => exact queueChanged_sound v (h.insertMessage hroom hnew (List.cons_ne_nil _ _))
    next =>
      split
      next tail htail =>
        split
        · refine queueChanged_sound v ((h.sublist (List.dropLast_sublist _)).insertMessage ?_ ?_ (List.cons_ne_nil _ _))
          · have := List.length_pos_of_ne_nil fun hnil : d.queue = [] => by simp [hnil] at htail
            have := h.length
            rw [List.length_dropLast]
            omega
          · simp only [hasId, List.any_eq_false] at hnew ⊢
            exact fun x hx => hnew x (List.dropLast_subset _ hx)
        · exact h
      next => exact h

theorem withdraw_sound (v : DisplayView) (id : Nat) (o : Owner) (h : MessagesSound d.queue) :
    MessagesSound (d.withdraw v id o).queue := by
  unfold withdraw
  split
  · refine queueChanged_sound v ⟨(h.toQueueOrdered.updateId id fun _ => ⟨by rfl, by rfl⟩).sublist List.filter_sublist, ?_⟩
    intro m hm
    simpa using (List.mem_filter.mp hm).2
  · exact h

theorem remove_sound (v : DisplayView) (id : Nat) (h : MessagesSound d.queue) : MessagesSound (d.remove v id).queue :=
  queueChanged_sound v (h.sublist List.filter_sublist)

theorem keyChange_sound (v : DisplayView) (toOff : Bool) (h : MessagesSound d.queue) :
    MessagesSound (d.keyChange v toOff).queue := by
  refine queueChanged_sound v ?_
  dsimp only
  split
  · exact h.sublist List.filter_sublist
  · exact h

end Display

namespace Alerts

variable {a : Alerts} (s : State)

theorem withdrawBoth_sound (e : EntryId) (h : MessagesSound a.display.queue) :
    MessagesSound (a.withdrawBoth s e).display.queue := by
  unfold withdrawBoth
  dsimp only
  split
  · exact h
  · exact Display.withdraw_sound _ _ _ h

theorem leaveActive_sound (e : EntryId) (w : Warning) (h : MessagesSound a.display.queue) :
    MessagesSound (a.leaveActive s e w).display.queue := withdrawBoth_sound s e h

theorem activate_sound (e : EntryId) (fromPending : Bool) (h : MessagesSound a.display.queue) :
    MessagesSound (a.activate s e fromPending).display.queue := by
  have hpost : MessagesSound (if s.image.warnings[e].message = 0 then a.display else a.display.post s.displayView
      { id := s.image.warnings[e].message, priority := if s.image.warnings[e].chimeClass = .high then 0 else 1,
        duration := none, poster := .warning e }).queue := by
    split
    · exact h
    · exact Display.post_sound _ _ h
  unfold activate
  simp only [tell_display]
  (repeat' split at *) <;> exact hpost

theorem conditionTrue_sound (e : EntryId) (h : MessagesSound a.display.queue) :
    MessagesSound (a.conditionTrue s e).display.queue := by
  unfold conditionTrue
  dsimp only
  split
  · exact h
  · split
    · exact activate_sound s e true h
    · exact h

theorem conditionFalse_sound (e : EntryId) (h : MessagesSound a.display.queue) :
    MessagesSound (a.conditionFalse s e).display.queue := by
  unfold conditionFalse
  dsimp only
  split
  · exact h
  · exact h
  · exact withdrawBoth_sound s e h

theorem evalEntry_sound (e : EntryId) (h : MessagesSound a.display.queue) :
    MessagesSound (evalEntry s a e).display.queue := by
  unfold evalEntry
  dsimp only
  split
  · exact h
  · split
    · exact h
    · split
      · exact conditionTrue_sound s e h
      · exact conditionFalse_sound s e h

@[simp] theorem settleChime_display (a : Alerts) : (a.settleChime s).display = a.display := rfl

theorem evalEntries_sound (es : List EntryId) (h : MessagesSound a.display.queue) :
    MessagesSound (evalEntries s es a).display.queue :=
  List.foldlRecOn (motive := fun a : Alerts => MessagesSound a.display.queue) es _ h
    fun _ ha e _ => evalEntry_sound s e ha

theorem acknowledge_sound (e : EntryId) (h : MessagesSound a.display.queue) :
    MessagesSound (a.acknowledge s e).display.queue := leaveActive_sound s e _ h

theorem ackPress_sound (h : MessagesSound a.display.queue) : MessagesSound (Machine.ackPress s a).display.queue := by
  unfold Machine.ackPress
  dsimp only [settleChime_display]
  refine Display.settle_sound _ ?_
  split
  · exact acknowledge_sound s _ h
  · split
    · exact acknowledge_sound s _ h
    · split
      · dsimp only
        split
        · exact Display.remove_sound _ _ h
        · exact h
      · exact h

theorem phraseReported_display (e : EntryId) (a : Alerts) : (a.phraseReported s e).display = a.display := by
  unfold phraseReported
  dsimp only
  (repeat' split) <;> rfl

theorem finishPhrase_display (a : Alerts) : (a.finishPhrase s).display = a.display := by
  unfold finishPhrase
  split
  · rfl
  · rw [phraseReported_display, tell_display]

end Alerts

end Sys2Proof.Machine
end

section
/-! Every operation of the Non-Volatile Store on its own state keeps the law of the array, the rings and the record in progress
(section 9.1, R154, R161, R162). -/

namespace Sys2Proof.Machine

/-- The law of the store (section 9.1, R154). -/
structure Store.Sound (st : Store) : Prop where
  array : arrayWf st.array = true
  odo : st.odo.next < slotsPerBlock .odo
  save : st.save.next < slotsPerBlock .save
  op : st.op.sound = true

theorem storeLaw_iff (s : State) : StoreLaw s ↔ s.store.Sound :=
  ⟨fun ⟨harray, hodo, hsave, hop⟩ => ⟨harray, hodo, hsave, hop⟩, fun h => ⟨h.array, h.odo, h.save, h.op⟩⟩

theorem odoRecord_length (tenths : Nat) : (odoRecord tenths).length = recordSize .odo := rfl

theorem saveBody_length (s : State) : (saveBody s).length = 31 := by
  simp [saveBody, splitWord, TripRecord.words]

theorem saveRecord_length (s : State) : (saveRecord s).length = recordSize .save := by
  simp [saveRecord, saveBody_length, recordSize]

theorem slotsPerBlock_pos (r : Ring) : 0 < slotsPerBlock r := by cases r <;> decide

/-- A slot's words lie inside the array (section 9.2). -/
theorem slotAddress_lt {r : Ring} {slot n : Nat} (b : BlockId) (hslot : slot < slotsPerBlock r) (hn : n < recordSize r) :
    slotAddress r b slot n < Config.arrayWords := by
  refine wordAddress_lt b _ ?_
  cases r <;> simp only [slotsPerBlock, recordSize] at * <;> omega

@[simp] theorem Store.ring_withRing_same (st : Store) (r : Ring) (x : RingState) : (st.withRing r x).ring r = x := by
  cases r <;> rfl

theorem Store.ring_withRing_ne (st : Store) {r r' : Ring} (x : RingState) (h : r' ≠ r) :
    (st.withRing r x).ring r' = st.ring r' := by
  cases r <;> cases r' <;> first | rfl | exact absurd rfl h

@[simp] theorem Store.withRing_array (st : Store) (r : Ring) (x : RingState) : (st.withRing r x).array = st.array := by
  cases r <;> rfl
@[simp] theorem Store.withRing_op (st : Store) (r : Ring) (x : RingState) : (st.withRing r x).op = st.op := by
  cases r <;> rfl
@[simp] theorem Store.withRing_opTimer (st : Store) (r : Ring) (x : RingState) : (st.withRing r x).opTimer = st.opTimer := by
  cases r <;> rfl
@[simp] theorem Store.withRing_suspended (st : Store) (r : Ring) (x : RingState) :
    (st.withRing r x).suspended = st.suspended := by cases r <;> rfl
@[simp] theorem Store.withRing_queue (st : Store) (r : Ring) (x : RingState) : (st.withRing r x).queue = st.queue := by
  cases r <;> rfl
@[simp] theorem Store.withRing_conditions (st : Store) (r : Ring) (x : RingState) :
    (st.withRing r x).conditions = st.conditions := by cases r <;> rfl

/-- A look at a block queues an erase of its ring, or does nothing (R155, R156). -/
theorem Store.wantBlank_eq (r : Ring) (b : BlockId) (st : Store) :
    st.wantBlank r b = st ∨ st.wantBlank r b = { st with queue := st.queue ++ [.erase (.ring r) b] } := by
  unfold Store.wantBlank
  split
  · exact .inr rfl
  · exact .inl rfl

/-- The look ahead queues an erase of its ring, or does nothing (R155). -/
theorem Store.lookAhead_eq (r : Ring) (st : Store) :
    ∃ q, st.lookAhead r = { st with queue := st.queue ++ q } ∧ ∀ x ∈ q, ∃ b, x = .erase (.ring r) b := by
  unfold Store.lookAhead
  dsimp only
  split
  · exact ⟨[], by simp, by simp⟩
  · obtain h | h := st.wantBlank_eq r (st.nextGood r (st.ring r).current)
    · exact ⟨[], by simpa using h, by simp⟩
    · exact ⟨_, h, by simp⟩

/-- A record complete or given up moves its ring to the next blank slot, or to slot 0 of the next block, which the look ahead may
have erased (R155). -/
theorem Store.advance_eq (r : Ring) (st : Store) :
    ∃ current next q, st.advance r = { st.withRing r { st.ring r with current, next } with queue := st.queue ++ q } ∧
      next < slotsPerBlock r ∧ ∀ x ∈ q, ∃ b, x = .erase (.ring r) b := by
  unfold Store.advance
  dsimp only
  split
  next k hk =>
    have hlt := List.mem_range.mp (List.mem_of_find?_eq_some hk)
    refine ⟨(st.ring r).current, k, [], ?_, hlt, by simp⟩
    rw [List.append_nil, ← Store.withRing_queue st r]
  next =>
    obtain ⟨q, hq, herase⟩ :=
      Store.lookAhead_eq r (st.withRing r { st.ring r with current := st.nextGood r (st.ring r).current, next := 0 })
    refine ⟨st.nextGood r (st.ring r).current, 0, q, ?_, by cases r <;> decide, herase⟩
    rw [hq, Store.withRing_queue]

namespace Store.Sound

variable {st : Store}

theorem next (h : st.Sound) (r : Ring) : (st.ring r).next < slotsPerBlock r := by
  cases r
  · exact h.odo
  · exact h.save

theorem with_queue (h : st.Sound) (q : List StoreRequest) : Store.Sound { st with queue := q } :=
  ⟨h.array, h.odo, h.save, h.op⟩

theorem withRing (h : st.Sound) {r : Ring} {x : RingState} (hx : x.next < slotsPerBlock r) : (st.withRing r x).Sound := by
  cases r
  · exact ⟨h.array, hx, h.save, h.op⟩
  · exact ⟨h.array, h.odo, hx, h.op⟩

theorem begun (h : st.Sound) (now : Stamp) {op : StoreOp} (hop : op.sound = true) (millis : Nat) :
    (st.begun now op millis).Sound := ⟨h.array, h.odo, h.save, hop⟩

theorem ended (h : st.Sound) : st.ended.Sound := ⟨h.array, h.odo, h.save, rfl⟩

theorem with_array (h : st.Sound) {a : Array16} (ha : arrayWf a = true) : Store.Sound { st with array := a } :=
  ⟨ha, h.odo, h.save, h.op⟩

theorem with_conditions (h : st.Sound) (c : Vector BlockCondition 16) : Store.Sound { st with conditions := c } :=
  ⟨h.array, h.odo, h.save, h.op⟩

theorem lookAhead (h : st.Sound) (r : Ring) : (st.lookAhead r).Sound := by
  obtain ⟨q, hq, -⟩ := st.lookAhead_eq r
  rw [hq]
  exact h.with_queue _

theorem wantBlank (h : st.Sound) (r : Ring) (b : BlockId) : (st.wantBlank r b).Sound := by
  obtain hq | hq := st.wantBlank_eq r b <;> rw [hq]
  · exact h
  · exact h.with_queue _

theorem advance (h : st.Sound) (r : Ring) : (st.advance r).Sound := by
  obtain ⟨current, next, q, heq, hnext, -⟩ := st.advance_eq r
  rw [heq]
  exact (h.withRing hnext).with_queue _

theorem suspendFor (h : st.Sound) (now : Stamp) (target : BlockId) : (st.suspendFor now target).Sound := by
  unfold Store.suspendFor
  split
  · split
    · exact h
    · exact ⟨h.array, h.odo, h.save, rfl⟩
  · exact h

theorem joinCommit (h : st.Sound) (urgent forRestart : Bool) : (st.joinCommit urgent forRestart).Sound := by
  unfold Store.joinCommit
  split <;> exact h.with_queue _

theorem joinSave (h : st.Sound) (keyOff reset forRestart : Bool) : (st.joinSave keyOff reset forRestart).Sound := by
  unfold Store.joinSave
  split <;> exact h.with_queue _

theorem joinKeyOff (h : st.Sound) (forRestart : Bool) : (st.joinKeyOff forRestart).Sound := by
  unfold Store.joinKeyOff
  dsimp only
  refine Store.Sound.with_queue ?_ _
  (repeat' split) <;> first | exact h | exact h.joinCommit _ _ | exact h.joinSave _ _ _ | exact (h.joinCommit _ _).joinSave _ _ _

theorem suspendForKeyOff (h : st.Sound) (now : Stamp) : (st.suspendForKeyOff now).Sound := by
  unfold Store.suspendForKeyOff
  dsimp only
  (repeat' split) <;> first | exact h | exact h.suspendFor _ _ | exact (h.suspendFor _ _).suspendFor _ _

theorem makeUrgent (h : st.Sound) : st.makeUrgent.Sound := by
  unfold Store.makeUrgent
  split
  · exact h
  · exact h.joinCommit _ _

/-- The record that counts as the queued commit serves a commit of its ring still (R163). -/
theorem absorbCommit (h : st.Sound) : st.absorbCommit.Sound := by
  refine ⟨h.array, h.odo, h.save, ?_⟩
  have hop := h.op
  unfold Store.absorbCommit
  dsimp only
  split
  next heq => rw [heq] at hop; exact hop
  next => exact hop

theorem reclaim (h : st.Sound) (f : Claim → Claim) : (st.reclaim f).Sound := by
  refine ⟨h.array, h.odo, h.save, ?_⟩
  unfold Store.reclaim
  dsimp only
  split
  · rfl
  · exact h.op

theorem resume (h : st.Sound) (now : Stamp) (job : EraseJob) : (st.resume now job).Sound :=
  ⟨h.array, h.odo, h.save, rfl⟩

theorem start (h : st.Sound) {s : State} {r : StoreRequest} {st' : Store} (hstart : st.start s r = some st') : st'.Sound := by
  cases r with
  | commit _ _ _ =>
    obtain rfl := Option.some.inj hstart
    exact h.begun _ (by simp [StoreOp.sound, odoRecord_length, recordSize, StoreRequest.isCommit]) _
  | save _ _ _ _ _ =>
    obtain rfl := Option.some.inj hstart
    refine h.begun _ ?_ _
    simp only [StoreOp.sound, saveRecord_length, StoreRequest.isSave]
    decide
  | program _ _ _ =>
    simp only [Store.start, Option.ite_none_right_eq_some] at hstart
    obtain ⟨-, heq⟩ := hstart
    obtain rfl := Option.some.inj heq
    exact h.begun _ rfl _
  | erase _ _ =>
    obtain rfl := Option.some.inj hstart
    exact h.begun _ rfl _
  | read _ _ _ _ =>
    obtain rfl := Option.some.inj hstart
    exact h.begun _ rfl _

theorem withFailedRing (h : st.Sound) (r : Ring) (free : Nat) : (st.withFailedRing r free).Sound := by
  have hring := h.withRing (r := r) (x := { st.ring r with failed := true }) (h.next r)
  unfold Store.withFailedRing
  dsimp only
  split
  · split
    · refine Store.Sound.mk ?_ hring.odo hring.save hring.op
      dsimp only
      exact arrayWf_scrambleBlock _ _ _ hring.array
    · exact hring.with_queue _
  · exact hring.with_queue _

end Store.Sound

end Sys2Proof.Machine
end

section
/-! The laws of the blocks side by side (`Keeps`): what an operation has to keep of them, with the time base, the waiting commands,
the configuration image and the straps as they were. One lemma for every operation that crosses blocks. -/

namespace Sys2Proof.Machine

/-- What every operation but the counting of a tenth keeps: the time base, the waiting commands, the image and the straps, and the
laws of the display, the hold, the line, the pointers and the store. What an operation does not touch it keeps by its frame
lemmas, so that a proof names only what it moves. -/
structure KeepsBlocks (s x : State) : Prop where
  now : x.now = s.now := by simp
  pending : x.pending = s.pending := by simp
  image : x.image = s.image := by simp
  station : x.key.station = s.key.station := by simp
  role : x.key.role = s.key.role := by simp
  units : x.key.units = s.key.units := by simp
  display : MessagesSound s.display.queue → MessagesSound x.display.queue := by simp
  hold : HoldLaw s → HoldLaw x := by simp [HoldLaw]
  line : s.line.Lists → x.line.Lists := by simp
  gauges : GaugeLaw s → GaugeLaw x := by simp [GaugeLaw]
  store : s.store.Sound → x.store.Sound := by simp

/-- What an operation of an event keeps: the blocks' laws and the law of the odometer. -/
structure Keeps (s x : State) : Prop extends KeepsBlocks s x where
  odometer : OdometerLaw s → OdometerLaw x := by simp [OdometerLaw]

theorem KeepsBlocks.trans {s x y : State} (hx : KeepsBlocks s x) (hy : KeepsBlocks x y) : KeepsBlocks s y where
  now := hy.now.trans hx.now
  pending := hy.pending.trans hx.pending
  image := hy.image.trans hx.image
  station := hy.station.trans hx.station
  role := hy.role.trans hx.role
  units := hy.units.trans hx.units
  display := hy.display ∘ hx.display
  hold := hy.hold ∘ hx.hold
  line := hy.line ∘ hx.line
  gauges := hy.gauges ∘ hx.gauges
  store := hy.store ∘ hx.store

namespace Keeps

variable {s x y : State}

theorem refl (s : State) : Keeps s s where

theorem trans (hx : Keeps s x) (hy : Keeps x y) : Keeps s y where
  toKeepsBlocks := hx.toKeepsBlocks.trans hy.toKeepsBlocks
  odometer := hy.odometer ∘ hx.odometer

theorem ite {c : Prop} [Decidable c] (hx : c → Keeps s x) (hy : ¬ c → Keeps s y) : Keeps s (if c then x else y) := by
  split
  · exact hx ‹_›
  · exact hy ‹_›

/-- A fold of operations that keep the laws keeps them. -/
theorem foldl {α : Type} {f : State → α → State} (h : ∀ s a, Keeps s (f s a)) (l : List α) (s : State) : Keeps s (l.foldl f s) :=
  List.foldlRecOn (motive := Keeps s) l f (refl s) fun x hx a _ => hx.trans (h x a)

theorem iterate {f : State → State} (h : ∀ s, Keeps s (f s)) (n : Nat) (s : State) : Keeps s (f^[n] s) := by
  induction n generalizing s with
  | zero => exact refl s
  | succ n ih => exact (h s).trans (ih (f s))

/-! ## The line -/

theorem onLine {f : Line → Line} (h : s.line.Lists → (f s.line).Lists) : Keeps s (s.onLine f) where
  line := h

theorem publish {source : TxSource} {group : Byte} (data : List Byte) (h : (publishEntry source group data).sound = true)
    (s : State) : Keeps s (s.publish source group data) :=
  onLine fun hl => hl.handOn_publish data h

theorem answer (s : State) (asker : Station) (group index : Byte) (status : Status) (values : List Byte) :
    Keeps s (s.answer asker group index status values) :=
  onLine fun hl => hl.answer asker group index status values

/-! ## Reports -/

theorem reportSources (s : State) (srcs : List Source) : Keeps s (s.reportSources srcs) where
  display := Alerts.evalEntries_sound (a := s.alerts) s _

theorem evalAll (s : State) : Keeps s s.evalAll where
  display := Alerts.evalEntries_sound (a := s.alerts) s _

theorem ackPress (s : State) : Keeps s s.ackPress where
  display := Alerts.ackPress_sound (a := s.alerts) s

theorem faults (s : State) (r : FaultRecord) : Keeps s { s with faults := r } where

theorem reportFault (s : State) (k : FaultKind) : Keeps s (s.reportFault k) := by
  unfold State.reportFault
  extract_lets mask isNew s' s''
  have hcounted : Keeps s s' := faults s _
  have hpublished : Keeps s s'' := ite (fun _ => hcounted.trans (publish _ rfl s')) fun _ => hcounted
  exact ite (fun _ => hpublished) fun _ => hpublished.trans (reportSources s'' _)

theorem settleDisplay (s : State) : Keeps s s.settleDisplay where
  display := Display.settle_sound _

theorem clearLatch (s : State) : Keeps s s.clearLatch where
  hold h := ⟨fun hp => ⟨rfl, (h.1 hp).2⟩, h.2⟩

theorem reportTrip (s : State) : Keeps s s.reportTrip where

theorem handOver (before s : State) : Keeps s (State.handOver before s) where

/-! ## The close of an event -/

theorem watchStatus (s : State) (status : List Byte) : Keeps s (Machine.watchStatus s status) :=
  onLine fun hl => List.foldlRecOn (motive := Line.Lists) _ _ hl fun l h r _ => by
    dsimp only
    split
    · exact h.reportStanding s.now r _
    · exact h

theorem watchStanding (before s : State) : Keeps s (Machine.watchStanding before s) :=
  onLine fun hl => List.foldlRecOn (motive := Line.Lists) _ _ hl fun l h r _ => by
    dsimp only
    split
    · exact h.reportStanding s.now r _
    · exact h

theorem retryStandings (mayTry : StandingAsk → Bool) (s : State) : Keeps s (Machine.retryStandings mayTry s) :=
  onLine fun hl => List.foldlRecOn (motive := Line.Lists) _ _ hl fun l h r _ => by
    split
    · exact h.retryStanding s.now r _
    · exact h

theorem statusOnChange (before s : State) : Keeps s (State.statusOnChange before s) :=
  ite (fun _ => foldl (fun s b => publish b rfl s) _ s) fun _ => refl s

theorem close (before s : State) : Keeps s (State.close before s) := by
  have htaken (x : State) : Keeps x { x with handed := .nothing } := { }
  exact (settleDisplay s).trans <| (statusOnChange before _).trans <| (onLine Line.Lists.joinReady).trans <|
    (foldl watchStatus _ _).trans <| (watchStanding before _).trans <| (htaken _).trans (retryStandings _ _)

/-! ## Receiving -/

theorem quietTimer (s : State) (timer : Timer) : Keeps s { s with key := { s.key with quiet := timer } } where

theorem holdTimer {s : State} (now : Stamp) (millis : Nat) (hheld : s.hold.phase = .held) :
    Keeps s { s with hold := { s.hold with timer := startTimer now millis } } where
  hold _ := ⟨fun hp => absurd hheld hp, fun _ => by simp [startTimer]⟩

theorem accept (s : State) (origin : Station) (isReply : Bool) : Keeps s (s.accept origin isReply) := by
  unfold State.accept
  extract_lets own echo heard key quiet clashed hold
  have hheard : Keeps s heard := onLine fun h => h.of_eq rfl rfl rfl
  have hquiet : Keeps heard quiet := ite (fun _ => refl _) fun _ => quietTimer _ _
  have hclashed : Keeps quiet clashed := ite (fun _ => reportFault _ _) fun _ => refl _
  refine (hheard.trans (hquiet.trans hclashed)).trans (ite (fun hholder => ?_) fun _ => refl _)
  have hheld : clashed.hold.phase = .held := by
    simp only [Hold.isHolder, Bool.and_eq_true, decide_eq_true_eq] at hholder
    exact hholder.2.1
  exact holdTimer _ _ hheld

theorem takeRequest {owner : Byte → State → State} (howner : ∀ index x, Keeps x (owner index x)) (s : State) (group : Byte)
    (r : Request) : Keeps s (s.takeRequest group r owner) := by
  unfold State.takeRequest
  extract_lets accepted index
  refine ite (fun _ => refl s) fun _ => (accept s r.asker false).trans ?_
  refine ite (fun _ => onLine fun h => h.replyAtOnce _ _ _ _) fun _ => ?_
  refine ite (fun _ => onLine fun h => h.replyAtOnce _ _ _ _) fun _ => ?_
  refine ite (fun _ => refl _) fun _ => ?_
  refine ite (fun _ => onLine fun h => h.replyAtOnce _ _ _ _) fun hroom => Keeps.trans ?_ (howner index _)
  have hlength : (accepted.line.pending ++ [(⟨r.asker, group, index, .waiting⟩ : PendingAnswer)]).length ≤ 4 := by
    rw [List.length_append]
    exact Nat.not_le.mp hroom
  exact onLine fun h => { h with pending := hlength }

theorem refuse (s : State) (r : Request) (group index : Byte) (status : Status) : Keeps s (s.refuse r group index status) :=
  (reportFault s _).trans (answer _ _ _ _ _ _)

theorem unlessStranger {f : State → State} (h : ∀ x, Keeps x (f x)) (s : State) (r : Request) (group index : Byte) :
    Keeps s (s.unlessStranger r group index f) :=
  ite (fun _ => refuse s r group index _) fun _ => h s

theorem ifHolder {f : State → State} (s : State) (r : Request) (group index : Byte)
    (h : s.hold.isHolder r.asker = true → Keeps s (f s)) : Keeps s (s.ifHolder r group index f) :=
  ite h fun _ => refuse s r group index _

/-! ## The alerts -/

theorem onAlerts {f : Alerts → Alerts} (h : MessagesSound s.display.queue → MessagesSound (f s.alerts).display.queue) :
    Keeps s (s.onAlerts f) where
  display := h

theorem onChime (f : Chime → Chime) : Keeps s (s.onChime f) where

theorem onDisplay {f : Display → Display} (h : MessagesSound s.display.queue → MessagesSound (f s.display).queue) :
    Keeps s (s.onDisplay f) where
  display := h

end Keeps

end Sys2Proof.Machine
end

section
/-! The operations of the Service Monitor, the Hold Controller and the Non-Volatile Store (chapters 8 and 9) keep the laws. -/

namespace Sys2Proof.Machine

theorem HoldLaw.cleared {s : State} (h : s.hold = .cleared) : HoldLaw s :=
  ⟨fun _ => by rw [h]; exact ⟨rfl, rfl⟩, fun hp => by rw [h] at hp; exact nomatch hp⟩

/-- Whether the counters are within their widths (R133 to R136). -/
def Service.InWidths (x : Service) : Prop := x.dist ≤ 16777215 ∧ x.days ≤ 65535 ∧ x.wear ≤ 4294967295

theorem OdometerLaw.inWidths {s : State} (h : OdometerLaw s) : s.service.InWidths := h.2.2

theorem Service.InWidths.zeroed {x : Service} (h : x.InWidths) (selector : Nat) : (x.zeroed selector).InWidths := by
  obtain ⟨hdist, hdays, hwear⟩ := h
  refine ⟨?_, ?_, ?_⟩ <;> simp only [Service.zeroed] <;> split <;> omega

namespace Keeps

variable {s x y : State}

/-! ## Updates of one block -/

theorem service {x : Service} (h : s.service.InWidths → x.InWidths) : Keeps s { s with service := x } where
  odometer ho := ⟨ho.1, ho.2.1, h ho.inWidths⟩

theorem withStore {st : Store} (h : s.store.Sound → st.Sound) : Keeps s { s with store := st } where
  store := h

theorem clearHold (s : State) : Keeps s { s with hold := .cleared } where
  hold _ := .cleared rfl

theorem withKey (k : KeyMonitor) (hstation : k.station = s.key.station) (hrole : k.role = s.key.role)
    (hunits : k.units = s.key.units) : Keeps s { s with key := k } where
  station := hstation
  role := hrole
  units := hunits

/-! ## The Service Monitor and the hold -/

theorem withService {x : Service} (h : s.service.InWidths → x.InWidths) : Keeps s (s.withService x) :=
  ite (fun _ => service h) fun _ => (service h).trans ((handOver s _).trans (reportSources _ _))

theorem settleReset (s : State) (ok : Bool) : Keeps s (s.settleReset ok) := by
  unfold State.settleReset
  split
  · exact refl s
  · next r _ =>
    refine Keeps.trans (withService fun h => ?_) ((clearLatch _).trans (answer _ _ _ _ _ _))
    show Service.InWidths (if ok then s.service.zeroed r.selector else s.service)
    split
    · exact h.zeroed _
    · exact h

theorem withdrawReset (s : State) : Keeps s s.withdrawReset := by
  unfold State.withdrawReset
  split
  · exact refl s
  · refine ite (fun _ => refl s) fun _ => ?_
    have hservice : Keeps s { s with service := { s.service with reset := none } } := service id
    exact hservice.trans ((withStore fun h => h.with_queue _).trans (answer _ _ _ _ _ _))

theorem withdrawConfig (s : State) : Keeps s s.withdrawConfig := by
  refine (withStore fun h => h.with_queue _).trans (foldl (fun s r => ?_) _ _)
  split
  · exact answer _ _ _ _ _ _
  · exact answer _ _ _ _ _ _
  · exact refl s

theorem endHold (s : State) : Keeps s s.endHold :=
  ite (fun _ => (clearHold s).trans ((withdrawReset _).trans (withdrawConfig _))) fun _ => refl s

theorem dropEnable (s : State) : Keeps s s.dropEnable := by
  unfold State.dropEnable
  split
  · exact refl s
  · exact endHold s
  · exact (clearHold s).trans (withStore fun h => h.reclaim _)

theorem settleRead (s : State) (asker : Station) (address : Byte) (claim : Claim) (value : Option Word) :
    Keeps s (s.settleRead asker address claim value) := by
  have hopened (x : Hold) (hphase : x.phase = .held) (htimer : x.timer ≠ none) : Keeps s { s with hold := x } :=
    { hold := fun _ => ⟨fun hp => absurd hphase hp, fun _ => htimer⟩ }
  cases claim <;> cases value
  case claiming.none => exact (clearHold s).trans (answer _ _ _ _ _ _)
  case claiming.some => exact (hopened _ rfl (by simp [startTimer])).trans (answer _ _ _ _ _ _)
  all_goals exact answer _ _ _ _ _ _

theorem beginDrain (w : RestartWait) (s : State) : Keeps s (s.beginDrain w) := by
  unfold State.beginDrain
  extract_lets ended declaimed
  have hended : Keeps s ended := (endHold s).trans (withdrawConfig _)
  have hdeclaimed : Keeps ended declaimed :=
    ite (fun _ => (clearHold ended).trans (withStore fun h => h.reclaim _)) fun _ => refl ended
  have hdraining (k : KeyMonitor) (hk : k = { declaimed.key with restart := some { w with draining := true } }) (st : Store)
      (hst : declaimed.store.Sound → st.Sound) : Keeps declaimed { declaimed with store := st, key := k } := by
    subst hk
    exact (withStore hst).trans (withKey _ rfl rfl rfl)
  refine (hended.trans hdeclaimed).trans ((hdraining _ rfl _ fun h => h.with_queue _).trans (foldl (fun s r => ?_) _ _))
  split
  · exact settleRead _ _ _ _ _
  · exact refl s

theorem closeRestart (s : State) (commit save : Bool) : Keeps s (s.closeRestart commit save) := by
  unfold State.closeRestart
  split
  · exact refl s
  · exact ite (fun _ => beginDrain _ _) fun _ => withKey _ rfl rfl rfl

/-! ## Outcomes of requests -/

theorem recordOutcome (s : State) (r : StoreRequest) (ok : Bool) : Keeps s (s.recordOutcome r ok) := by
  cases r with
  | commit urgent again forRestart => exact ite (fun _ => closeRestart _ _ _) fun _ => refl s
  | save keyOff reset again carried forRestart =>
    have hsettled : Keeps s (if carried then s.settleReset ok else s) := ite (fun _ => settleReset _ _) fun _ => refl s
    exact hsettled.trans (ite (fun _ => closeRestart _ _ _) fun _ => refl _)
  | program | erase | read => exact refl s

theorem requestFailed (s : State) (r : StoreRequest) : Keeps s (s.requestFailed r) := by
  unfold State.requestFailed
  split <;> exact recordOutcome _ _ _

theorem failRing (s : State) (r : Ring) : Keeps s (s.failRing r) := by
  have hfailed : Keeps s { s with store := s.store.withFailedRing r s.freeIndex, freeIndex := s.freeIndex + 64 } :=
    { store := fun h => h.withFailedRing r s.freeIndex }
  exact hfailed.trans ((reportFault _ _).trans (foldl requestFailed _ _))

/-! ## Serving -/

theorem serveUpTo (fuel : Nat) (s : State) : Keeps s (Machine.serveUpTo fuel s) := by
  induction fuel generalizing s with
  | zero => exact refl s
  | succ fuel ih =>
    unfold Machine.serveUpTo
    refine ite (fun _ => refl s) fun _ => ?_
    split
    next r _ =>
      dsimp only
      split
      next st' hstart => exact withStore fun h => (h.with_queue _).start hstart
      next =>
        refine Keeps.trans ?_ (ih _)
        split
        · exact (withStore fun h => h.with_queue _).trans ((clearLatch _).trans (answer _ _ _ _ _ _))
        · exact withStore fun h => h.with_queue _
    next =>
      split
      · exact withStore fun h => h.resume _ _
      · exact refl s

theorem serve (s : State) : Keeps s s.serve := serveUpTo _ s

theorem arrive (s : State) (target : BlockId) : Keeps s (s.arrive target) :=
  (withStore fun h => h.suspendFor _ _).trans (serve _)

theorem requestCommit (s : State) (urgent forRestart : Bool) : Keeps s (s.requestCommit urgent forRestart) :=
  ite (fun _ => ite (fun _ => closeRestart _ _ _) fun _ => refl s) fun _ =>
    (withStore fun h => h.joinCommit _ _).trans (arrive _ _)

theorem requestSave (s : State) (keyOff reset forRestart : Bool) : Keeps s (s.requestSave keyOff reset forRestart) :=
  ite (fun _ => requestFailed _ _) fun _ => (withStore fun h => h.joinSave _ _ _).trans (arrive _ _)

theorem keyOffSave (s : State) (forRestart : Bool) : Keeps s (s.keyOffSave forRestart) := by
  unfold State.keyOffSave
  extract_lets joined closed
  have hjoined : Keeps s joined := withStore fun h => h.joinKeyOff _
  have hclosed : Keeps joined closed := ite (fun _ => closeRestart _ _ _) fun _ => refl _
  exact (hjoined.trans hclosed).trans ((withStore fun h => h.suspendForKeyOff _).trans (serve _))

/-! ## Completions -/

theorem verifyFailed (s : State) (r : Ring) (request : StoreRequest) (abandon : Bool) :
    Keeps s (s.verifyFailed r request abandon) := by
  unfold State.verifyFailed
  extract_lets x retry st worn
  have hworn : Keeps s worn :=
    Keeps.trans (withStore fun h => (h.ended.withRing (x := { x with fails := x.fails + 1 }) (h.next r)).advance r) (reportFault _ _)
  refine hworn.trans (ite (fun _ => (failRing _ _).trans (recordOutcome _ _ _)) fun _ => ?_)
  exact ite (fun _ => recordOutcome _ _ _) fun _ => withStore fun h => h.with_queue _

end Keeps

end Sys2Proof.Machine
end

section
/-! The completions of the Non-Volatile Store, the supply-low line, the asks and the commands keep the laws. -/

namespace Sys2Proof.Machine

namespace Keeps

variable {s x y : State}

/-! ## Completions -/

/-- The word of a record that has been programmed lies inside the array (section 9.2). -/
theorem recordWord_lt {r : Ring} {request : StoreRequest} {words : List Word} {pos : Nat} {abandon : Bool} {tenths : Nat}
    (hop : s.store.op = .record r request words pos abandon tenths) (h : s.store.Sound) :
    slotAddress r (s.store.ring r).current (s.store.ring r).next pos < Config.arrayWords := by
  have hsound := h.op
  rw [hop] at hsound
  simp only [StoreOp.sound, Bool.and_eq_true, decide_eq_true_eq] at hsound
  exact slotAddress_lt _ (h.next r) hsound.1.2

theorem recordWordDone {r : Ring} {request : StoreRequest} {words : List Word} {pos : Nat} {abandon : Bool} {tenths : Nat}
    (hop : s.store.op = .record r request words pos abandon tenths) (stuck : Word) :
    Keeps s (s.recordWordDone r request words pos abandon tenths stuck) := by
  unfold State.recordWordDone
  extract_lets x address value result store st
  have hst (h : s.store.Sound) : st.Sound :=
    (h.with_array (arrayWf_writeWord _ _ _ h.array (recordWord_lt hop h))).with_conditions _
  refine ite (fun _ => (withStore hst).trans ((verifyFailed _ _ _ _).trans (serve _))) fun _ => ?_
  refine ite (fun _ => (withStore fun h => ((hst h).ended).advance r).trans ((recordOutcome _ _ _).trans (serve _))) fun _ => ?_
  refine ite (fun hmore => withStore fun h => (hst h).begun _ ?_ _) fun _ => ?_
  · have hsound := h.op
    rw [hop] at hsound
    simp only [StoreOp.sound, Bool.and_eq_true, decide_eq_true_eq] at hsound ⊢
    exact ⟨⟨hsound.1.1, by omega⟩, hsound.2⟩
  · refine Keeps.trans (withStore fun h => ?_) ((recordOutcome _ _ _).trans (serve _))
    exact ((hst h).ended.withRing (x := { x with fails := 0 }) (h.next r)).advance r

theorem configWordDone (s : State) (asker : Station) (address : Byte) (value stuck : Word) :
    Keeps s (s.configWordDone asker address value stuck) := by
  unfold State.configWordDone
  extract_lets result ended programmed answered
  have hprogrammed : Keeps s programmed :=
    withStore fun h => h.ended.with_array (arrayWf_writeWord _ _ _ h.array (configAddress_lt address))
  have hanswered : Keeps programmed answered :=
    ite (fun _ => answer _ _ _ _ _ _) fun _ => (answer _ _ _ _ _ _).trans (reportFault _ _)
  exact (hprogrammed.trans hanswered).trans ((clearLatch _).trans (serve _))

theorem blockMadeBad (s : State) (r : Ring) (b : BlockId) : Keeps s (s.blockMadeBad r b) := by
  unfold State.blockMadeBad
  extract_lets ended st bad store x next current
  have hbad : Keeps s bad := (withStore fun h => h.ended.with_conditions _).trans (reportFault _ _)
  refine hbad.trans (ite (fun _ => failRing _ _) fun _ => withStore fun h => ?_)
  have hcurrent : current.Sound := by
    unfold current
    split
    · exact (h.withRing (slotsPerBlock_pos r)).wantBlank r _
    · exact h
  exact hcurrent.lookAhead r

theorem attemptDone (s : State) (job : EraseJob) (residue : List (Fin 64 × Word)) : Keeps s (s.attemptDone job residue) := by
  unfold State.attemptDone
  extract_lets array store erased
  have herased : Keeps s erased := withStore fun h => h.with_array (arrayWf_eraseBlock _ _ _ h.array)
  refine herased.trans (ite (fun _ => ?_) fun _ => ite (fun _ => withStore fun h => h.begun _ rfl _) fun _ => ?_)
  · split
    · exact Keeps.trans (withStore fun h => (h.ended.with_conditions _).lookAhead _) (serve _)
    · exact (withStore fun h => h.ended).trans ((answer _ _ _ _ _ _).trans ((clearLatch _).trans (serve _)))
  · split
    · exact (blockMadeBad _ _ _).trans (serve _)
    · exact (withStore fun h => h.ended).trans
        ((answer _ _ _ _ _ _).trans ((reportFault _ _).trans ((clearLatch _).trans (serve _))))

theorem supplyFailing (s : State) : Keeps s s.supplyFailing := by
  unfold State.supplyFailing
  extract_lets st
  have hst (h : s.store.Sound) : st.Sound := h.makeUrgent
  split
  next heq =>
    refine ite (fun _ => withStore fun h => (hst h).absorbCommit) fun _ => withStore fun h => ?_
    have hop := (hst h).op
    split
    next heq => rw [heq] at hop; exact { hst h with op := hop }
    next => exact hst h
  next heq =>
    refine withStore fun h => { hst h with op := ?_ }
    have hop := (hst h).op
    rw [heq] at hop
    exact hop
  next => exact Keeps.trans (withStore fun h => by
      split
      · exact hst h
      · exact (hst h).suspendFor _ _) (serve _)

/-! ## The asks -/

theorem askWatched (s : State) (group : Byte) (r : Request) (index : Byte) : Keeps s (s.askWatched group r index) := by
  unfold State.askWatched
  extract_lets a registered
  refine ite (fun _ => ite (fun _ => ?_) fun _ => answer _ _ _ _ _ _) fun _ => ?_
  · have hline : Keeps s { s with line := registered.2 } := onLine (f := fun _ => registered.2) fun h => h.register _ _ _ _ _
    exact hline.trans (answer _ _ _ _ _ _)
  · exact (onLine fun h => h.dropStanding _ _ _).trans (answer _ _ _ _ _ _)

theorem queueRead (s : State) (asker : Station) (address : Byte) (claim : Claim) : Keeps s (s.queueRead asker address claim) :=
  (withStore fun h => h.with_queue _).trans (serve _)

/-! ## The commands of 60H to 67H -/

theorem badComplement (s : State) (r : Request) (group index : Byte) : Keeps s (s.badComplement r group index) :=
  (refuse _ _ _ _ _).trans (clearLatch _)

theorem takeReset (s : State) (r : Request) (index : Byte) : Keeps s (s.takeReset r index) := by
  refine ite (fun _ => badComplement _ _ _ _) fun _ => ite (fun _ => answer _ _ _ _ _ _) fun _ => ?_
  refine ite (fun _ => refuse _ _ _ _ _) fun _ => ite (fun _ => answer _ _ _ _ _ _) fun _ => ?_
  refine ite (fun _ => answer _ _ _ _ _ _) fun _ => ?_
  have hpending : Keeps s { s with service := { s.service with reset := some ⟨r.asker, index.toNat⟩ } } := service id
  exact hpending.trans (requestSave _ _ _ _)

theorem clearFaults (s : State) : Keeps s s.clearFaults := by
  unfold State.clearFaults
  extract_lets had cleared reported
  have hcleared : Keeps s cleared := faults s _
  have hreported : Keeps cleared reported := ite (fun _ => reportSources _ _) fun _ => refl _
  clear_value reported
  exact (hcleared.trans hreported).trans (ite (fun _ => publish _ rfl _) fun _ => refl _)

theorem beginRestart (s : State) : Keeps s s.beginRestart := by
  unfold State.beginRestart
  split
  · have htaken : Keeps s { s with key := { s.key with restart := some ⟨true, true, false⟩ } } := withKey _ rfl rfl rfl
    exact htaken.trans (keyOffSave _ true)
  · exact beginDrain _ _

end Keeps

end Sys2Proof.Machine
end

section
/-! The odometer (R26, R27, R134): what the tenths of an accepted delta make of the odometer and of the service distance, and that
the arrivals of a PUBLISH telegram keep the laws. -/

namespace Sys2Proof.Machine

/-! ## One tenth -/

section

variable (s : State)

@[simp] theorem State.withService_service (x : Service) : (s.withService x).service = x := by
  unfold State.withService
  dsimp only
  split <;> simp

/-- A commit asked for by the odometer belongs to no RESTART, so it leaves the counters and the key record. -/
@[simp] theorem State.requestCommit_false_service (urgent : Bool) : (s.requestCommit urgent false).service = s.service := by
  simp only [State.requestCommit, Bool.false_eq_true, if_false]
  split <;> simp

@[simp] theorem State.requestCommit_false_key (urgent : Bool) : (s.requestCommit urgent false).key = s.key := by
  simp only [State.requestCommit, Bool.false_eq_true, if_false]
  split <;> simp

@[simp] theorem State.tenth_integ :
    s.tenth.integ = { s.integ with tenths := s.integ.tenths + 1, remainder := s.integ.remainder - s.image.params.p } := by
  unfold State.tenth; dsimp only; (repeat' split) <;> simp

@[simp] theorem State.tenth_service :
    s.tenth.service = { s.service with dist := min 16777215 (s.service.dist + 1) } := by
  unfold State.tenth; dsimp only; (repeat' split) <;> simp

@[simp] theorem State.tenth_image : s.tenth.image = s.image := by
  unfold State.tenth; dsimp only; (repeat' split) <;> simp

@[simp] theorem State.tenth_frame :
    s.tenth.now = s.now ∧ s.tenth.slots = s.slots ∧ s.tenth.gauges = s.gauges ∧ s.tenth.trip = s.trip ∧
      s.tenth.faults = s.faults ∧ s.tenth.key = s.key ∧ s.tenth.freeIndex = s.freeIndex ∧ s.tenth.pending = s.pending := by
  unfold State.tenth; dsimp only; (repeat' split) <;> simp

end

/-! ## The tenths of a delta -/

/-- The odometer after n tenths, each of which takes P from the remainder (R26). -/
@[simp] theorem State.tenths_integ (n : Nat) (s : State) :
    (State.tenths n s).integ =
      { s.integ with tenths := s.integ.tenths + n, remainder := s.integ.remainder - n * s.image.params.p } := by
  induction n generalizing s with
  | zero => simp [State.tenths]
  | succ n ih =>
    simp only [State.tenths, ih, State.tenth_integ, State.tenth_image, Nat.add_mul, Nat.one_mul]
    congr 1 <;> omega

/-- The service distance after n tenths (R134). -/
@[simp] theorem State.tenths_service (n : Nat) (s : State) (h : s.service.dist ≤ 16777215) :
    (State.tenths n s).service = { s.service with dist := min 16777215 (s.service.dist + n) } := by
  induction n generalizing s with
  | zero => simp [State.tenths, h]
  | succ n ih =>
    rw [State.tenths, ih _ (by simp), State.tenth_service]
    have hdist : min 16777215 (min 16777215 (s.service.dist + 1) + n) = min 16777215 (s.service.dist + (n + 1)) := by omega
    simp only [hdist]

@[simp] theorem State.tenths_frame (n : Nat) (s : State) :
    (State.tenths n s).now = s.now ∧ (State.tenths n s).image = s.image ∧ (State.tenths n s).slots = s.slots ∧
      (State.tenths n s).gauges = s.gauges ∧ (State.tenths n s).trip = s.trip ∧ (State.tenths n s).faults = s.faults ∧
      (State.tenths n s).key = s.key ∧ (State.tenths n s).freeIndex = s.freeIndex ∧
      (State.tenths n s).pending = s.pending := by
  induction n generalizing s with
  | zero => simp [State.tenths]
  | succ n ih => simpa [State.tenths] using ih s.tenth

/-- The tenths of a delta with which the remainder comes to r (R26, R27). -/
def Integrator.tenthsOf (x : Integrator) (p r : Nat) : Nat := min (r / p) (Config.odometerLimit - x.tenths)

/-- The odometer with an accepted delta of d pulses: the tenths, and the remainder, 0 at the limit (R26, R27). -/
theorem State.addDistance_eq (s : State) (d : Nat) :
    s.addDistance d =
      let n := s.integ.tenthsOf s.image.params.p (s.integ.remainder + d)
      let x := State.tenths n { s with integ := { s.integ with remainder := s.integ.remainder + d } }
      if s.integ.tenths + n = Config.odometerLimit then { x with integ := { x.integ with remainder := 0 } } else x := by
  unfold State.addDistance
  simp only [State.tenths_integ]
  rfl

namespace Keeps

variable {s x y : State}

theorem withInteg (s : State) (i : Integrator) : KeepsBlocks s { s with integ := i } where

theorem tenth (s : State) : KeepsBlocks s s.tenth := by
  unfold State.tenth
  extract_lets n integ counted service served
  have hcounted : KeepsBlocks s counted := withInteg s _
  have hserved : Keeps counted served := withService fun ⟨_, hdays, hwear⟩ => ⟨Nat.min_le_left _ _, hdays, hwear⟩
  refine hcounted.trans (hserved.trans ?_).toKeepsBlocks
  exact ite (fun _ => requestCommit _ _ _) fun _ => ite (fun _ => requestCommit _ _ _) fun _ => refl _

theorem tenths (n : Nat) (s : State) : KeepsBlocks s (State.tenths n s) := by
  induction n generalizing s with
  | zero => exact (refl s).toKeepsBlocks
  | succ n ih => exact (tenth s).trans (ih _)

/-- The tenths take whole multiples of P from the remainder: all of them below the limit, and at the limit it becomes 0 (R26, R27). -/
theorem addDistance (s : State) (d : Nat) : Keeps s (s.addDistance d) := by
  rw [State.addDistance_eq]
  extract_lets n integ counted cleared
  have hcounted : KeepsBlocks s counted := (withInteg s _).trans (tenths n _)
  have hinteg : counted.integ =
      { s.integ with tenths := s.integ.tenths + n, remainder := s.integ.remainder + d - n * s.image.params.p } :=
    State.tenths_integ n _
  have htenths (h : OdometerLaw s) : s.integ.tenths + n ≤ Config.odometerLimit := by
    have hroom : n ≤ Config.odometerLimit - s.integ.tenths := Nat.min_le_right _ _
    have := h.1
    omega
  have hwidths (h : OdometerLaw s) : counted.service.InWidths := by
    obtain ⟨hdist, hdays, hwear⟩ := h.inWidths
    rw [show counted.service = _ from State.tenths_service n _ hdist]
    exact ⟨Nat.min_le_left _ _, hdays, hwear⟩
  split
  next => exact
    { toKeepsBlocks := hcounted.trans (withInteg _ _)
      odometer := fun h => ⟨by simpa [cleared, hinteg] using htenths h,
        by simpa [hcounted.image] using Nat.zero_lt_of_lt h.2.1, hwidths h⟩ }
  next hbelow =>
    refine { toKeepsBlocks := hcounted, odometer := fun h => ⟨by simpa [hinteg] using htenths h, ?_, hwidths h⟩ }
    have hp : 0 < s.image.params.p := Nat.zero_lt_of_lt h.2.1
    have hn : n = (s.integ.remainder + d) / s.image.params.p := by
      have := htenths h
      simp only [n, Integrator.tenthsOf] at hbelow this ⊢
      omega
    rw [hinteg, hcounted.image, hn, ← Nat.mod_eq_sub_div_mul]
    exact Nat.mod_lt _ hp

end Keeps

end Sys2Proof.Machine
end

section
/-! The consumers of the Signal Table, the trip computer, the attempts of the Line Station and the pointers keep the laws. -/

namespace Sys2Proof.Machine

/-! ## Pointers on their scale -/

/-- Position, target and filter within the scale (R52). -/
def Channel.OnScale (c : Calibration) (ch : Channel) : Prop := ch.position ≤ c.fs ∧ ch.target ≤ c.fs ∧ ch.filter ≤ 16 * c.fs

/-- A channel within its scale, or PARKED at 0 where it is disabled (R47, R52). -/
structure Channel.Lawful (c : Calibration) (ch : Channel) : Prop where
  enabled : c.enabled = true → ch.OnScale c
  disabled : c.enabled = false → ch.state = .parked ∧ ch.position = 0

theorem gaugeLaw_iff (s : State) : GaugeLaw s ↔ ∀ i : Fin 6, s.gauges.channels[i].Lawful s.image.gauges[i] :=
  ⟨fun h i => ⟨(h i).1, (h i).2⟩, fun h i => ⟨(h i).enabled, (h i).disabled⟩⟩

theorem moveToward_le {p c limit top : Nat} (hp : p ≤ top) (hc : c ≤ top) : moveToward p c limit ≤ top := by
  unfold moveToward
  split <;> split <;> omega

/-- A filter never overshoots its goal: the truncated quotient is no larger than the difference (R35, R51). -/
theorem filterStep_le {f goal d top : Nat} (hf : f ≤ top) (hg : goal ≤ top) : filterStep f goal d ≤ top := by
  have hquotient : ((goal : Int) - f).tdiv d ≤ max 0 ((goal : Int) - f) := by
    rcases Int.le_total 0 ((goal : Int) - f) with h | h
    · exact (Int.tdiv_le_self _ h).trans (Int.le_max_right _ _)
    · have hneg : 0 ≤ (-((goal : Int) - f)).tdiv d := Int.tdiv_nonneg (by omega) (Int.natCast_nonneg d)
      rw [Int.neg_tdiv] at hneg
      omega
  unfold filterStep
  dsimp only
  split
  · omega
  · split
    · omega
    · split <;> omega

theorem roundDiv_sixteen_le {f top : Nat} (hf : f ≤ 16 * top) : roundDiv f 16 ≤ top := by
  unfold roundDiv
  omega

theorem gaugeTarget_le (c : Calibration) (x : Int) : gaugeTarget c x ≤ c.fs := Nat.min_le_left _ _

namespace Channel

variable {c : Calibration} {ch : Channel}

theorem OnScale.check (h : ch.OnScale c) (status : SourceStatus) : (ch.check c status).OnScale c := by
  obtain ⟨hp, ht, hf⟩ := h
  cases status with
  | current x => exact ⟨hp, gaugeTarget_le c x, hf⟩
  | late x =>
    simp only [Channel.check]
    split
    · exact ⟨hp, ht, hf⟩
    · exact ⟨hp, gaugeTarget_le c x, hf⟩
  | unusable =>
    simp only [Channel.check]
    split
    · exact ⟨hp, ht, hf⟩
    · exact ⟨hp, Nat.zero_le _, hf⟩

theorem OnScale.follow (h : ch.OnScale c) : (ch.follow c).OnScale c := by
  obtain ⟨hp, ht, hf⟩ := h
  have hfilter : filterStep ch.filter (16 * ch.target) (2 ^ c.damping) ≤ 16 * c.fs := filterStep_le hf (by omega)
  exact ⟨moveToward_le hp (roundDiv_sixteen_le hfilter), ht, hfilter⟩

/-- An update keeps a pointer on its scale: every move ends at the command, at 0 or at full scale (R49 to R58). -/
theorem OnScale.update (h : ch.OnScale c) (status : SourceStatus) (sweep keyOn : Bool) :
    (ch.update c status sweep keyOn).OnScale c := by
  obtain ⟨hp, ht, hf⟩ := h
  unfold Channel.update
  split
  case h_1 =>
    dsimp only
    split
    · split <;> exact ⟨Nat.zero_le _, ht, Nat.zero_le _⟩
    · exact ⟨hp, ht, hf⟩
  case h_2 => exact ⟨moveToward_le hp le_rfl, ht, hf⟩
  case h_3 =>
    dsimp only
    split
    · exact ⟨Nat.zero_le _, ht, Nat.zero_le _⟩
    · exact ⟨moveToward_le hp (Nat.zero_le _), ht, hf⟩
  case h_4 | h_5 | h_6 => exact (OnScale.check ⟨hp, ht, hf⟩ status).follow
  case h_7 => exact ⟨moveToward_le hp (Nat.zero_le _), ht, hf⟩
  case h_8 => exact ⟨hp, ht, hf⟩

theorem OnScale.keyOff (h : ch.OnScale c) : ch.keyOff.OnScale c := by
  unfold Channel.keyOff
  split <;> exact h

theorem OnScale.keyLeavesOff (h : ch.OnScale c) (sweep : Bool) : (ch.keyLeavesOff sweep).OnScale c := by
  obtain ⟨hp, ht, hf⟩ := h
  unfold Channel.keyLeavesOff
  split
  · exact ⟨hp, ht, Nat.zero_le _⟩
  · exact ⟨hp, ht, Nat.mul_le_mul_left 16 hp⟩
  · exact ⟨hp, ht, hf⟩

end Channel

theorem GaugeLaw.of_channels {s x : State} (himage : x.image = s.image)
    (hon : ∀ i : Fin 6, s.image.gauges[i].enabled = true → s.gauges.channels[i].OnScale s.image.gauges[i] →
      x.gauges.channels[i].OnScale s.image.gauges[i])
    (hoff : ∀ i : Fin 6, s.image.gauges[i].enabled = false → x.gauges.channels[i] = s.gauges.channels[i])
    (h : GaugeLaw s) : GaugeLaw x := by
  intro i
  rw [himage]
  refine ⟨fun he => hon i he ((h i).1 he), fun he => ?_⟩
  rw [hoff i he]
  exact (h i).2 he

namespace Keeps

variable {s x y : State}

theorem mapChannels {f : Channel → Channel} (h : ∀ (c : Calibration) (ch : Channel), ch.OnScale c → (f ch).OnScale c) (s : State) :
    Keeps s (s.mapChannels f) where
  gauges := GaugeLaw.of_channels rfl
    (fun i he hi => by rw [State.mapChannels_of_enabled f he]; exact h _ _ hi)
    fun i he => State.mapChannels_of_disabled f he

theorem sweepAddressed (s : State) (arg : Nat) : Keeps s (s.sweepAddressed arg) where
  gauges := by
    refine GaugeLaw.of_channels rfl (fun i _ hi => ?_) fun i he => ?_
    · simp only [State.sweepAddressed, Fin.getElem_fin, Vector.getElem_ofFn]
      split <;> exact hi
    · simp only [Fin.getElem_fin] at he
      simp [State.sweepAddressed, addressed, he]

theorem gaugeUpdate (s : State) (timer : Timer) :
    Keeps s { s with gauges := { channels := Machine.gaugeUpdate s, updateTimer := timer } } where
  gauges := GaugeLaw.of_channels rfl
    (fun i he hi => by rw [gaugeUpdate_of_enabled he]; exact hi.update _ _ _)
    fun i he => gaugeUpdate_of_disabled he

/-! ## The figures of the integrator -/

/-- The items of the integrator other than T and its remainder are under no law. -/
theorem withFigures {i : Integrator} (htenths : i.tenths = s.integ.tenths) (hremainder : i.remainder = s.integ.remainder) :
    Keeps s { s with integ := i } where
  odometer h := ⟨htenths ▸ h.1, hremainder ▸ h.2.1, h.2.2⟩

theorem withTrip (s : State) (t : Trip) : Keeps s { s with trip := t } where

theorem withSlots (s : State) (slots : Vector Slot 19) : Keeps s { s with slots } where

theorem withMonitor (s : State) (m : Monitor) : Keeps s { s with monitor := m } where

theorem clearMark (s : State) : Keeps s s.clearMark := withFigures (by rfl) (by rfl)

theorem refreshRange (s : State) : Keeps s s.refreshRange :=
  ite (fun _ => ite (fun _ => refl s) fun _ => (withTrip s _).trans ((reportTrip _).trans (reportSources _ _))) fun _ => refl s

theorem setSpeed (s : State) (speed : Option Nat) : Keeps s (s.setSpeed speed) :=
  ite (fun _ => withFigures (by rfl) (by rfl)) fun _ => (withFigures (by rfl) (by rfl)).trans (reportSources _ _)

theorem setVolume (s : State) (volume : Option Nat) : Keeps s (s.setVolume volume) :=
  ite (fun _ => withFigures (by rfl) (by rfl)) fun _ =>
    (withFigures (by rfl) (by rfl)).trans ((reportSources _ _).trans (refreshRange _))

theorem distanceGone (s : State) : Keeps s s.distanceGone := (withFigures (by rfl) (by rfl)).trans (setSpeed _ _)

/-! ## Arrivals -/

theorem updateBasis (s : State) (before : Nat) : Keeps s (s.updateBasis before) := by
  refine ite (fun _ => refl s) fun _ => ?_
  exact ite (fun _ => withFigures (by rfl) (by rfl)) fun _ => (withFigures (by rfl) (by rfl)).trans (refreshRange _)

theorem enterWindow (s : State) (d dt : Nat) : Keeps s (s.enterWindow d dt) := (withFigures (by rfl) (by rfl)).trans (setSpeed _ _)

theorem takeDistance (s : State) (d dt : Nat) : Keeps s (s.takeDistance d dt) := by
  refine ite (fun _ => Keeps.trans (ite (fun _ => ?_) fun _ => refl s) (enterWindow _ _ _)) fun _ =>
    (clearMark s).trans (reportFault _ _)
  exact (addDistance s d).trans ((updateBasis _ _).trans ((withTrip _ _).trans (reportTrip _)))

theorem takeFuel (s : State) (f dt : Nat) : Keeps s (s.takeFuel f dt) := by
  refine ite (fun _ => ite (fun _ => ?_) fun _ => refl s) fun _ => (clearMark s).trans (reportFault _ _)
  have htrip : Keeps s { s with trip := { s.trip with a := s.trip.a.withFuel f, b := s.trip.b.withFuel f } } := withTrip s _
  exact htrip.trans ((withFigures (by rfl) (by rfl)).trans (reportTrip _))

theorem tankArrived (s : State) : Keeps s s.tankArrived :=
  ite (fun _ => (withFigures (by rfl) (by rfl)).trans (setVolume _ _)) fun _ => refl s

theorem countDays (s : State) (d : Nat) (kept : Bool) : Keeps s (s.countDays d kept) :=
  ite (fun _ => ite (fun _ => withService fun ⟨hdist, _, hwear⟩ => ⟨hdist, Nat.min_le_left _ _, hwear⟩) fun _ => reportFault _ _)
    fun _ => refl s

theorem markDay (s : State) (d : Nat) (kept : Bool) : Keeps s (s.markDay d kept) :=
  ite (fun _ => withTrip s _) fun _ => refl s

theorem judgeJourney (s : State) : Keeps s s.judgeJourney :=
  ite (fun _ => ite (fun _ => (withTrip s _).trans (reportTrip _)) fun _ => withTrip s _) fun _ => refl s

theorem mirrorRange (s : State) (before : Option Nat) : Keeps s (s.mirrorRange before) :=
  ite (fun _ => reportSources _ _) fun _ => refl s

theorem consume (before : Option Nat) (s : State) (x : Arrival) : Keeps s (s.consume before x) := by
  unfold State.consume
  split
  · split
    · exact takeDistance _ _ _
    · exact refl s
  · split
    · exact takeFuel _ _ _
    · exact refl s
  · exact tankArrived s
  · refine Keeps.trans ?_ (judgeJourney _)
    split
    · exact (countDays _ _ _).trans (markDay _ _ _)
    · exact refl s
  · exact mirrorRange s before
  · exact refl s

theorem consumeLoss (before : Option Nat) (s : State) (i : SlotId) : Keeps s (State.consumeLoss before s i) := by
  unfold State.consumeLoss
  split
  · exact ite (fun _ => refl s) fun _ => distanceGone s
  · exact ite (fun _ => refl s) fun _ => clearMark s
  · exact mirrorRange s before
  · exact refl s

/-! ## Presses -/

theorem withDisplay {d : Display} (h : MessagesSound s.display.queue → MessagesSound d.queue) : Keeps s { s with display := d } where
  display := h

theorem pagePress (s : State) : Keeps s s.pagePress := by
  refine ite (fun _ => ?_) fun _ => refl s
  have hturned (n : Nat) : Keeps s { s with trip := { s.trip with page := n } } := withTrip s _
  exact (hturned _).trans (withDisplay fun h => by rw [Display.draw_queue]; exact h)

theorem resetPress (s : State) : Keeps s s.resetPress := by
  refine ite (fun _ => ?_) fun _ => refl s
  split
  · exact (withTrip s _).trans (reportTrip _)
  · exact (withTrip s _).trans (reportTrip _)
  · exact refl s

theorem takePresses (s : State) (presses : List Nat) : Keeps s (s.takePresses presses) :=
  (iterate pagePress _ s).trans ((iterate resetPress _ _).trans (iterate ackPress _ _))

theorem takePublish (s : State) (m : Publish) : Keeps s (s.takePublish m) :=
  (withSlots s _).trans <| (foldl (consume _) _ _).trans <| (reportSources _ _).trans <| (settleDisplay _).trans <|
    foldl (fun s (x : Arrival) => takePresses s x.presses) _ _

/-! ## The attempts of the Line Station -/

/-- The entry in flight leaves the queue with the lists told of it (R178, R179). -/
theorem entryEnded {e : TxEntry} (he : s.line.flying = some e) (discarded : Bool) :
    s.line.Lists → ({ s.line with queue := queueAfter s.line.queue e }.replyEnded e discarded).Lists :=
  fun h => (h.queueAfter he).replyEnded e discarded

theorem attemptFailed {e : TxEntry} (he : s.line.flying = some e) (fault : FaultKind) : Keeps s (s.attemptFailed e fault) := by
  unfold State.attemptFailed
  dsimp only
  split
  · exact onLine fun h => h.map_stays fun _ => e.attempts + 1
  · exact Keeps.trans (onLine (entryEnded he true)) (reportFault _ _)

theorem attemptEnded {e : TxEntry} (he : s.line.flying = some e) (outcome : Attempt) : Keeps s (s.attemptEnded e outcome) := by
  cases outcome <;> simp only [State.attemptEnded]
  case lostContention => exact onLine fun h => h.map_stays TxEntry.attempts
  case collision =>
    have habandoned : Keeps s (s.onLine fun l => { l with receiver := .abandoned }) := onLine fun h => h.of_eq rfl rfl rfl
    refine habandoned.trans (attemptFailed ?_ _)
    exact he
  case unheard => exact attemptFailed he _
  case success => exact onLine fun h => (entryEnded he false h).served e.source

end Keeps

end Sys2Proof.Machine
end

section
/-! A change of key state, wake, sleep and step 5 of the start keep the laws (sections 11.2, 11.3 and 11.5). -/

namespace Sys2Proof.Machine.Keeps

variable {s x y : State}

theorem withLine {l : Line} (h : s.line.Lists → l.Lists) : Keeps s { s with line := l } where
  line := h

/-! ## A change of key state, block by block -/

theorem gaugesTakeKey (s : State) (before : KeyState) : Keeps s (s.gaugesTakeKey before) :=
  ite (fun _ => mapChannels (fun _ _ h => h.keyOff) s) fun _ =>
    ite (fun _ => mapChannels (fun _ _ h => h.keyLeavesOff _) s) fun _ => refl s

theorem warningsTakeKey (s : State) (firstRun : Bool) : Keeps s (s.warningsTakeKey firstRun) :=
  (evalAll s).trans <| ite (fun _ => withMonitor _ _) fun _ => ite (fun _ => withMonitor _ _) fun _ => refl _

theorem announce (s : State) : Keeps s s.announce := by
  unfold State.announce
  split
  · exact withDisplay fun h => Display.post_sound _ _ h
  · exact refl s

theorem serviceTakesKey (s : State) (before : KeyState) (firstRun : Bool) : Keeps s (s.serviceTakesKey before firstRun) := by
  refine ite (fun _ => ?_) fun _ => refl s
  have htimer (timer : Timer) : Keeps s { s with service := { s.service with secTimer := timer } } := service id
  exact (htimer _).trans (ite (fun _ => announce _) fun _ => refl _)

theorem tripTakesKey (s : State) (before : KeyState) : Keeps s (s.tripTakesKey before) :=
  ite (fun _ => ite (fun _ => ite (fun _ => refl s) fun _ => withTrip s _) fun _ => withTrip s _) fun _ => refl s

theorem integTakesKey (s : State) (before : KeyState) : Keeps s (s.integTakesKey before) :=
  ite (fun _ => withFigures (by rfl) (by rfl)) fun _ => refl s

theorem displayTakesKey (s : State) : Keeps s s.displayTakesKey :=
  withDisplay fun h => Display.keyChange_sound _ _ h

theorem storeTakesKey (s : State) : Keeps s s.storeTakesKey := ite (fun _ => keyOffSave s _) fun _ => refl s

theorem lineTakesKey (s : State) (before : KeyState) : Keeps s (s.lineTakesKey before) := by
  unfold State.lineTakesKey
  split
  · exact onLine fun h => { h with standing := Nat.zero_le _ }
  · split
    · exact onLine fun h => h.of_eq rfl rfl rfl
    · exact refl s

theorem takeKey (s : State) (after : KeyState) : Keeps s (s.takeKey after) := by
  unfold State.takeKey
  extract_lets before firstRun runSeen key taken
  have htaken : Keeps s taken := withKey _ rfl rfl rfl
  exact htaken.trans <| (gaugesTakeKey _ _).trans <| (warningsTakeKey _ _).trans <| (serviceTakesKey _ _ _).trans <|
    (tripTakesKey _ _).trans <| (integTakesKey _ _).trans <| (displayTakesKey _).trans <| (storeTakesKey _).trans <|
    lineTakesKey _ _

/-! ## Power modes and step 5 of the start -/

theorem wake (s : State) : Keeps s s.wake where
  station := rfl
  role := rfl
  units := rfl
  line h := h.of_eq rfl rfl rfl
  display h := by
    show MessagesSound (Display.workOutMode _ _).queue
    rw [Display.workOutMode_queue]
    exact h
  gauges h i := h i
  odometer h := ⟨h.1, h.2⟩
  hold h := ⟨h.1, h.2⟩

theorem sleep (s : State) : Keeps s s.sleep where
  station := rfl
  role := rfl
  units := rfl
  line h := ⟨h.keys, h.flights, h.pending, Nat.zero_le _⟩
  display h := by
    show MessagesSound (Display.workOutMode _ _).queue
    rw [Display.workOutMode_queue]
    exact h
  gauges h i := h i
  odometer h := ⟨h.1, h.2⟩
  hold h := ⟨h.1, h.2⟩

theorem withKeyAndMonitor (k : KeyMonitor) (m : Monitor) (hstation : k.station = s.key.station) (hrole : k.role = s.key.role)
    (hunits : k.units = s.key.units) : Keeps s { s with key := k, monitor := m } where
  station := hstation
  role := hrole
  units := hunits

theorem finishStart (s : State) (key : KeyState) : Keeps s (s.finishStart key) := by
  unfold State.finishStart
  extract_lets key monitor begun taken lit trip ranged
  have hbegun : Keeps s begun := withKeyAndMonitor _ _ (by rfl) (by rfl) (by rfl)
  have htaken : Keeps begun taken :=
    ite (fun _ => (mapChannels (fun _ _ h => h.keyOff) _).trans (displayTakesKey _)) fun _ => takeKey _ _
  have hlit : Keeps taken lit := withMonitor _ _
  have hranged : Keeps lit ranged :=
    ite (fun _ => (withTrip _ _).trans ((reportTrip _).trans (reportSources _ _))) fun _ => refl _
  exact (hbegun.trans htaken).trans ((hlit.trans hranged).trans (ite (fun _ => supplyFailing _) fun _ => refl _))

end Sys2Proof.Machine.Keeps
end

section
/-! Every command but the two starts is an event that keeps the laws. -/

namespace Sys2Proof.Machine

/-- The command ran as an event at a stamp: it completed, kept the laws, and its close took what was handed over. -/
inductive RunsAsEvent (o : Result) (s : State) (t : Stamp) : Prop
  | intro (x : State) (next : o = .next x) (keeps : Keeps (s.stamped t) x) (handed : x.handed = .nothing)

namespace RunsAsEvent

variable {s : State} {t : Stamp}

theorem event {effect : State → State} (h : Keeps (s.stamped t) (effect (s.stamped t))) : RunsAsEvent (s.event t effect) s t :=
  ⟨_, rfl, h.trans (Keeps.close s _), State.close_handed s _⟩

theorem expiry {timer : Timer} {effect : State → State}
    (h : Keeps (s.stamped t) (effect (s.stamped t))) : RunsAsEvent (s.expiry t timer effect) s t :=
  event (Keeps.ite (fun _ => h) fun _ => Keeps.refl _)

theorem request {mnemonic : String} {group : Byte} {r : Request} {owner : Byte → State → State} (hfits : r.fits = true)
    (h : ∀ index x, Keeps x (owner index x)) : RunsAsEvent (s.request t mnemonic group r owner) s t := by
  unfold State.request
  rw [if_pos hfits]
  exact event (Keeps.takeRequest h _ _ _)

end RunsAsEvent

namespace Keeps

/-! ## The asks and commands, once their owner takes them -/

theorem openHold (s : State) {h : Hold} (hphase : h.phase = .held) (htimer : h.timer ≠ none) : Keeps s { s with hold := h } where
  hold _ := ⟨fun hp => absurd hphase hp, fun _ => htimer⟩

theorem claimHold (s : State) (a : Station) : Keeps s { s with hold := ⟨.opening, a, none, false⟩ } where
  hold _ := ⟨fun _ => ⟨rfl, rfl⟩, nofun⟩

/-! ## The line -/

/-- The marks, the counters and the timer of the line are under no law. -/
theorem withMarks {f : Line → Line} (hqueue : ∀ l, (f l).queue = l.queue) (hpending : ∀ l, (f l).pending = l.pending)
    (hstanding : ∀ l, (f l).standing = l.standing) (s : State) : Keeps s (s.onLine f) :=
  onLine fun h => h.of_eq (hqueue _) (hpending _) (hstanding _)

theorem stopSpacing (s : State) (stop : StandingAsk → StandingAsk) :
    Keeps s (s.onLine fun l => { l with standing := l.standing.map stop }) :=
  onLine fun h => h.with_standing (List.length_map _).le

end Keeps

/-- A command runs as an event, or is refused by name where it is not well formed. -/
def Runs (c : Instr) (s : State) : Prop :=
  RunsAsEvent (exec c s) s c.stamp ∨ c.wellFormed = false ∧ ∃ r, exec c s = .refused r

theorem runs_request {c : Instr} {s : State} {t : Stamp} {mnemonic : String} {group : Byte} {r : Request}
    {owner : Byte → State → State} (hexec : exec c s = s.request t mnemonic group r owner) (hstamp : c.stamp = t)
    (hwf : r.fits = false → c.wellFormed = false) (h : ∀ index x, Keeps x (owner index x)) : Runs c s := by
  cases hfits : r.fits with
  | true => exact .inl (by rw [hexec, hstamp]; exact RunsAsEvent.request hfits h)
  | false => exact .inr ⟨hwf hfits, _, by rw [hexec, State.request, hfits]; rfl⟩

theorem runs_event {c : Instr} {s : State} {t : Stamp} {effect : State → State} (hexec : exec c s = s.event t effect)
    (hstamp : c.stamp = t) (h : Keeps (s.stamped t) (effect (s.stamped t))) : Runs c s :=
  .inl (by rw [hexec, hstamp]; exact RunsAsEvent.event h)

theorem runs_expiry {c : Instr} {s : State} {t : Stamp} {timer : Timer} {effect : State → State}
    (hexec : exec c s = s.expiry t timer effect) (hstamp : c.stamp = t) (h : Keeps (s.stamped t) (effect (s.stamped t))) :
    Runs c s :=
  .inl (by rw [hexec, hstamp]; exact RunsAsEvent.expiry h)

/-! ## The asks and commands -/

section

variable (t : Stamp) (r : Request) (s : State)

theorem runs_askIdentity : Runs (.askIdentity t r) s :=
  runs_request rfl rfl id fun _ _ => Keeps.answer _ _ _ _ _ _

theorem runs_askServiceRecord : Runs (.askServiceRecord t r) s := by
  refine runs_request rfl rfl id fun index x => ?_
  refine Keeps.ite (fun _ => Keeps.answer _ _ _ _ _ _) fun _ => Keeps.ite (fun _ => Keeps.answer _ _ _ _ _ _) fun _ => ?_
  split
  · exact Keeps.answer _ _ _ _ _ _
  · dsimp only
    split
    · exact (Keeps.openHold x rfl (by simp [startTimer])).trans (Keeps.answer _ _ _ _ _ _)
    · exact Keeps.answer _ _ _ _ _ _

theorem runs_askConfigWord : Runs (.askConfigWord t r) s := by
  refine runs_request rfl rfl id fun index x => Keeps.ite (fun _ => Keeps.answer _ _ _ _ _ _) fun _ => ?_
  split
  · exact Keeps.answer _ _ _ _ _ _
  · exact Keeps.ite (fun _ => (Keeps.claimHold x _).trans (Keeps.queueRead _ _ _ _)) fun _ => Keeps.queueRead _ _ _ _

theorem runs_holdRelease : Runs (.holdRelease t r) s :=
  runs_request rfl rfl id fun _ s => Keeps.unlessStranger
    (fun x => Keeps.ite (fun _ => (Keeps.endHold x).trans (Keeps.answer _ _ _ _ _ _)) fun _ => Keeps.answer _ _ _ _ _ _) s _ _ _

theorem runs_writeEnable : Runs (.writeEnable t r) s := by
  refine runs_request rfl rfl id fun index x => Keeps.ifHolder x _ _ _ fun hholder => ?_
  have hheld : x.hold.phase = .held := by
    simp only [Hold.isHolder, Bool.and_eq_true, decide_eq_true_eq] at hholder
    exact hholder.1
  have hlatched : Keeps x { x with hold := { x.hold with latch := true } } :=
    { hold := fun h => ⟨fun hp => absurd hheld hp, h.2⟩ }
  exact hlatched.trans (Keeps.answer _ _ _ _ _ _)

theorem runs_serviceReset : Runs (.serviceReset t r) s :=
  runs_request rfl rfl id fun _ s => Keeps.unlessStranger
    (fun x => Keeps.ite (fun _ => Keeps.answer _ _ _ _ _ _) fun _ => Keeps.ifHolder x _ _ _ fun _ => Keeps.takeReset x _ _) s _ _ _

theorem runs_eraseConfigBlock : Runs (.eraseConfigBlock t r) s := by
  refine runs_request rfl rfl id fun index x => Keeps.ifHolder x _ _ _ fun _ => ?_
  refine Keeps.ite (fun _ => Keeps.answer _ _ _ _ _ _) fun _ => Keeps.ite (fun _ => Keeps.refuse _ _ _ _ _) fun _ => ?_
  refine Keeps.ite (fun _ => Keeps.answer _ _ _ _ _ _) fun _ => Keeps.ite (fun _ => Keeps.answer _ _ _ _ _ _) fun _ => ?_
  exact Keeps.trans (Keeps.withStore fun h => h.with_queue _) (Keeps.serve _)

theorem runs_writeConfigWord : Runs (.writeConfigWord t r) s := by
  refine runs_request rfl rfl id fun index x => Keeps.ifHolder x _ _ _ fun _ => ?_
  refine Keeps.ite (fun _ => Keeps.badComplement _ _ _ _) fun _ => Keeps.ite (fun _ => Keeps.refuse _ _ _ _ _) fun _ => ?_
  refine Keeps.ite (fun _ => Keeps.answer _ _ _ _ _ _) fun _ => Keeps.ite (fun _ => Keeps.answer _ _ _ _ _ _) fun _ => ?_
  exact Keeps.trans (Keeps.withStore fun h => h.with_queue _) (Keeps.arrive _ _)

theorem runs_faultClear : Runs (.faultClear t r) s :=
  runs_request rfl rfl id fun _ x => Keeps.ifHolder x _ _ _ fun _ => (Keeps.clearFaults x).trans (Keeps.answer _ _ _ _ _ _)

theorem runs_gaugeTest : Runs (.gaugeTest t r) s :=
  runs_request rfl rfl id fun _ x => Keeps.unlessStranger
    (fun x => Keeps.trans (Keeps.ite (fun _ => Keeps.sweepAddressed x _) fun _ => Keeps.refl x) (Keeps.answer _ _ _ _ _ _)) x _ _ _

theorem runs_restart : Runs (.restart t r) s :=
  runs_request rfl rfl id fun _ x => Keeps.ifHolder x _ _ _ fun _ =>
    Keeps.ite (fun _ => Keeps.answer _ _ _ _ _ _) fun _ => (Keeps.answer _ _ _ _ _ _).trans (Keeps.beginRestart _)

theorem runs_unknownAskOrCommand (kind : RequestKind) (group : Byte) : Runs (.unknownAskOrCommand t kind group r) s := by
  have hexec : exec (.unknownAskOrCommand t kind group r) s = execUnknownAskOrCommand t kind group r s := rfl
  unfold execUnknownAskOrCommand at hexec
  split at hexec
  next htaken => exact .inr ⟨by simp [Instr.wellFormed, htaken], _, hexec⟩
  next =>
    refine runs_request hexec rfl (fun hfits => by simp [Instr.wellFormed, hfits]) fun index x => ?_
    exact Keeps.ite (fun _ => Keeps.unlessStranger (fun x => Keeps.answer x _ _ _ _ _) x _ _ _) fun _ => Keeps.answer _ _ _ _ _ _

end

/-! ## The line -/

theorem runs_telegramDiscarded (t : Stamp) (reception : List RxByte) (s : State) : Runs (.telegramDiscarded t reception) s := by
  have hexec : exec (.telegramDiscarded t reception) s = execTelegramDiscarded t reception s := rfl
  unfold execTelegramDiscarded at hexec
  split at hexec
  next hsound => exact .inr ⟨by simpa [Instr.wellFormed] using hsound, _, hexec⟩
  next =>
    refine .inl (hexec ▸ RunsAsEvent.event (Keeps.ite (fun _ => ?_) fun _ => Keeps.refl _))
    exact Keeps.trans (Keeps.withMarks (fun _ => by rfl) (fun _ => by rfl) (fun _ => by rfl) _)
      (Keeps.ite (fun _ => Keeps.reportFault _ _) fun _ => Keeps.refl _)

theorem runs_publishReceived (t : Stamp) (m : Publish) (s : State) : Runs (.publishReceived t m) s := by
  have hexec : exec (.publishReceived t m) s = execPublishReceived t m s := rfl
  unfold execPublishReceived at hexec
  split at hexec
  next =>
    refine .inl (hexec ▸ RunsAsEvent.event (Keeps.ite (fun _ => ?_) fun _ => Keeps.refl _))
    exact (Keeps.accept _ _ _).trans (Keeps.ite (fun _ => Keeps.takePublish _ _) fun _ => Keeps.refl _)
  next hfits => exact .inr ⟨by simpa [Instr.wellFormed] using hfits, _, hexec⟩

theorem runs_lineStuck (t : Stamp) (s : State) : Runs (.lineStuck t) s := by
  refine runs_event (t := t) rfl rfl (Keeps.ite (fun _ => ?_) fun _ => Keeps.refl _)
  exact (Keeps.withMarks (fun _ => by rfl) (fun _ => by rfl) (fun _ => by rfl) _).trans (Keeps.reportFault _ _)

theorem runs_interframeGapElapsed (t : Stamp) (s : State) : Runs (.interframeGapElapsed t) s := by
  refine runs_event (t := t) (by change execInterframeGapElapsed .. = _; delta execInterframeGapElapsed; rfl) rfl ?_
  refine Keeps.ite (fun _ => ?_) fun _ => ?_
  · exact Keeps.onLine fun h => Line.Lists.choose (h.of_eq rfl rfl rfl)
  · exact Keeps.withMarks (fun _ => by rfl) (fun _ => by rfl) (fun _ => by rfl) _

theorem runs_transmitOutcome (t : Stamp) (outcome : Attempt) (s : State) : Runs (.transmitOutcome t outcome) s := by
  refine runs_event (t := t) (by change execTransmitOutcome .. = _; delta execTransmitOutcome; rfl) rfl ?_
  split
  next e he =>
    have hidle : Keeps (s.stamped t) ((s.stamped t).onLine fun l => { l with idle := false }) :=
      Keeps.withMarks (fun _ => by rfl) (fun _ => by rfl) (fun _ => by rfl) _
    refine hidle.trans (Keeps.attemptEnded ?_ outcome)
    exact he
  next => exact Keeps.refl _

theorem runs_statusTimerExpiry (t : Stamp) (s : State) : Runs (.statusTimerExpiry t) s := by
  refine runs_expiry (t := t) (by change execStatusTimerExpiry .. = _; delta execStatusTimerExpiry; rfl) rfl ?_
  exact (Keeps.withMarks (fun _ => by rfl) (fun _ => by rfl) (fun _ => by rfl) _).trans (Keeps.publish _ rfl _)

theorem runs_spacingTimerExpiry (t : Stamp) (asker : Station) (group index : Byte) (s : State) :
    Runs (.spacingTimerExpiry t asker group index) s := by
  refine runs_event (t := t) (by change execSpacingTimerExpiry .. = _; delta execSpacingTimerExpiry; rfl) rfl ?_
  exact Keeps.stopSpacing _ _

end Sys2Proof.Machine
end

section
/-! The commands of the Key and Supply Monitor, the timers and the completions of the store run as events that keep the laws. -/

namespace Sys2Proof.Machine

variable (t : Stamp) (s : State)

/-! ## The Key and Supply Monitor -/

theorem runs_startupKeyTaken : Runs (.startupKeyTaken t) s := by
  refine runs_event (t := t) (by change execStartupKeyTaken .. = _; delta execStartupKeyTaken; rfl) rfl ?_
  refine Keeps.ite (fun _ => ?_) fun _ => Keeps.refl _
  exact Keeps.trans (Keeps.withKey _ (by rfl) (by rfl) (by rfl)) (Keeps.finishStart _ _)

theorem Keeps.countKey (s : State) (before : KeyState) : Keeps s (s.countKey before) :=
  Keeps.ite (fun _ => Keeps.refl s) fun _ => Keeps.ite (fun _ => Keeps.withKey _ (by rfl) (by rfl) (by rfl)) fun _ =>
    Keeps.withKey _ (by rfl) (by rfl) (by rfl)

theorem runs_keyLineChange (acc run : Bool) : Runs (.keyLineChange t acc run) s := by
  refine runs_event (t := t) (by change execKeyLineChange .. = _; delta execKeyLineChange; rfl) rfl ?_
  refine Keeps.trans (Keeps.withKey _ (by rfl) (by rfl) (by rfl)) (Keeps.ite (fun _ => Keeps.countKey _ _) fun _ => ?_)
  exact Keeps.ite (fun _ => Keeps.wake _) fun _ => Keeps.refl _

theorem runs_keyStateChange : Runs (.keyStateChange t) s := by
  refine runs_event (t := t) (by change execKeyStateChange .. = _; delta execKeyStateChange; rfl) rfl ?_
  refine Keeps.ite (fun _ => ?_) fun _ => Keeps.refl _
  exact Keeps.trans (Keeps.withKey _ (by rfl) (by rfl) (by rfl)) (Keeps.takeKey _ _)

theorem runs_svcEnLineChange (level : Bool) : Runs (.svcEnLineChange t level) s := by
  refine runs_event (t := t) (by change execSvcEnLineChange .. = _; delta execSvcEnLineChange; rfl) rfl ?_
  refine Keeps.trans (Keeps.withKey _ (by rfl) (by rfl) (by rfl)) (Keeps.ite (fun _ => ?_) fun _ => Keeps.refl _)
  exact Keeps.withKey _ (by rfl) (by rfl) (by rfl)

theorem runs_svcEnChangeTaken : Runs (.svcEnChangeTaken t) s := by
  refine runs_event (t := t) (by change execSvcEnChangeTaken .. = _; delta execSvcEnChangeTaken; rfl) rfl ?_
  refine Keeps.ite (fun _ => ?_) fun _ => Keeps.refl _
  exact Keeps.ite (fun _ => Keeps.trans (Keeps.withKey _ (by rfl) (by rfl) (by rfl)) (Keeps.dropEnable _)) fun _ =>
    Keeps.withKey _ (by rfl) (by rfl) (by rfl)

theorem runs_supplyLowActive : Runs (.supplyLowActive t) s := by
  refine runs_event (t := t) (by change execSupplyLowActive .. = _; delta execSupplyLowActive; rfl) rfl ?_
  exact Keeps.trans (Keeps.withKey _ (by rfl) (by rfl) (by rfl))
    (Keeps.ite (fun _ => Keeps.supplyFailing _) fun _ => Keeps.refl _)

theorem runs_supplyLowInactive : Runs (.supplyLowInactive t) s := by
  refine runs_event (t := t) (by change execSupplyLowInactive .. = _; delta execSupplyLowInactive; rfl) rfl ?_
  exact Keeps.trans (Keeps.withKey _ (by rfl) (by rfl) (by rfl)) (Keeps.ite (fun _ => Keeps.serve _) fun _ => Keeps.refl _)

theorem runs_wake : Runs (.wake t) s := by
  refine runs_event (t := t) (by change execWake .. = _; delta execWake; rfl) rfl ?_
  exact Keeps.trans (Keeps.onLine Line.Lists.startBit) (Keeps.ite (fun _ => Keeps.refl _) fun _ => Keeps.wake _)

theorem runs_enterAsleep : Runs (.enterAsleep t) s := by
  refine runs_event (t := t) (by change execEnterAsleep .. = _; delta execEnterAsleep; rfl) rfl ?_
  exact Keeps.ite (fun _ => Keeps.sleep _) fun _ => Keeps.refl _

theorem runs_quietTimerExpiry : Runs (.quietTimerExpiry t) s := by
  refine runs_expiry (t := t) (by change execQuietTimerExpiry .. = _; delta execQuietTimerExpiry; rfl) rfl ?_
  exact Keeps.quietTimer _ _

theorem runs_otherTelegramAccepted (origin : Station) (isReply : Bool) : Runs (.otherTelegramAccepted t origin isReply) s := by
  refine runs_event (t := t) (by change execOtherTelegramAccepted .. = _; delta execOtherTelegramAccepted; rfl) rfl ?_
  exact Keeps.ite (fun _ => Keeps.accept _ _ _) fun _ => Keeps.refl _

/-! ## The timers of the Signal Table, the integrator, the pointers and the trips -/

theorem runs_slotLateExpiry (i : SlotId) : Runs (.slotLateExpiry t i) s := by
  refine runs_expiry (t := t) (by change execSlotLateExpiry .. = _; delta execSlotLateExpiry; rfl) rfl ?_
  refine Keeps.trans (Keeps.withSlots _ _) (Keeps.ite (fun _ => ?_) fun _ => Keeps.refl _)
  exact (Keeps.consumeLoss _ _ _).trans (Keeps.reportSources _ _)

theorem runs_slotLostExpiry (i : SlotId) : Runs (.slotLostExpiry t i) s := by
  refine runs_expiry (t := t) (by change execSlotLostExpiry .. = _; delta execSlotLostExpiry; rfl) rfl ?_
  extract_lets before gap lost reported
  have hlost : Keeps (s.stamped t) lost := Keeps.withSlots _ _
  have hreported : Keeps lost reported := Keeps.ite (fun _ => Keeps.reportFault _ _) fun _ => Keeps.refl _
  exact (hlost.trans hreported).trans ((Keeps.consumeLoss _ _ _).trans (Keeps.reportSources _ _))

theorem runs_fuelTimerExpiry : Runs (.fuelTimerExpiry t) s := by
  refine runs_expiry (t := t) (by change execFuelTimerExpiry .. = _; delta execFuelTimerExpiry; rfl) rfl ?_
  extract_lets integ stepped
  have hstepped : Keeps (s.stamped t) stepped := Keeps.withFigures (by rfl) (by rfl)
  refine hstepped.trans ?_
  split
  · exact Keeps.ite (fun _ => Keeps.setVolume _ _) fun _ => Keeps.refl _
  · exact Keeps.refl _

theorem runs_gaugeUpdateExpiry : Runs (.gaugeUpdateExpiry t) s := by
  refine runs_expiry (t := t) (by change execGaugeUpdateExpiry .. = _; delta execGaugeUpdateExpiry; rfl) rfl ?_
  exact Keeps.gaugeUpdate _ _

theorem runs_tripTimerExpiry : Runs (.tripTimerExpiry t) s := by
  refine runs_expiry (t := t) (by change execTripTimerExpiry .. = _; delta execTripTimerExpiry; rfl) rfl ?_
  exact (Keeps.withTrip _ _).trans ((Keeps.publish _ rfl _).trans ((Keeps.publish _ rfl _).trans (Keeps.reportTrip _)))

theorem runs_journeyWindowExpiry : Runs (.journeyWindowExpiry t) s := by
  refine runs_expiry (t := t) (by change execJourneyWindowExpiry .. = _; delta execJourneyWindowExpiry; rfl) rfl ?_
  exact Keeps.withTrip _ _

/-! ## The timers of the alerts -/

theorem runs_debounceExpiry (e : EntryId) : Runs (.debounceExpiry t e) s := by
  refine runs_expiry (t := t) (by change execDebounceExpiry .. = _; delta execDebounceExpiry; rfl) rfl ?_
  exact Keeps.ite (fun _ => Keeps.onAlerts fun h => Alerts.activate_sound (a := s.alerts) _ e true h) fun _ => Keeps.refl _

theorem runs_remindExpiry (e : EntryId) : Runs (.remindExpiry t e) s := by
  refine runs_expiry (t := t) (by change execRemindExpiry .. = _; delta execRemindExpiry; rfl) rfl ?_
  exact Keeps.ite (fun _ => Keeps.onAlerts fun h => Alerts.activate_sound (a := s.alerts) _ e false h) fun _ => Keeps.refl _

theorem runs_bulbCheckExpiry : Runs (.bulbCheckExpiry t) s := by
  refine runs_expiry (t := t) (by change execBulbCheckExpiry .. = _; delta execBulbCheckExpiry; rfl) rfl ?_
  exact Keeps.withMonitor _ _

theorem runs_strikeStart : Runs (.strikeStart t) s := by
  refine runs_expiry (t := t) (by change execStrikeStart .. = _; delta execStrikeStart; rfl) rfl ?_
  exact Keeps.ite (fun _ => Keeps.onChime _) fun _ => Keeps.refl _

theorem runs_strikeEnd : Runs (.strikeEnd t) s := by
  refine runs_expiry (t := t) (by change execStrikeEnd .. = _; delta execStrikeEnd; rfl) rfl ?_
  exact Keeps.ite (fun _ => Keeps.refl _) fun _ => Keeps.onChime _

theorem Keeps.finishPhrase (s x : State) : Keeps s (s.onAlerts (Alerts.finishPhrase x)) :=
  Keeps.onAlerts fun h => by rw [Alerts.finishPhrase_display]; exact h

theorem runs_preemptExpiry : Runs (.preemptExpiry t) s := by
  refine runs_expiry (t := t) (by change execPreemptExpiry .. = _; delta execPreemptExpiry; rfl) rfl ?_
  exact Keeps.ite (fun _ => Keeps.finishPhrase _ _) fun _ => Keeps.onChime _

theorem runs_preemptCut : Runs (.preemptCut t) s := by
  refine runs_expiry (t := t) (by change execPreemptCut .. = _; delta execPreemptCut; rfl) rfl ?_
  exact Keeps.ite (fun _ => Keeps.finishPhrase _ _) fun _ => Keeps.refl _

theorem runs_phraseCompletion : Runs (.phraseCompletion t) s := by
  refine runs_expiry (t := t) (by change execPhraseCompletion .. = _; delta execPhraseCompletion; rfl) rfl ?_
  exact Keeps.finishPhrase _ _

theorem runs_gapExpiry : Runs (.gapExpiry t) s := by
  refine runs_expiry (t := t) (by change execGapExpiry .. = _; delta execGapExpiry; rfl) rfl ?_
  exact Keeps.onAlerts id

/-! ## The timers of the display -/

theorem runs_minimumExpiry : Runs (.minimumExpiry t) s := by
  refine runs_expiry (t := t) (by change execMinimumExpiry .. = _; delta execMinimumExpiry; rfl) rfl ?_
  refine Keeps.onDisplay fun h => ?_
  extract_lets eligibleNow stopped
  have hstopped : MessagesSound stopped.queue := h
  split
  · exact Display.switch_sound _ hstopped
  · exact h

theorem runs_rotationExpiry : Runs (.rotationExpiry t) s := by
  refine runs_expiry (t := t) (by change execRotationExpiry .. = _; delta execRotationExpiry; rfl) rfl ?_
  refine Keeps.onDisplay fun h => ?_
  split
  · exact Display.beginShow_sound _ _ h
  · exact h

theorem runs_durationExpiry (id : Nat) : Runs (.durationExpiry t id) s := by
  refine runs_event (t := t) (by change execDurationExpiry .. = _; delta execDurationExpiry; rfl) rfl ?_
  exact Keeps.ite (fun _ => Keeps.onDisplay fun h => Display.remove_sound _ _ h) fun _ => Keeps.refl _

theorem runs_refreshTimerExpiry : Runs (.refreshTimerExpiry t) s := by
  refine runs_expiry (t := t) (by change execRefreshTimerExpiry .. = _; delta execRefreshTimerExpiry; rfl) rfl ?_
  exact Keeps.onDisplay fun h => by simpa [Display.draw_queue] using h

/-! ## The Service Monitor, the hold and the store -/

theorem runs_serviceTimerExpiry : Runs (.serviceTimerExpiry t) s := by
  refine runs_expiry (t := t) (by change execServiceTimerExpiry .. = _; delta execServiceTimerExpiry; rfl) rfl ?_
  have htimer (x : State) (timer : Timer) : Keeps x { x with service := { x.service with secTimer := timer } } :=
    Keeps.service id
  refine (htimer _ _).trans (Keeps.ite (fun _ => ?_) fun _ => Keeps.refl _)
  exact Keeps.withService fun ⟨hdist, hdays, _⟩ => ⟨hdist, hdays, Nat.min_le_left _ _⟩

theorem runs_holdTimerExpiry : Runs (.holdTimerExpiry t) s := by
  refine runs_expiry (t := t) (by change execHoldTimerExpiry .. = _; delta execHoldTimerExpiry; rfl) rfl ?_
  exact (Keeps.endHold _).trans (Keeps.reportFault _ _)

theorem runs_wordProgramCompletion (stuck : Word) : Runs (.wordProgramCompletion t stuck) s := by
  refine runs_expiry (t := t) (by change execWordProgramCompletion .. = _; delta execWordProgramCompletion; rfl) rfl ?_
  split
  next hop => exact Keeps.recordWordDone hop _
  next => exact Keeps.configWordDone _ _ _ _ _
  next => exact Keeps.refl _

theorem runs_eraseAttemptEnd (residue : List (Fin 64 × Word)) : Runs (.eraseAttemptEnd t residue) s := by
  refine runs_expiry (t := t) (by change execEraseAttemptEnd .. = _; delta execEraseAttemptEnd; rfl) rfl ?_
  split
  · exact Keeps.attemptDone _ _ _
  · exact Keeps.refl _

theorem runs_readCompletion : Runs (.readCompletion t) s := by
  refine runs_expiry (t := t) (by change execReadCompletion .. = _; delta execReadCompletion; rfl) rfl ?_
  split
  · exact Keeps.trans (Keeps.withStore fun h => h.ended) ((Keeps.settleRead _ _ _ _ _).trans (Keeps.serve _))
  · exact Keeps.refl _

theorem runs_readTimeout (asker : Station) (address : Byte) : Runs (.readTimeout t asker address) s := by
  refine runs_event (t := t) (by change execReadTimeout .. = _; delta execReadTimeout; rfl) rfl ?_
  dsimp only
  split
  · exact Keeps.trans (Keeps.withStore fun h => h.with_queue _) (Keeps.settleRead _ _ _ _ _)
  · exact Keeps.refl _

/-! ## Every command -/

theorem runs_askWatched {c : Instr} {mnemonic : String} {group : Byte} {r : Request}
    (hexec : exec c s = s.request t mnemonic group r fun index s => s.askWatched group r index) (hstamp : c.stamp = t)
    (hwf : r.fits = false → c.wellFormed = false) : Runs c s :=
  runs_request hexec hstamp hwf fun _ _ => Keeps.askWatched _ _ _ _

/-- A command that is no start runs as an event, or is refused where it is not well formed. -/
theorem runs_of_not_start (c : Instr) (h : c.isStart = false) (s : State) : Runs c s := by
  cases c with
  | powerOn | restartWaitEnd => exact nomatch h
  | startupKeyTaken => exact runs_startupKeyTaken _ s
  | keyLineChange => exact runs_keyLineChange _ s _ _
  | keyStateChange => exact runs_keyStateChange _ s
  | svcEnLineChange => exact runs_svcEnLineChange _ s _
  | svcEnChangeTaken => exact runs_svcEnChangeTaken _ s
  | supplyLowActive => exact runs_supplyLowActive _ s
  | supplyLowInactive => exact runs_supplyLowInactive _ s
  | wake => exact runs_wake _ s
  | enterAsleep => exact runs_enterAsleep _ s
  | quietTimerExpiry => exact runs_quietTimerExpiry _ s
  | telegramDiscarded => exact runs_telegramDiscarded _ _ s
  | lineStuck => exact runs_lineStuck _ s
  | interframeGapElapsed => exact runs_interframeGapElapsed _ s
  | transmitOutcome => exact runs_transmitOutcome _ _ s
  | publishReceived => exact runs_publishReceived _ _ s
  | otherTelegramAccepted => exact runs_otherTelegramAccepted _ s _ _
  | askStatus t r => exact runs_askWatched t s rfl rfl id
  | askTripA t r => exact runs_askWatched t s rfl rfl id
  | askTripBRange t r => exact runs_askWatched t s rfl rfl id
  | askGaugeState t r => exact runs_askWatched t s rfl rfl id
  | askIdentity => exact runs_askIdentity _ _ s
  | askServiceRecord => exact runs_askServiceRecord _ _ s
  | askConfigWord => exact runs_askConfigWord _ _ s
  | holdRelease => exact runs_holdRelease _ _ s
  | writeEnable => exact runs_writeEnable _ _ s
  | serviceReset => exact runs_serviceReset _ _ s
  | eraseConfigBlock => exact runs_eraseConfigBlock _ _ s
  | writeConfigWord => exact runs_writeConfigWord _ _ s
  | faultClear => exact runs_faultClear _ _ s
  | gaugeTest => exact runs_gaugeTest _ _ s
  | restart => exact runs_restart _ _ s
  | unknownAskOrCommand => exact runs_unknownAskOrCommand _ _ s _ _
  | slotLateExpiry => exact runs_slotLateExpiry _ s _
  | slotLostExpiry => exact runs_slotLostExpiry _ s _
  | fuelTimerExpiry => exact runs_fuelTimerExpiry _ s
  | gaugeUpdateExpiry => exact runs_gaugeUpdateExpiry _ s
  | tripTimerExpiry => exact runs_tripTimerExpiry _ s
  | journeyWindowExpiry => exact runs_journeyWindowExpiry _ s
  | debounceExpiry => exact runs_debounceExpiry _ s _
  | remindExpiry => exact runs_remindExpiry _ s _
  | bulbCheckExpiry => exact runs_bulbCheckExpiry _ s
  | strikeStart => exact runs_strikeStart _ s
  | strikeEnd => exact runs_strikeEnd _ s
  | preemptExpiry => exact runs_preemptExpiry _ s
  | preemptCut => exact runs_preemptCut _ s
  | phraseCompletion => exact runs_phraseCompletion _ s
  | gapExpiry => exact runs_gapExpiry _ s
  | minimumExpiry => exact runs_minimumExpiry _ s
  | rotationExpiry => exact runs_rotationExpiry _ s
  | durationExpiry => exact runs_durationExpiry _ s _
  | refreshTimerExpiry => exact runs_refreshTimerExpiry _ s
  | serviceTimerExpiry => exact runs_serviceTimerExpiry _ s
  | holdTimerExpiry => exact runs_holdTimerExpiry _ s
  | statusTimerExpiry => exact runs_statusTimerExpiry _ s
  | spacingTimerExpiry => exact runs_spacingTimerExpiry _ _ _ _ s
  | wordProgramCompletion => exact runs_wordProgramCompletion _ s _
  | eraseAttemptEnd => exact runs_eraseAttemptEnd _ s _
  | readCompletion => exact runs_readCompletion _ s
  | readTimeout => exact runs_readTimeout _ s _ _

end Sys2Proof.Machine
end

section
/-! The two starts: the blocks as steps 1 to 4 set them up, and the laws that a start establishes by itself (sections 9.9 and
11.5). -/

namespace Sys2Proof.Machine

/-! ## Steps 1 to 4 -/

/-- The state of a start before the faults of steps 1 to 3 are reported and the store serves (R193). -/
def startBlocks (now : Stamp) (array : Array16) (straps : Straps) (key : KeyMonitor) (line : Line) (live : Nat)
    (gauges : Image → Gauges) (freeIndex : Nat) (pending : List Instr) : State :=
  let role := roleOf straps.role
  let image := (loadImage role array).1
  let tenths := if role = .primary then restoredTenths array live else 0
  let w := restoredRecord role array
  let store := if role = .primary then scanStore array else unscannedStore array
  { now, image
    slots := startSlots w
    integ := startInteg now image.params tenths w
    gauges := gauges image
    trip := startTrip w
    monitor := .cleared, faults := .cleared, chime := .cleared, display := .cleared
    service := startService w
    hold := .cleared
    store := if role = .primary ∧ ((newestOdo array).map (·.2)).getD 0 < tenths then store.joinCommit false false else store
    line
    key := { key with station := stationOf straps.station, role, units := unitsOf straps.units,
                      mode := .awake, quiet := startTimer now 5000, restart := none, runSeen := false, key := .off }
    freeIndex, handed := .nothing, pending }

theorem startUp_eq (now : Stamp) (array : Array16) (straps : Straps) (key : KeyMonitor) (line : Line) (live : Nat)
    (gauges : Image → Gauges) (freeIndex : Nat) (pending : List Instr) :
    startUp now array straps key line live gauges freeIndex pending =
      ((startFaults straps array).foldl State.startFault
        (startBlocks now array straps key line live gauges freeIndex pending)).serve := rfl

/-! ## The image -/

theorem item_mem {v lo hi builtIn : Nat} (h : lo ≤ builtIn ∧ builtIn ≤ hi) : lo ≤ (item v lo hi builtIn).1 ∧ (item v lo hi builtIn).1 ≤ hi := by
  unfold item
  split
  · assumption
  · exact h

/-- P lies in its range, be it loaded or built in (R21, R194). -/
theorem loadImage_p_pos (role : Role) (array : Array16) : 0 < (loadImage role array).1.params.p := by
  unfold loadImage
  dsimp only
  split
  · exact Nat.lt_of_lt_of_le (by decide) (item_mem (by decide) : _ ∧ (item (cfg (configWords array) 182).toNat 100 4000 1000).1 ≤ 4000).1
  · show 0 < (builtInParams role).p
    cases role <;> decide

/-! ## The restored values -/

theorem odoValue_le {w : List Word} {v : Nat} (h : odoValue w = some v) : v ≤ Config.odometerLimit := by
  unfold odoValue at h
  dsimp only at h
  split at h
  next hvalid =>
    obtain rfl := Option.some.inj h
    exact hvalid.2.2
  next => exact nomatch h

theorem mem_validOdo {a : Array16} {slots : List (BlockId × Nat)} {r : (BlockId × Nat) × Nat} (h : r ∈ validOdo a slots) :
    r.1 ∈ slots ∧ odoValue (slotWords a .odo r.1.1 r.1.2) = some r.2 := by
  obtain ⟨p, hp, hr⟩ := List.mem_filterMap.mp h
  obtain ⟨v, hv, rfl⟩ := Option.map_eq_some_iff.mp hr
  exact ⟨hp, hv⟩

theorem highest_le {l : List ((BlockId × Nat) × Nat)} {top bound : Nat} (hl : ∀ r ∈ l, r.2 ≤ bound) (h : highest l = some top) :
    top ≤ bound := by
  have hkept : ∀ v, highest l = some v → v ≤ bound :=
    List.foldlRecOn (motive := fun best : Option Nat => ∀ v, best = some v → v ≤ bound) l _ nofun fun best hbest r hr v hv => by
      cases best with
      | none => exact Option.some.inj hv ▸ hl r hr
      | some b =>
        obtain rfl := Option.some.inj hv
        exact Nat.max_le.mpr ⟨hbest b rfl, hl r hr⟩
  exact hkept top h

theorem newestOdo_highest {a : Array16} {p : BlockId × Nat} {v : Nat} (h : newestOdo a = some (p, v)) :
    highest (validOdo a (ringSlots .odo)) = some v := by
  unfold newestOdo at h
  dsimp only at h
  split at h
  next => exact nomatch h
  next top htop =>
    split at h
    · obtain ⟨-, rfl⟩ := Prod.mk.inj (Option.some.inj h)
      exact htop
    · obtain ⟨_, -, heq⟩ := Option.map_eq_some_iff.mp h
      obtain ⟨-, rfl⟩ := Prod.mk.inj heq
      exact htop

theorem newestOdo_le {a : Array16} {p : BlockId × Nat} {v : Nat} (h : newestOdo a = some (p, v)) : v ≤ Config.odometerLimit :=
  highest_le (fun _ hr => odoValue_le (mem_validOdo hr).2) (newestOdo_highest h)

theorem mem_validSaves {a : Array16} {slots : List (BlockId × Nat)} {r : (BlockId × Nat) × List Word}
    (h : r ∈ validSaves a slots) : r.1 ∈ slots ∧ r.2 = slotWords a .save r.1.1 r.1.2 ∧ saveValid r.2 = true := by
  obtain ⟨p, hp, hr⟩ := List.mem_filterMap.mp h
  dsimp only at hr
  split at hr
  next hvalid =>
    obtain rfl := Option.some.inj hr
    exact ⟨hp, rfl, hvalid⟩
  next => exact nomatch hr

theorem newestSave_valid {a : Array16} {r : (BlockId × Nat) × List Word} (h : newestSave a = some r) :
    r.1 ∈ ringSlots .save ∧ r.2 = slotWords a .save r.1.1 r.1.2 ∧ saveValid r.2 = true :=
  mem_validSaves (List.mem_of_find?_eq_some h)

theorem restoredTenths_le {array : Array16} {live : Nat} (hlive : live ≤ Config.odometerLimit) :
    restoredTenths array live ≤ Config.odometerLimit := by
  refine Nat.max_le.mpr ⟨?_, Nat.max_le.mpr ⟨?_, hlive⟩⟩
  · cases h : newestOdo array with
    | none => exact Nat.zero_le _
    | some r => exact newestOdo_le h
  · cases h : newestSave array with
    | none => exact Nat.zero_le _
    | some r =>
      have hvalid := (newestSave_valid h).2.2
      simp only [saveValid, Bool.decide_and, Bool.and_eq_true, decide_eq_true_eq] at hvalid
      exact hvalid.2

theorem twoWords_le (w : List Word) (n : Nat) : twoWords w n ≤ 4294967295 := by
  have hhigh := (nthWord w n).isLt
  have hlow := (nthWord w (n + 1)).isLt
  unfold twoWords
  omega

theorem startService_inWidths (w : Option (List Word)) : (startService w).InWidths := by
  cases w with
  | none => exact ⟨Nat.zero_le _, Nat.zero_le _, Nat.zero_le _⟩
  | some w => exact ⟨Nat.min_le_left _ _, Nat.le_of_lt_succ (nthWord w 18).isLt, twoWords_le w 19⟩

theorem startInteg_remainder_lt (now : Stamp) {p : Params} (tenths : Nat) (w : Option (List Word)) (hp : 0 < p.p) :
    (startInteg now p tenths w).remainder < p.p := by
  cases w with
  | none => exact hp
  | some w =>
    simp only [startInteg]
    split
    next hfits => exact hfits.2
    next => exact hp

/-- The live odometer of a start is within its limit, and the remainder below the new P (R22, R170). -/
theorem startBlocks_odometer (now : Stamp) (array : Array16) (straps : Straps) (key : KeyMonitor) (line : Line) {live : Nat}
    (gauges : Image → Gauges) (freeIndex : Nat) (pending : List Instr) (hlive : live ≤ Config.odometerLimit) :
    OdometerLaw (startBlocks now array straps key line live gauges freeIndex pending) := by
  refine ⟨?_, startInteg_remainder_lt _ _ _ (loadImage_p_pos _ _), startService_inWidths _⟩
  show (if _ then _ else _) ≤ _
  split
  · exact restoredTenths_le hlive
  · exact Nat.zero_le _

/-! ## The recovery scan -/

theorem blankSlotFrom_lt {a : Array16} {r : Ring} {b : BlockId} {slot k : Nat} (h : blankSlotFrom a r b slot = some k) :
    k < slotsPerBlock r :=
  List.mem_range.mp (List.mem_of_find?_eq_some h)

theorem scanRing_sound {st : Store} (h : st.Sound) (r : Ring) : (scanRing r st).Sound := by
  have hplaced {st : Store} (h : st.Sound) (b : BlockId) {slot : Nat} (hslot : slot < slotsPerBlock r) :
      (st.withRing r { failed := false, current := b, next := slot, fails := 0 }).Sound := h.withRing hslot
  have hzero := slotsPerBlock_pos r
  have hscanned : (scanConditions st r).Sound := h.with_conditions _
  unfold scanRing
  generalize scanConditions st r = scanned at hscanned ⊢
  refine Store.Sound.lookAhead ?_ r
  dsimp only
  split
  · split
    next hslot => exact hplaced hscanned _ (blankSlotFrom_lt hslot)
    next => exact (hplaced hscanned _ hzero).wantBlank r _
  · split
    · exact hplaced hscanned _ hzero
    · exact (hplaced hscanned _ hzero).wantBlank r _

theorem unscannedStore_sound {array : Array16} (h : arrayWf array = true) : (unscannedStore array).Sound :=
  ⟨h, slotsPerBlock_pos .odo, slotsPerBlock_pos .save, rfl⟩

theorem scanStore_sound {array : Array16} (h : arrayWf array = true) : (scanStore array).Sound :=
  scanRing_sound (scanRing_sound (unscannedStore_sound h) .odo) .save

theorem startBlocks_store (now : Stamp) {array : Array16} (straps : Straps) (key : KeyMonitor) (line : Line) (live : Nat)
    (gauges : Image → Gauges) (freeIndex : Nat) (pending : List Instr) (h : arrayWf array = true) :
    (startBlocks now array straps key line live gauges freeIndex pending).store.Sound := by
  have hjoined {store : Store} (hstore : store.Sound) (c : Prop) [Decidable c] :
      (if c then store.joinCommit false false else store).Sound := by
    split
    · exact hstore.joinCommit _ _
    · exact hstore
  refine hjoined ?_ _
  split
  · exact scanStore_sound h
  · exact unscannedStore_sound h

/-! ## The pointers -/

theorem GaugeLaw.of_ofFn {s : State} {f : Fin 6 → Channel} (hchannels : s.gauges.channels = Vector.ofFn f)
    (h : ∀ i : Fin 6, (f i).Lawful s.image.gauges[i]) : GaugeLaw s := by
  refine (gaugeLaw_iff s).mpr fun i => ?_
  have hi : s.gauges.channels[i] = f i := by rw [hchannels]; simp
  rw [hi]
  exact h i

theorem Channel.lawful_powered (c : Calibration) : (Channel.powered c).Lawful c := by
  unfold Channel.powered
  split
  next he => exact ⟨fun _ => ⟨Nat.zero_le _, Nat.zero_le _, Nat.zero_le _⟩, fun hd => absurd (he.symm.trans hd) (by decide)⟩
  next he => exact ⟨fun hd => absurd hd he, fun _ => ⟨rfl, rfl⟩⟩

theorem Channel.lawful_restarted (before after : Calibration) (ch : Channel) : (ch.restarted before after).Lawful after := by
  unfold Channel.restarted
  split
  next hd => exact ⟨fun he => by simp [he] at hd, fun _ => ⟨rfl, rfl⟩⟩
  next hd =>
    split
    next hstays =>
      simp only [Bool.and_eq_true, decide_eq_true_eq] at hstays
      exact ⟨fun _ => ⟨hstays.2, Nat.zero_le _, Nat.mul_le_mul_left 16 hstays.2⟩, fun he => by simp [he] at hd⟩
    next => exact Channel.lawful_powered after

/-! ## A start -/

/-- What a start owes to the laws that the state before it met: the array it reads and the live T that a restart holds. -/
structure Starts (s x : State) : Prop where
  now : x.now = s.now
  pending : x.pending = s.pending
  display : MessagesSound x.display.queue
  hold : HoldLaw x
  line : x.line.Lists
  gauges : GaugeLaw x
  odometer : OdometerLaw s → OdometerLaw x
  store : s.store.Sound → x.store.Sound

theorem Starts.keeps {s x y : State} (h : Starts s x) (hk : Keeps x y) : Starts s y where
  now := hk.now.trans h.now
  pending := hk.pending.trans h.pending
  display := hk.display h.display
  hold := hk.hold h.hold
  line := hk.line h.line
  gauges := hk.gauges h.gauges
  odometer := hk.odometer ∘ h.odometer
  store := hk.store ∘ h.store

theorem Keeps.startFault (s : State) (k : FaultKind) : Keeps s (s.startFault k) :=
  (Keeps.faults s _).trans (Keeps.ite (fun _ => Keeps.publish _ rfl _) fun _ => Keeps.refl _)

theorem Keeps.startUp (now : Stamp) (array : Array16) (straps : Straps) (key : KeyMonitor) (line : Line) (live : Nat)
    (gauges : Image → Gauges) (freeIndex : Nat) (pending : List Instr) :
    Keeps (startBlocks now array straps key line live gauges freeIndex pending)
      (Machine.startUp now array straps key line live gauges freeIndex pending) :=
  (Keeps.foldl Keeps.startFault _ _).trans (Keeps.serve _)

theorem Line.lists_empty {l : Line} (hqueue : l.queue = []) (hpending : l.pending = []) (hstanding : l.standing = []) : l.Lists := by
  refine ⟨?_, ?_, ?_, ?_⟩
  · rw [hqueue]; exact KeysSound.nil
  · simp [hqueue]
  · simp [hpending]
  · simp [hstanding]

theorem messagesSound_nil : MessagesSound [] where
  ids := List.nodup_nil
  sorted := List.Pairwise.nil
  length := Nat.zero_le _
  owned := nofun

theorem arrayAfterLoss_wf {st : Store} (h : st.Sound) (free : Nat) : arrayWf (arrayAfterLoss st free).1 = true := by
  refine arrayWf_arrayAfterLoss st free h.array fun r q w pos ab t hop => ?_
  have hsound := h.op
  rw [hop] at hsound
  simp only [StoreOp.sound, Bool.and_eq_true, decide_eq_true_eq] at hsound
  exact slotAddress_lt _ (h.next r) hsound.1.2

theorem starts_powerOn (straps : Straps) (pins : Pins) (s : State) : Starts s (s.powerOn straps pins) := by
  unfold State.powerOn
  dsimp only
  refine Starts.keeps ?_ (Keeps.startUp _ _ _ _ _ _ _ _ _)
  exact {
    now := rfl
    pending := rfl
    display := messagesSound_nil
    hold := .cleared rfl
    line := Line.lists_empty rfl rfl rfl
    gauges := GaugeLaw.of_ofFn rfl fun i => Channel.lawful_powered _
    odometer := fun _ => startBlocks_odometer _ _ _ _ _ _ _ _ (Nat.zero_le _)
    store := fun h => startBlocks_store _ _ _ _ _ _ _ _ (arrayAfterLoss_wf h _) }

theorem starts_restarted (straps : Straps) (s : State) : Starts s (s.restarted straps) := by
  unfold State.restarted
  dsimp only
  refine Starts.keeps ?_ ((Keeps.startUp _ _ _ _ _ _ _ _ _).trans ((Keeps.finishStart _ _).trans (Keeps.withTrip _ _)))
  exact {
    now := rfl
    pending := rfl
    display := messagesSound_nil
    hold := .cleared rfl
    line := Line.lists_empty rfl rfl rfl
    gauges := GaugeLaw.of_ofFn rfl fun i => Channel.lawful_restarted _ _ _
    odometer := fun h => startBlocks_odometer _ _ _ _ _ _ _ _ (by split; exacts [h.1, Nat.zero_le _])
    store := fun h => startBlocks_store _ _ _ _ _ _ _ _ h.array }

end Sys2Proof.Machine
end

section
/-! What every step keeps (O54 to O59), that every well-formed command completes (O2), and that the reset state meets the laws
(O60). -/

namespace Sys2Proof.Machine

/-- A start completes, and sets the laws up. -/
theorem start_runs (c : Instr) (hstart : c.isStart = true) (s : State) :
    RunsAsEvent (exec c s) s c.stamp ∨ ∃ x, exec c s = .next x ∧ Starts (s.stamped c.stamp) x ∧ x.handed = .nothing := by
  have hclosed (x : State) (h : Starts (s.stamped c.stamp) x) :
      ∃ y, State.started x = .next y ∧ Starts (s.stamped c.stamp) y ∧ y.handed = .nothing :=
    ⟨_, rfl, h.keeps (Keeps.close x x), State.close_handed x x⟩
  cases c with
  | powerOn t straps pins => exact .inr (hclosed _ (starts_powerOn straps pins _))
  | restartWaitEnd t straps =>
    rw [show exec (.restartWaitEnd t straps) s = execRestartWaitEnd t straps s from rfl, execRestartWaitEnd]
    split
    · exact .inr (hclosed _ (starts_restarted straps _))
    · exact .inl (RunsAsEvent.event (Keeps.refl _))
  | _ => exact nomatch hstart

/-- What a command that completes leaves. -/
theorem exec_next {c : Instr} {s x : State} (h : exec c s = .next x) :
    x.handed = .nothing ∧ (Keeps (s.stamped c.stamp) x ∨ c.isStart = true ∧ Starts (s.stamped c.stamp) x) := by
  have hevent (hruns : RunsAsEvent (exec c s) s c.stamp) : x.handed = .nothing ∧ Keeps (s.stamped c.stamp) x := by
    obtain ⟨y, hy, hkeeps, hhanded⟩ := hruns
    obtain rfl := Host.Outcome.next.inj (hy.symm.trans h)
    exact ⟨hhanded, hkeeps⟩
  cases hstart : c.isStart with
  | false =>
    obtain hruns | ⟨-, r, hrefused⟩ := runs_of_not_start c hstart s
    · exact ⟨(hevent hruns).1, .inl (hevent hruns).2⟩
    · exact nomatch hrefused.symm.trans h
  | true =>
    obtain hruns | ⟨y, hy, hstarts, hhanded⟩ := start_runs c hstart s
    · exact ⟨(hevent hruns).1, .inl (hevent hruns).2⟩
    · obtain rfl := Host.Outcome.next.inj (hy.symm.trans h)
      exact ⟨hhanded, .inr ⟨rfl, hstarts⟩⟩

/-- A law that every command keeps, and the idle step, every step keeps. -/
theorem step_keeps {Law : State → Prop} (hlaw : ∀ s : State, ∀ pending now, Law s → Law { s with pending, now })
    (hkeeps : ∀ s x, x.handed = .nothing → Keeps s x → Law s → Law x) (hstarts : ∀ s x, x.handed = .nothing → Starts s x → Law s → Law x)
    (s x : State) (h : Law s) (hstep : step s = .next x) : Law x := by
  unfold step at hstep
  split at hstep
  next => exact Host.Outcome.next.inj hstep ▸ h
  next c rest _ =>
    obtain ⟨hhanded, hkept | ⟨-, hstarted⟩⟩ := exec_next hstep
    · exact hkeeps _ x hhanded hkept (hlaw s rest c.stamp h)
    · exact hstarts _ x hhanded hstarted (hlaw s rest c.stamp h)

/-- Settles O54: every operation keeps `MessagesSound`, and a start empties the queue. -/
theorem stepKeepsTheMessageQueue : Obligations.StepKeepsTheMessageQueue := by
  refine step_keeps (fun _ _ _ h => h) (fun s x _ hk h => ?_) fun s x _ hs _ => (displayLaw_iff x).mpr hs.display
  exact (displayLaw_iff x).mpr (hk.display ((displayLaw_iff s).mp h))

/-- Settles O55: every operation keeps the law of the hold, and a start clears the record. -/
theorem stepKeepsTheHold : Obligations.StepKeepsTheHold :=
  step_keeps (fun _ _ _ h => h) (fun _ _ _ hk h => hk.hold h) fun _ _ _ hs _ => hs.hold

/-- Settles O56: every operation keeps `Line.Lists`, a start empties them, and each close takes what was handed over. -/
theorem stepKeepsTheLineLists : Obligations.StepKeepsTheLineLists := by
  refine step_keeps (fun _ _ _ h => h) (fun s x hh hk h => ?_) fun s x hh hs _ => (lineLaw_iff x).mpr ⟨hs.line, hh⟩
  exact (lineLaw_iff x).mpr ⟨hk.line ((lineLaw_iff s).mp h).1, hh⟩

/-- Settles O57: the tenths of a delta stop at the limit, where the remainder becomes 0, and a start restores values in range. -/
theorem stepKeepsTheOdometer : Obligations.StepKeepsTheOdometer :=
  step_keeps (fun _ _ _ h => h) (fun _ _ _ hk h => hk.odometer h) fun _ _ _ hs h => hs.odometer h

/-- Settles O58: an update never overshoots its command, and a start places every channel by its new calibration. -/
theorem stepKeepsThePointers : Obligations.StepKeepsThePointers :=
  step_keeps (fun _ _ _ h => h) (fun _ _ _ hk h => hk.gauges h) fun _ _ _ hs _ => hs.gauges

/-- Settles O59: every operation keeps `Store.Sound`, and the scan of a start finds slots inside their blocks. -/
theorem stepKeepsTheStore : Obligations.StepKeepsTheStore := by
  refine step_keeps (fun _ _ _ h => h) (fun s x _ hk h => ?_) fun s x _ hs h => ?_
  · exact (storeLaw_iff x).mpr (hk.store ((storeLaw_iff s).mp h))
  · exact (storeLaw_iff x).mpr (hs.store ((storeLaw_iff s).mp h))

/-- A command completes, or is refused where it is not well formed. -/
theorem exec_completes (c : Instr) (s : State) :
    (∃ x, exec c s = .next x) ∨ c.wellFormed = false ∧ ∃ r, exec c s = .refused r := by
  cases hstart : c.isStart with
  | false =>
    obtain ⟨x, hx, -⟩ | hrefused := runs_of_not_start c hstart s
    · exact .inl ⟨x, hx⟩
    · exact .inr hrefused
  | true =>
    obtain ⟨x, hx, -⟩ | ⟨x, hx, -⟩ := start_runs c hstart s
    · exact .inl ⟨x, hx⟩
    · exact .inl ⟨x, hx⟩

/-- Settles O2: commands run as events or starts, and only ill-formed ones are refused. -/
theorem wellFormedCommandsComplete : Obligations.WellFormedCommandsComplete := by
  refine ⟨fun c s hwf => ?_, fun c s f hf => ?_, fun c s x hx => ?_, fun c s x hstart hx => ?_⟩
  · obtain hnext | ⟨hill, -⟩ := exec_completes c s
    · exact hnext
    · exact absurd (hwf.symm.trans hill) (by decide)
  · obtain ⟨x, hx⟩ | ⟨-, r, hr⟩ := exec_completes c s
    · exact nomatch hx.symm.trans hf
    · exact nomatch hr.symm.trans hf
  · obtain ⟨-, hk | ⟨-, hs⟩⟩ := exec_next hx
    · exact ⟨hk.now, hk.pending⟩
    · exact ⟨hs.now, hs.pending⟩
  · obtain ⟨-, hk | ⟨hs, -⟩⟩ := exec_next hx
    · exact ⟨hk.image, hk.station, hk.role, hk.units⟩
    · exact absurd (hstart.symm.trans hs) (by decide)

/-- Settles O60: the reset state is evaluated against each law. -/
theorem resetMeetsTheLaws : Obligations.ResetMeetsTheLaws := by
  refine ⟨?_, ?_, ?_, ?_, ?_, ?_⟩
  · unfold DisplayLaw; decide
  · unfold HoldLaw; decide
  · unfold LineLaw; decide
  · unfold OdometerLaw; decide
  · unfold GaugeLaw; decide
  · unfold StoreLaw; decide

end Sys2Proof.Machine
end

section
/-! What a step, an event and an expiry run, what a report to the fault record records, and the receptions and wire events of the
line (O1, O4, O16, O17, O19). -/

namespace Sys2Proof.Machine

/-! ## Events and expiries -/

theorem State.event_eq (s : State) (t : Stamp) (effect : State → State) :
    s.event t effect = .next (State.close s (effect (s.stamped t))) := rfl

theorem State.expiry_of_due {s : State} {t : Stamp} {timer : Timer} (effect : State → State) (hdue : isDue t timer = true) :
    s.expiry t timer effect = .next (State.close s (effect (s.stamped t))) := by
  rw [State.expiry, State.event_eq, if_pos hdue]

theorem State.expiry_of_not_due {s : State} {t : Stamp} {timer : Timer} (effect : State → State)
    (hdue : isDue t timer = false) : s.expiry t timer effect = .next (State.close s (s.stamped t)) := by
  rw [State.expiry, State.event_eq, if_neg (by simp [hdue])]

/-- Settles O1: by the two branches of a step. -/
theorem stepRunsTheFrontCommand : Obligations.StepRunsTheFrontCommand := by
  refine ⟨fun s c rest h => ?_, fun s h => ?_⟩
  · rw [step, h]
  · rw [step, h]

/-! ## The fault record -/

theorem FaultKind.code_lt (k : FaultKind) : k.code < 15 := by cases k <;> decide

theorem FaultKind.code_inj {j k : FaultKind} (h : j.code = k.code) : j = k := by
  revert h
  cases j <;> cases k <;> decide

theorem faultCount_eq (r : FaultRecord) (k : FaultKind) : faultCount r k = r.counts[k.code]'k.code_lt := by
  simp [faultCount, List.getD_eq_getElem?_getD, k.code_lt]

theorem faultCount_after (r : FaultRecord) (j k : FaultKind) :
    faultCount (r.after k) j = if j = k then min 255 (faultCount r k + 1) else faultCount r j := by
  have hget : faultCount (r.after k) j = (r.counts.setIfInBounds k.code (min 255 (faultCount r k + 1)))[j.code]'j.code_lt :=
    faultCount_eq _ _
  rw [hget, Vector.getElem_setIfInBounds]
  split
  next hcode => rw [if_pos (FaultKind.code_inj hcode).symm]
  next hcode => rw [if_neg fun he => hcode (congrArg FaultKind.code he.symm), ← faultCount_eq]

theorem latched_after (r : FaultRecord) (k : FaultKind) (n : Nat) :
    bit (r.after k).latched n = (decide (n = k.code) || bit r.latched n) := by
  have hk := k.code_lt
  have hbit : (1#16 <<< k.code).getLsbD n = decide (n = k.code) := by
    rw [BitVec.getLsbD_shiftLeft, BitVec.getLsbD_one, Bool.eq_iff_iff]
    simp
    omega
  simp [bit, FaultRecord.after, hbit, Bool.or_comm]

@[simp] theorem State.reportFault_faults (s : State) (k : FaultKind) : (s.reportFault k).faults = s.faults.after k := by
  unfold State.reportFault
  dsimp only
  (repeat' split) <;> simp

/-- A report hands a 48H on where it latches a reported kind (R99). -/
theorem State.reportFault_line (s : State) (k : FaultKind) :
    (s.reportFault k).line =
      if bit s.faults.latched k.code = false ∧ bit s.image.params.reportMask k.code = false then
        s.line.handOn (publishEntry .fault 0x48 (faultBytes (s.faults.after k) s.image.params.reportMask))
      else s.line := by
  unfold State.reportFault
  extract_lets mask isNew counted handed
  have hsources : (if handed.faultAny = s.faultAny then handed else handed.reportSources [.faultAny]).line = handed.line := by
    split <;> simp
  have hnew : isNew = true ↔ bit s.faults.latched k.code = false ∧ bit mask k.code = false := by simp [isNew]
  rw [hsources, ← if_congr hnew rfl rfl]
  show (if isNew = true then _ else counted).line = _
  split <;> rfl

/-- Settles O4: by the record after one occurrence and the line after a report. -/
theorem faultOccurrenceIsRecorded : Obligations.FaultOccurrenceIsRecorded := by
  intro s k
  rw [State.reportFault_faults]
  exact ⟨rfl, fun j => faultCount_after _ j k, latched_after _ k, State.reportFault_line s k⟩

end Sys2Proof.Machine
end

section
/-! The receptions and wire events of the line (O16, O17, O19). -/

namespace Sys2Proof.Machine

/-! ## Receptions -/

section

variable {t : Stamp} {reception : List RxByte} {s : State}

theorem exec_telegramDiscarded_of_receives (hnone : receive reception = none) (hreceives : s.receives = true) :
    exec (.telegramDiscarded t reception) s = .next (State.close s
      (let n := s.line.rxErrors + 1
       let x : State := { s with now := t, line := { s.line with
         rxErrors := if 16 ≤ n then 0 else n, idle := false, stuck := false, acked := false } }
       if 16 ≤ n then x.reportFault .rxCheck else x)) := by
  change execTelegramDiscarded t reception s = _
  rw [execTelegramDiscarded, if_neg (by simp [hnone]), State.event_eq, if_pos (show (s.stamped t).receives = true from hreceives)]
  rfl

theorem exec_telegramDiscarded_of_not_receives (hnone : receive reception = none) (hreceives : s.receives = false) :
    exec (.telegramDiscarded t reception) s = .next (State.close s (s.stamped t)) := by
  change execTelegramDiscarded t reception s = _
  rw [execTelegramDiscarded, if_neg (by simp [hnone]), State.event_eq,
    if_neg (show ¬ (s.stamped t).receives = true by rw [Bool.not_eq_true]; exact hreceives)]

end

/-- Settles O16: the count of receive errors on both sides of sixteen. -/
theorem discardedTelegramsAreCounted : Obligations.DiscardedTelegramsAreCounted := by
  intro t reception s
  refine ⟨fun hnone hreceives hfew => ?_, fun hnone hreceives hmany => ?_, exec_telegramDiscarded_of_not_receives,
    fun hsome => ?_⟩
  · have hcount : ¬ 16 ≤ s.line.rxErrors + 1 := by omega
    rw [exec_telegramDiscarded_of_receives hnone hreceives]
    simp only [if_neg hcount]
  · have hcount : 16 ≤ s.line.rxErrors + 1 := by omega
    rw [exec_telegramDiscarded_of_receives hnone hreceives]
    simp only [if_pos hcount]
  · change execTelegramDiscarded t reception s = _
    rw [execTelegramDiscarded, if_pos (Option.isSome_iff_ne_none.mpr hsome)]

/-- Acceptance of another station's telegram (R141, R173, R190). -/
theorem State.accept_of_other {s : State} {origin : Station} (isReply : Bool) (hother : origin ≠ s.key.station) :
    s.accept origin isReply = { s with
      line := { s.line with idle := false, stuck := false, acked := true }
      key := { s.key with quiet := some (s.now + 5000) }
      hold := { s.hold with timer :=
        if isReply = false ∧ s.hold.phase = .held ∧ s.hold.station = origin then some (s.now + 30000) else s.hold.timer } } := by
  by_cases hheld : isReply = false ∧ s.hold.phase = .held ∧ s.hold.station = origin
  · have hholds : s.hold.isHolder origin = true := by simp [Hold.isHolder, hheld]
    simp [State.accept, State.onLine, startTimer, hother, hheld, hholds]
  · have hholds : (!isReply && s.hold.isHolder origin) = false := by
      rw [← Bool.not_eq_true]
      simpa [Hold.isHolder] using hheld
    simp [State.accept, State.onLine, startTimer, hother, hheld, hholds]

/-- Acceptance of a telegram of the part's own number: its own, or a clash (R173, R175). -/
theorem State.accept_of_own {s : State} {origin : Station} (isReply : Bool) (hown : origin = s.key.station) :
    s.accept origin isReply =
      (let x : State := { s with line := { s.line with idle := false, stuck := false, acked := !s.line.sending } }
       if s.line.sending = true then x else x.reportFault .stationClash) := by
  cases hsending : s.line.sending <;> simp [State.accept, State.onLine, hown, hsending]

theorem exec_otherTelegramAccepted_of_receives {t : Stamp} {origin : Station} {isReply : Bool} {s : State}
    (hreceives : s.receives = true) :
    exec (.otherTelegramAccepted t origin isReply) s = .next (State.close s ((s.stamped t).accept origin isReply)) := by
  change execOtherTelegramAccepted t origin isReply s = _
  rw [execOtherTelegramAccepted, State.event_eq, if_pos (show (s.stamped t).receives = true from hreceives)]

/-- Settles O19: by whose telegram it is. -/
theorem acceptedTelegramsAreHeard : Obligations.AcceptedTelegramsAreHeard := by
  intro t origin isReply s
  refine ⟨fun hreceives hother => ?_, fun hreceives hown hsending => ?_, fun hreceives hown hsending => ?_, fun hreceives => ?_⟩
  · rw [exec_otherTelegramAccepted_of_receives hreceives, State.accept_of_other isReply (s := s.stamped t) hother]
    rfl
  · rw [exec_otherTelegramAccepted_of_receives hreceives, State.accept_of_own isReply (s := s.stamped t) hown]
    simp only [State.stamped, hsending]
    rfl
  · rw [exec_otherTelegramAccepted_of_receives hreceives, State.accept_of_own isReply (s := s.stamped t) hown]
    simp only [State.stamped, hsending]
    rfl
  · change execOtherTelegramAccepted t origin isReply s = _
    rw [execOtherTelegramAccepted, State.event_eq,
      if_neg (show ¬ (s.stamped t).receives = true by rw [Bool.not_eq_true]; exact hreceives)]

/-! ## The rotation of the transmitter -/

/-- The first match of a list, and the list with it changed. -/
theorem mapFirst_split {α : Type} {test : α → Bool} (f : α → α) {l : List α} (h : l.any test = true) :
    ∃ l₁ e l₂, l = l₁ ++ e :: l₂ ∧ test e = true ∧ (∀ a ∈ l₁, test a = false) ∧ mapFirst test f l = l₁ ++ f e :: l₂ := by
  induction l with
  | nil => exact nomatch h
  | cons x l ih =>
    cases hx : test x with
    | true => exact ⟨[], x, l, rfl, hx, nofun, by simp [mapFirst, hx]⟩
    | false =>
      obtain ⟨l₁, e, l₂, hl, he, hl₁, hmap⟩ := ih (by simpa [hx] using h)
      refine ⟨x :: l₁, e, l₂, by rw [hl]; rfl, he, ?_, by simp [mapFirst, hx, hmap]⟩
      rintro a (_ | ⟨_, ha⟩)
      · exact hx
      · exact hl₁ a ha

namespace Line

variable {l : Line}

/-- The LOW source that the rotation serves, where one has an entry queued (R177). -/
def lowSource (l : Line) : TxSource :=
  if l.lowPtr = .standing then (if l.has .status then .status else if l.has .trip then .trip else .standing)
  else if l.lowPtr = .status then (if l.has .trip then .trip else if l.has .standing then .standing else .status)
  else (if l.has .standing then .standing else if l.has .status then .status else .trip)

/-- The source that the rotation serves, where one has an entry queued (R177). -/
def servedSource (l : Line) : TxSource :=
  let anyLow := l.has .status || l.has .trip || l.has .standing
  match l.highPtr with
  | .low => if l.has .fault then .fault else if l.has .reply then .reply else l.lowSource
  | .fault => if l.has .reply then .reply else if anyLow then l.lowSource else .fault
  | .reply => if anyLow then l.lowSource else if l.has .fault then .fault else .reply

theorem servedAt_low (l : Line) :
    l.servedAt .low = if l.has .status || l.has .trip || l.has .standing then some l.lowSource else none := by
  unfold servedAt lowSource
  cases l.lowPtr with
  | status =>
    cases htrip : l.has .trip <;> cases hstanding : l.has .standing <;> cases hstatus : l.has .status <;>
      simp [TxLow.after, TxLow.source, htrip, hstanding, hstatus]
  | trip =>
    cases htrip : l.has .trip <;> cases hstanding : l.has .standing <;> cases hstatus : l.has .status <;>
      simp [TxLow.after, TxLow.source, htrip, hstanding, hstatus]
  | standing =>
    cases htrip : l.has .trip <;> cases hstanding : l.has .standing <;> cases hstatus : l.has .status <;>
      simp [TxLow.after, TxLow.source, htrip, hstanding, hstatus]

/-- A queue that is not empty has an entry of some source. -/
theorem exists_has (h : l.queue ≠ []) :
    (l.has .fault || l.has .reply || (l.has .status || l.has .trip || l.has .standing)) = true := by
  obtain ⟨e, he⟩ := List.exists_mem_of_ne_nil _ h
  have hsource : l.has e.source = true := List.any_eq_true.mpr ⟨e, he, by simp⟩
  cases hs : e.source <;> rw [hs] at hsource <;> simp [hsource]

theorem chosenSource_eq (h : l.queue ≠ []) : l.chosenSource = some l.servedSource := by
  have hsome := exists_has h
  unfold chosenSource servedSource
  cases l.highPtr <;>
    simp only [TxHigh.after, List.findSome?_cons, List.findSome?_nil, servedAt_low] <;>
    simp only [servedAt] <;> grind

theorem has_of_servedAt {p : TxHigh} {source : TxSource} (h : l.servedAt p = some source) : l.has source = true := by
  unfold servedAt at h
  split at h
  · grind
  · grind
  · obtain ⟨x, hx, rfl⟩ := Option.map_eq_some_iff.mp h
    exact List.find?_some (p := fun x : TxLow => l.has x.source) hx

theorem has_servedSource (h : l.queue ≠ []) : l.has l.servedSource = true := by
  obtain ⟨p, -, hp⟩ := List.exists_of_findSome?_eq_some (chosenSource_eq h)
  exact has_of_servedAt hp

/-- On an idle line with an entry queued the first entry of the source served goes in flight (R177). -/
theorem choose_of_queued (hidle : l.idle = true) (hstuck : l.stuck = false) (hsending : l.sending = false) (h : l.queue ≠ []) :
    ∃ l₁ e l₂, l.queue = l₁ ++ e :: l₂ ∧ e.source = l.servedSource ∧ (∀ a ∈ l₁, a.source ≠ l.servedSource) ∧
      l.choose = { l with queue := l₁ ++ { e with inFlight := true } :: l₂, idle := false } := by
  obtain ⟨l₁, e, l₂, hqueue, he, hl₁, hmap⟩ :=
    mapFirst_split (fun e : TxEntry => { e with inFlight := true }) (has_servedSource h)
  refine ⟨l₁, e, l₂, hqueue, of_decide_eq_true he, fun a ha => of_decide_eq_false (hl₁ a ha), ?_⟩
  rw [choose, if_pos (by simp [hidle, hstuck, hsending]), chosenSource_eq h]
  dsimp only
  rw [hmap]

theorem choose_of_empty (h : l.queue = []) : l.choose = l := by
  have hnone : l.chosenSource = none := by
    have hhas (source : TxSource) : l.has source = false := by simp [has, h]
    unfold chosenSource
    cases l.highPtr <;> simp [TxHigh.after, servedAt_low] <;> simp [servedAt, hhas]
  unfold choose
  rw [hnone]
  split <;> rfl

theorem choose_of_sending (h : l.sending = true) : l.choose = l := by
  rw [choose, if_neg (by simp [h])]

end Line

theorem exec_interframeGapElapsed_of_awake {t : Stamp} {s : State} (hawake : s.awake = true) :
    exec (.interframeGapElapsed t) s = .next (State.close s { s with
      now := t, line := { s.line with idle := !s.line.sending, stuck := false, receiver := .listens }.choose }) := by
  change execInterframeGapElapsed t s = _
  rw [execInterframeGapElapsed, State.event_eq, if_pos (show (s.stamped t).awake = true from hawake)]
  rfl

/-- Settles O17: the choice of the transmitter falls on the source of `Line.servedSource`. -/
theorem wireEventsMoveTheTransmitter : Obligations.WireEventsMoveTheTransmitter := by
  refine ⟨fun t s => ?_, fun t s hasleep => ?_, fun t s hawake hsending => ?_, fun t s hawake hempty => ?_,
    fun t s hawake hsending hqueued => ?_⟩
  · change execLineStuck t s = _
    rw [execLineStuck, State.event_eq]
    have hstuck : ((s.stamped t).awake && !(s.stamped t).line.stuck) = true ↔ s.awake = true ∧ s.line.stuck = false := by
      rw [Bool.and_eq_true, Bool.not_eq_true']
      rfl
    exact congrArg (fun x => Host.Outcome.next (State.close s x)) (if_congr hstuck rfl rfl)
  · change execInterframeGapElapsed t s = _
    rw [execInterframeGapElapsed, State.event_eq,
      if_neg (show ¬ (s.stamped t).awake = true by rw [Bool.not_eq_true]; exact hasleep)]
    rfl
  · rw [exec_interframeGapElapsed_of_awake hawake, hsending, Line.choose_of_sending (by exact hsending)]
    rfl
  · have hidle : s.line.sending = false := by simp [Line.sending, hempty]
    rw [exec_interframeGapElapsed_of_awake hawake, hidle, Line.choose_of_empty (by exact hempty)]
    rfl
  · intro low anyLow src
    obtain ⟨l₁, e, l₂, hqueue, he, hl₁, hchoose⟩ :=
      Line.choose_of_queued (l := { s.line with idle := true, stuck := false, receiver := .listens }) rfl rfl hsending hqueued
    refine ⟨l₁, e, l₂, hqueue, he, hl₁, ?_⟩
    rw [exec_interframeGapElapsed_of_awake hawake, hsending]
    exact congrArg (fun l => Host.Outcome.next (State.close s { s with now := t, line := l })) hchoose

end Sys2Proof.Machine
end

section
/-! The end of a transmit attempt (O18), and a close that finds nothing to do on the line. -/

namespace Sys2Proof.Machine

/-! ## A close with nothing to do on the line -/

theorem Line.joinReady_of_no_ready {l : Line} (h : ∀ p ∈ l.pending, ∀ st v, p.stage ≠ .ready st v) : l.joinReady = l :=
  Line.foldl_same _ l l.pending fun p hp => by
    unfold Line.joinOne
    split
    next st v hstage => exact absurd hstage (h p hp st v)
    next => rfl

theorem State.statusOnChange_of_same {b e : State} (hhanded : e.handed = .nothing) (hstatus : statusBytes e = statusBytes b) :
    State.statusOnChange b e = e := by
  have hnone : State.statusChanges b e = [] := by simp [statusChanges, handedStatus, hhanded, Handed.nothing, hstatus]
  unfold State.statusOnChange
  rw [hnone]
  split <;> rfl

theorem watchChanges_of_nothing {e : State} (hhanded : e.handed = .nothing) : watchChanges e = e := by
  simp [watchChanges, State.handedStatus, hhanded, Handed.nothing]

/-- An event that hands nothing over, changes no watched byte and leaves no answer READY leaves to its close only the registrations
that may try again. -/
theorem State.close_line_of_settled {b e : State} (hhanded : e.handed = .nothing) (hstatus : statusBytes e = statusBytes b)
    (hready : ∀ p ∈ e.line.pending, ∀ st v, p.stage ≠ .ready st v)
    (hwatched : ∀ r ∈ e.line.standing, watchedAnswer b r.group r.index = watchedAnswer e r.group r.index) :
    (State.close b e).line =
      (retryStandings (StandingAsk.mayTry b.line e.line) { e.settleDisplay with handed := .nothing }).line := by
  have hstatus' : State.statusOnChange b e.settleDisplay = e.settleDisplay := State.statusOnChange_of_same hhanded hstatus
  have hjoin : e.settleDisplay.onLine Line.joinReady = e.settleDisplay :=
    congrArg (fun l => { e.settleDisplay with line := l }) (Line.joinReady_of_no_ready hready)
  have hreports (r : StandingAsk) (hr : r ∈ e.line.standing) : ownerReports b e.settleDisplay r.group r.index = false := by
    rw [← Bool.not_eq_true, ownerReports_iff]
    have hsame : watchedAnswer b r.group r.index = watchedAnswer e.settleDisplay r.group r.index := hwatched r hr
    rw [show e.settleDisplay.handed = .nothing from hhanded]
    simp [hsame, Handed.nothing]
  unfold State.close
  dsimp only
  rw [hstatus', hjoin, watchChanges_of_nothing (e := e.settleDisplay) hhanded,
    watchStanding_of_no_report b e.settleDisplay hreports]

/-- Where none may try again, the close leaves the line as it is. -/
theorem State.close_line_of_still {b e : State} (hhanded : e.handed = .nothing) (hstatus : statusBytes e = statusBytes b)
    (hready : ∀ p ∈ e.line.pending, ∀ st v, p.stage ≠ .ready st v)
    (hwatched : ∀ r ∈ e.line.standing, watchedAnswer b r.group r.index = watchedAnswer e r.group r.index)
    (hretry : ∀ r ∈ e.line.standing, (r.due && StandingAsk.mayTry b.line e.line r) = false) :
    (State.close b e).line = e.line := by
  rw [State.close_line_of_settled hhanded hstatus hready hwatched,
    retryStandings_of_none _ { e.settleDisplay with handed := .nothing } hretry]
  rfl

/-! ## The entry in flight -/

section

variable {s : State} {l₁ l₂ : List TxEntry} {e : TxEntry}

/-- The queue holds one entry in flight. -/
structure Line.FliesAlone (l : Line) (l₁ : List TxEntry) (e : TxEntry) (l₂ : List TxEntry) : Prop where
  queue : l.queue = l₁ ++ e :: l₂
  flies : e.inFlight = true
  others : ∀ a ∈ l₁ ++ l₂, a.inFlight = false

namespace Line.FliesAlone

variable {l : Line} (h : l.FliesAlone l₁ e l₂)
include h

theorem others_left : ∀ a ∈ l₁, a.inFlight = false := fun a ha => h.others a (List.mem_append_left _ ha)

theorem others_right : ∀ a ∈ l₂, a.inFlight = false := fun a ha => h.others a (List.mem_append_right _ ha)

theorem flying : l.flying = some e := by
  have hnone : l₁.find? (·.inFlight) = none := List.find?_eq_none.mpr fun a ha => by simp [h.others_left a ha]
  rw [Line.flying, h.queue, List.find?_append, hnone, Option.none_or, List.find?_cons, h.flies]

theorem map_flying (f : TxEntry → TxEntry) :
    l.queue.map (fun x => if x.inFlight then f x else x) = l₁ ++ f e :: l₂ := by
  have hstay (xs : List TxEntry) (hxs : ∀ a ∈ xs, a.inFlight = false) :
      xs.map (fun x => if x.inFlight then f x else x) = xs :=
    (List.map_congr_left (g := id) fun a ha => if_neg (by simp [hxs a ha])).trans (List.map_id xs)
  rw [h.queue, List.map_append, List.map_cons, hstay l₁ h.others_left, hstay l₂ h.others_right, if_pos h.flies]

theorem queueAfter : Machine.queueAfter l.queue e =
    l₁ ++ l₂ ++ (if e.followOn = none then [] else [e.stays 0]) := by
  have hfilter : l.queue.filter (fun x => !x.inFlight) = l₁ ++ l₂ := by
    rw [h.queue, List.filter_append, List.filter_cons_of_neg (by simp [h.flies]), ← List.filter_append]
    exact List.filter_eq_self.mpr fun a ha => by simp [h.others a ha]
  rw [Machine.queueAfter, hfilter]
  cases e.followOn <;> simp

end Line.FliesAlone

/-- The part at the end of an attempt, the line not idle (R178). -/
def State.attemptOver (s : State) (t : Stamp) (receiver : Receiver) : State :=
  { s with now := t, line := { s.line with idle := false, receiver } }

theorem Line.FliesAlone.attemptOver (h : s.line.FliesAlone l₁ e l₂) (t : Stamp) (receiver : Receiver) :
    (s.attemptOver t receiver).line.FliesAlone l₁ e l₂ :=
  ⟨h.queue, h.flies, h.others⟩

theorem exec_transmitOutcome_of_flying {t : Stamp} {outcome : Attempt} (h : s.line.FliesAlone l₁ e l₂) :
    exec (.transmitOutcome t outcome) s = .next (State.close s ((s.attemptOver t s.line.receiver).attemptEnded e outcome)) := by
  change execTransmitOutcome t outcome s = _
  rw [execTransmitOutcome, State.event_eq, show (s.stamped t).line.flying = some e from h.flying]
  rfl

/-- A collision and an unheard telegram are failed attempts; after a collision the receiver lets the telegram pass (R178). -/
theorem exec_transmitOutcome_of_failed {t : Stamp} (h : s.line.FliesAlone l₁ e l₂) :
    exec (.transmitOutcome t .collision) s =
      .next (State.close s ((s.attemptOver t .abandoned).attemptFailed e .lineCollision)) ∧
    exec (.transmitOutcome t .unheard) s =
      .next (State.close s ((s.attemptOver t s.line.receiver).attemptFailed e .lineSilent)) :=
  ⟨exec_transmitOutcome_of_flying h, exec_transmitOutcome_of_flying h⟩

theorem State.attemptFailed_of_stays {fault : FaultKind} (h : s.line.FliesAlone l₁ e l₂)
    (hlimit : e.attempts + 1 < s.image.params.retryLimit) :
    s.attemptFailed e fault = { s with line := { s.line with queue := l₁ ++ e.stays (e.attempts + 1) :: l₂ } } := by
  rw [attemptFailed, if_pos hlimit, onLine, h.map_flying]

/-- An entry leaves the queue, with follow-on data for the last place. -/
def Line.leave (l : Line) (l₁ l₂ : List TxEntry) (e : TxEntry) : Line :=
  { l with queue := l₁ ++ l₂ ++ (if e.followOn = none then [] else [e.stays 0]) }

theorem State.attemptFailed_of_discarded {fault : FaultKind} (h : s.line.FliesAlone l₁ e l₂)
    (hlimit : s.image.params.retryLimit ≤ e.attempts + 1) :
    s.attemptFailed e fault = State.reportFault { s with line := (s.line.leave l₁ l₂ e).replyEnded e true } fault := by
  rw [attemptFailed, if_neg (by omega), onLine, h.queueAfter]
  rfl

/-- What a reply that ended takes from the lists (R178, R179, R184). -/
theorem Line.replyEnded_eq (e : TxEntry) (discarded : Bool) (l : Line) :
    l.replyEnded e discarded = { l with
      pending := match e.source, e.target with
        | .reply, some asker => l.pending.filter fun p => !(p.asker = asker && p.group = e.group && p.stage = .queued)
        | _, _ => l.pending
      standing := match e.source, e.target, discarded with
        | .standing, some asker, true => l.standing.filter fun r => !r.isFor asker e.group e.index
        | _, _, _ => l.standing } := by
  unfold replyEnded
  cases e.source <;> cases e.target <;> cases discarded <;> rfl

/-- A standing reply that stays in the queue stands in the way of its registration as before. -/
theorem StandingAsk.mayTry_of_stays {b l : Line} {n : Nat} {r : StandingAsk} (h : b.FliesAlone l₁ e l₂)
    (hqueue : l.queue = l₁ ++ e.stays n :: l₂) (hstanding : b.standing = [r]) : StandingAsk.mayTry b l r = false := by
  have hentries : l.entries .standing = b.entries .standing := by
    simp [Line.entries, hqueue, h.queue, List.countP_cons, TxEntry.stays]
  have hreplies : l.repliesTo r.asker r.group = b.repliesTo r.asker r.group := by
    simp [Line.repliesTo, hqueue, h.queue, TxEntry.stays]
  rw [mayTry, hentries, hreplies, hstanding]
  cases hspacing : r.spacing <;> simp [hspacing]

/-- The end of an attempt that leaves the entry in the queue is no report of an owner: the close leaves the queue and the
registration (R186). -/
theorem State.close_line_of_stays {n : Nat} {receiver : Receiver} {t : Stamp} {r : StandingAsk} (h : s.line.FliesAlone l₁ e l₂)
    (hstanding : s.line.standing = [r]) (hhanded : s.handed = .nothing)
    (hready : ∀ p ∈ s.line.pending, ∀ st v, p.stage ≠ .ready st v) :
    let x := State.close s { s with
      now := t, line := { s.line with queue := l₁ ++ e.stays n :: l₂, idle := false, receiver } }
    x.line.queue = l₁ ++ e.stays n :: l₂ ∧ x.line.standing = [r] := by
  intro x
  have hline : x.line = { s.line with queue := l₁ ++ e.stays n :: l₂, idle := false, receiver } := by
    refine State.close_line_of_still hhanded rfl hready (fun _ _ => rfl) fun r' hr' => ?_
    obtain rfl : r' = r := List.mem_singleton.mp (hstanding ▸ hr')
    rw [StandingAsk.mayTry_of_stays h rfl hstanding, Bool.and_false]
  rw [hline]
  exact ⟨rfl, hstanding⟩

end

/-- Settles O18: by the outcome, on both sides of the retry limit. -/
theorem transmitOutcomesSettleTheAttempt : Obligations.TransmitOutcomesSettleTheAttempt := by
  intro t s l₁ l₂ e hqueue hflies hothers kept stays queue pending standing gone
  have h : s.line.FliesAlone l₁ e l₂ := ⟨hqueue, hflies, hothers⟩
  obtain ⟨hcollision, hunheard⟩ := exec_transmitOutcome_of_failed (t := t) h
  have hlost : exec (.transmitOutcome t .lostContention) s = .next (State.close s (stays e.attempts s.line.receiver)) := by
    rw [exec_transmitOutcome_of_flying h, State.attemptEnded, State.onLine,
      (h.attemptOver t _).map_flying fun x => x.stays x.attempts]
    rfl
  have hstays (hlimit : e.attempts + 1 < s.image.params.retryLimit) :
      exec (.transmitOutcome t .collision) s = .next (State.close s (stays (e.attempts + 1) .abandoned)) ∧
      exec (.transmitOutcome t .unheard) s = .next (State.close s (stays (e.attempts + 1) s.line.receiver)) := by
    rw [hcollision, hunheard, State.attemptFailed_of_stays (h.attemptOver t _) hlimit,
      State.attemptFailed_of_stays (h.attemptOver t _) hlimit]
    exact ⟨rfl, rfl⟩
  refine ⟨hlost, hstays, fun hlimit => ?_, ?_, fun asker r _ _ _ hstanding _ hhanded hready hlimit => ?_⟩
  · rw [hcollision, hunheard, State.attemptFailed_of_discarded (h.attemptOver t _) hlimit,
      State.attemptFailed_of_discarded (h.attemptOver t _) hlimit, Line.replyEnded_eq, Line.replyEnded_eq]
    simp only [gone, pending, standing]
    cases e.source <;> cases e.target <;> exact ⟨rfl, rfl⟩
  · rw [exec_transmitOutcome_of_flying h, State.attemptEnded, State.onLine, (h.attemptOver t _).queueAfter,
      Line.replyEnded_eq]
    simp only [pending]
    cases e.source <;> cases e.target <;> rfl
  · obtain ⟨hcollision, hunheard⟩ := hstays hlimit
    obtain ⟨hqx, hsx⟩ := State.close_line_of_stays (n := e.attempts) (receiver := s.line.receiver) (t := t) h hstanding hhanded hready
    obtain ⟨hqy, hsy⟩ := State.close_line_of_stays (n := e.attempts + 1) (receiver := .abandoned) (t := t) h hstanding hhanded hready
    obtain ⟨hqz, hsz⟩ := State.close_line_of_stays (n := e.attempts + 1) (receiver := s.line.receiver) (t := t) h hstanding hhanded hready
    exact ⟨_, _, _, hlost, hcollision, hunheard, hqx, hqy, hqz, hsx, hsy, hsz⟩

end Sys2Proof.Machine
end

section
/-! Asks and commands that reach their owner: the answers at once, the refusals, and the asks of 50H and 51H (O25, O26, O28, O29). -/

namespace Sys2Proof.Machine

/-! ## The owner of a request heard -/

section

variable {s : State} {t : Stamp} {g : Byte} {r : Request}

/-- An owner that answers a request heard and changes nothing else. -/
theorem answersWith_heard (st : Status) (v : List Byte) :
    AnswersWith (.next (State.close s ((s.heard t g r).answer r.asker g r.index st v))) (s.heard t g r) r g st v :=
  answersWith_answer (s.heard_waiting t g r)

/-- A refusal of a request heard: the PROTECTION occurrence and the answer. -/
theorem answersWith_refuse (st : Status) :
    AnswersWith (.next (State.close s ((s.heard t g r).refuse r g r.index st))) ((s.heard t g r).reportFault .protection) r g st [] :=
  answersWith_answer (by rw [State.reportFault_pendingList]; exact s.heard_waiting t g r)

theorem State.unlessStranger_of_stranger {x : State} {index : Byte} (then_ : State → State) (hhold : r.hold = true)
    (hstranger : x.hold.isHolder r.asker = false) : x.unlessStranger r g index then_ = x.refuse r g index .notHeld :=
  if_pos (by simp [hhold, hstranger])

theorem State.unlessStranger_of_plain {x : State} {index : Byte} (then_ : State → State) (hhold : r.hold = false) :
    x.unlessStranger r g index then_ = then_ x :=
  if_neg (by simp [hhold])

theorem State.unlessStranger_of_holder {x : State} {index : Byte} (then_ : State → State)
    (hholder : x.hold.isHolder r.asker = true) : x.unlessStranger r g index then_ = then_ x :=
  if_neg (by simp [hholder])

theorem State.ifHolder_of_stranger {x : State} {index : Byte} (then_ : State → State)
    (hstranger : x.hold.isHolder r.asker = false) : x.ifHolder r g index then_ = x.refuse r g index .notHeld :=
  if_neg (by simp [hstranger])

theorem State.ifHolder_of_holder {x : State} {index : Byte} (then_ : State → State) (hholder : x.hold.isHolder r.asker = true) :
    x.ifHolder r g index then_ = then_ x :=
  if_pos hholder

theorem Hold.isHolder_iff (h : Hold) (a : Station) : h.isHolder a = true ↔ h.phase = .held ∧ h.station = a := by
  simp [isHolder]

theorem Hold.isHolder_eq_false_iff (h : Hold) (a : Station) : h.isHolder a = false ↔ ¬ (h.phase = .held ∧ h.station = a) := by
  rw [← h.isHolder_iff, Bool.not_eq_true]

theorem State.heard_holder_of {a : Station} (hphase : s.hold.phase = .held) (hstation : s.hold.station = a) :
    (s.heard t g r).hold.isHolder a = true := by
  rw [State.heard_isHolder]
  exact (s.hold.isHolder_iff a).mpr ⟨hphase, hstation⟩

/-- A protected command from a stranger (R144, R145). -/
theorem answersWith_of_stranger {name : String} {owner : Byte → State → State} (hhears : s.hears g r = true)
    (howner : owner r.index (s.heard t g r) = (s.heard t g r).refuse r g r.index .notHeld) :
    AnswersWith (s.request t name g r owner) ((s.heard t g r).reportFault .protection) r g .notHeld [] := by
  rw [State.request_heard s t name g r owner hhears, howner]
  exact answersWith_refuse .notHeld

end

/-- Settles O29: every protected command, and every one with the hold flag, meets the check of the holder first. -/
theorem strangersAreRefused : Obligations.StrangersAreRefused := by
  intro t group r s o hrun hhears hstranger
  have hnot : (s.heard t group r).hold.isHolder r.asker = false := by
    rw [State.heard_isHolder]
    exact (s.hold.isHolder_eq_false_iff _).mpr hstranger
  have hprotected (then_ : State → State) := State.ifHolder_of_stranger (g := group) (index := r.index) then_ hnot
  have hflagged (hhold : r.hold = true) (then_ : State → State) :=
    State.unlessStranger_of_stranger (g := group) (index := r.index) then_ hhold hnot
  rcases hrun with ⟨rfl, hhold, rfl⟩ | ⟨rfl, rfl⟩ | ⟨rfl, hreset, rfl⟩ | ⟨rfl, rfl⟩ | ⟨rfl, rfl⟩ | ⟨rfl, rfl⟩ | ⟨rfl, hhold, rfl⟩ |
    ⟨rfl, rfl⟩
  · exact answersWith_of_stranger hhears (hflagged hhold _)
  · exact answersWith_of_stranger hhears (hprotected _)
  · refine answersWith_of_stranger hhears ?_
    cases hhold : r.hold with
    | true => exact hflagged hhold _
    | false =>
      have hprimary : s.primary = true := by simpa [hhold] using hreset
      rw [State.unlessStranger_of_plain _ hhold, if_neg (by simp [hprimary])]
      exact hprotected _
  · exact answersWith_of_stranger hhears (hprotected _)
  · exact answersWith_of_stranger hhears (hprotected _)
  · exact answersWith_of_stranger hhears (hprotected _)
  · exact answersWith_of_stranger hhears (hflagged hhold _)
  · exact answersWith_of_stranger hhears (hprotected _)

/-! ## 50H IDENTITY, 51H SERVICE RECORD and the pairs not taken -/

/-- Settles O25: by the index asked. -/
theorem identityAskIsAnswered : Obligations.IdentityAskIsAnswered := by
  intro t r s hhears h
  have hexec : exec (.askIdentity t r) s =
      .next (State.close s (h.answer r.asker 0x50 r.index (identityAnswer h r.index).1 (identityAnswer h r.index).2)) :=
    State.request_heard s t "ASK_IDENTITY" 0x50 r _ hhears
  rw [hexec]
  refine ⟨fun hindex => ?_, fun hindex => ?_, fun hindex => ?_⟩
  · have hanswer : identityAnswer h r.index = (.done, [0x01,
        BitVec.ofNat 8 (s.key.station.toNat + (if s.key.role = .mirror then 32 else 0) +
          (match s.key.units with | .metric => 0 | .us => 64 | .imperial => 128)),
        BitVec.ofNat 8 (s.image.checkWord.toNat / 256), BitVec.ofNat 8 s.image.checkWord.toNat]) := by
      rw [identityAnswer, if_pos hindex]
      simp only [h, identityByte, State.heard_image, State.heard_station, State.heard_role, State.heard_units]
      cases s.key.units <;> simp [Config.revision, bytesOf]
    rw [hanswer]
    exact answersWith_heard _ _
  · have hanswer : identityAnswer h r.index = (.done, faultBytes h.faults s.image.params.reportMask) := by
      rw [identityAnswer, if_neg (by simp [hindex]), if_pos hindex]
      simp [h]
    rw [hanswer]
    exact answersWith_heard _ _
  · have hanswer : identityAnswer h r.index = (.unknown, []) := by
      have hne (n : Byte) (hn : n.toNat ≤ 1) : r.index ≠ n := by rintro rfl; omega
      rw [identityAnswer, if_neg (hne 0 (by decide)), if_neg (hne 1 (by decide))]
    rw [hanswer]
    exact answersWith_heard _ _

/-- Settles O28: by the kind and the hold flag. -/
theorem unknownRequestsAreAnswered : Obligations.UnknownRequestsAreAnswered := by
  intro t kind group r s o
  refine ⟨fun htakes => if_pos htakes, fun htakes hhears => ?_, fun g => ?_, fun g => ?_⟩
  · have ho : o = _ := (if_neg (by simp [htakes])).trans (State.request_heard s t "UNKNOWN_ASK_OR_COMMAND" group r _ hhears)
    rw [ho]
    refine ⟨fun hplain => ?_, fun hkind hhold hstranger => ?_⟩
    · cases kind with
      | ask => exact answersWith_heard _ _
      | command =>
        rw [if_pos rfl]
        obtain hkind | hhold | hholder := hplain
        · exact nomatch hkind
        · rw [State.unlessStranger_of_plain _ hhold]
          exact answersWith_heard _ _
        · rw [State.unlessStranger_of_holder _ (by simpa using hholder)]
          exact answersWith_heard _ _
    · rw [if_pos hkind, State.unlessStranger_of_stranger _ hhold (by simpa using hstranger)]
      exact answersWith_refuse _
  · simp [takes]
  · simp [takes, ← BitVec.toNat_inj]
    omega

theorem serviceBytes_eq (s : State) (index : Byte) :
    serviceBytes s index =
      (let code (n : Nat) : Byte := BitVec.ofNat 8 n
       let i := index.toNat
       if i = 0 then [code (s.service.dist / 65536), code (s.service.dist / 256), code s.service.dist, code (distState s)]
       else if i = 1 then [code (s.service.days / 256), code s.service.days, 0, code (daysState s)]
       else if i = 2 then [code (s.service.wear / 16777216), code (s.service.wear / 65536), code (s.service.wear / 256),
         code s.service.wear]
       else [code (max (distState s) (max (daysState s) (wearState s))), code (distState s), code (daysState s),
         code (wearState s)]) := by
  have hiff (n : Byte) : index = n ↔ index.toNat = n.toNat := BitVec.toNat_inj.symm
  simp only [serviceBytes, hiff, serviceState, bytesOf]
  simp

theorem serviceBytes_heard (s : State) (t : Stamp) (g : Byte) (r : Request) (index : Byte) :
    serviceBytes (s.heard t g r) index = serviceBytes s index := by
  simp [serviceBytes, serviceState, distState, daysState, wearState]

/-! ### The first rows of R142 -/

section

variable {x : State} {r : Request}

/-- Without the hold flag, and from the station of the hold, an ask goes on and opens no hold. -/
theorem holdRefusal_of_entitled (h : r.hold = false ∨ (x.hold.phase ≠ .none ∧ x.hold.station = r.asker)) :
    holdRefusal x r = none ∧ opensHold x r = false := by
  unfold holdRefusal opensHold
  obtain hhold | ⟨hphase, hstation⟩ := h
  · simp [hhold]
  · cases hp : x.hold.phase with
    | none => exact absurd hp hphase
    | opening => simp [hstation]
    | held => simp [hstation]

theorem holdRefusal_of_locked (hhold : r.hold = true) (hphase : x.hold.phase = .none) (hsvc : x.key.svcEn = false) :
    holdRefusal x r = some (.locked, []) := by
  simp [holdRefusal, hhold, hphase, hsvc]

theorem holdRefusal_of_opening (hhold : r.hold = true) (hphase : x.hold.phase = .none) (hsvc : x.key.svcEn = true) :
    holdRefusal x r = none ∧ opensHold x r = true := by
  simp [holdRefusal, opensHold, hhold, hphase, hsvc]

theorem holdRefusal_of_other (hhold : r.hold = true) (hphase : x.hold.phase ≠ .none) (hstation : x.hold.station ≠ r.asker) :
    holdRefusal x r = some (.held, [x.hold.station.setWidth 8]) := by
  unfold holdRefusal
  cases hp : x.hold.phase with
  | none => exact absurd hp hphase
  | opening => simp [hhold, hstation]
  | held => simp [hhold, hstation]

end

/-- Settles O26: the checks of the ask in their order. -/
theorem serviceRecordAskIsAnswered : Obligations.ServiceRecordAskIsAnswered := by
  intro t r s hhears h o code record
  have ho : o = _ := State.request_heard s t "ASK_SERVICE_RECORD" 0x51 r _ hhears
  have hrecord : serviceBytes h r.index = record r.index.toNat :=
    (serviceBytes_heard s t 0x51 r r.index).trans (serviceBytes_eq s r.index)
  rw [ho]
  refine ⟨fun hmirror => ?_, fun hprimary hindex => ?_, fun hprimary hindex => ?_⟩
  · rw [if_pos (by simp [hmirror])]
    exact answersWith_heard _ _
  · rw [if_neg (by simp [hprimary]), if_pos (by omega)]
    exact answersWith_heard _ _
  · rw [if_neg (by simp [hprimary]), if_neg (by omega)]
    refine ⟨fun hentitled => ?_, fun hhold hphase hsvc => ?_, fun hhold hphase hsvc => ?_, fun hhold hphase hstation => ?_⟩
    · obtain ⟨hrefusal, hopens⟩ := holdRefusal_of_entitled (x := h) (r := r) (by simpa [h] using hentitled)
      rw [hrefusal, ← hrecord]
      dsimp only
      rw [hopens]
      exact answersWith_heard _ _
    · rw [holdRefusal_of_locked hhold (by simpa using hphase) (by simpa using hsvc)]
      exact answersWith_heard _ _
    · obtain ⟨hrefusal, hopens⟩ := holdRefusal_of_opening (x := h) hhold (by simpa [h] using hphase) (by simpa [h] using hsvc)
      rw [hrefusal, ← hrecord]
      dsimp only
      rw [hopens, if_pos rfl, State.heard_now]
      exact answersWith_answer (s.heard_waiting t 0x51 r)
    · rw [holdRefusal_of_other hhold (by simpa using hphase) (by simpa using hstation), State.heard_holder]
      exact answersWith_heard _ _

end Sys2Proof.Machine
end

section
/-! The asks and commands that enter the store (O27, O32), and those turned away before their owner (O22). -/

namespace Sys2Proof.Machine

/-! ## What the store serves -/

section

variable {s : State} {st : Store} {r : StoreRequest}

theorem State.serve_of_chosen (hop : s.store.op = .idle)
    (hchosen : s.store.chosen s.key.pins.supplyLow s.draining = some r)
    (hstart : Store.start s r { s.store with queue := s.store.queue.erase r } = some st) : s.serve = { s with store := st } := by
  rw [State.serve, serveUpTo, if_neg (by simp [hop]), hchosen]
  dsimp only
  rw [hstart]

theorem Store.chosen_of_empty (hqueue : st.queue = []) (low draining : Bool) : st.chosen low draining = none := by
  simp [Store.chosen, hqueue]

/-- A store at rest with nothing queued has nothing to serve. -/
theorem serveUpTo_of_empty (hqueue : s.store.queue = []) (hsuspended : s.store.suspended = none) (fuel : Nat) :
    serveUpTo fuel s = s := by
  cases fuel with
  | zero => rfl
  | succ n =>
    rw [serveUpTo, Store.chosen_of_empty hqueue, hsuspended]
    split <;> rfl

theorem Store.eraseBegun_eq_false (hop : st.op = .idle) {b : BlockId}
    (h : ∀ j, st.suspended = some j → j.block ≠ b) : st.eraseBegun b = false := by
  unfold eraseBegun erasingBlock
  cases hsuspended : st.suspended with
  | none => simp [hop]
  | some j => simp [hop, h j hsuspended]

theorem Store.chosen_read {asker : Station} {address : Byte} {claim : Claim} {limit : Timer} (low : Bool)
    (hqueue : st.queue = [.read asker address claim limit]) (hfree : st.eraseBegun (configBlock address) = false) :
    st.chosen low false = some (.read asker address claim limit) := by
  simp [Store.chosen, hqueue, StoreRequest.isUrgent, StoreRequest.isProgram, StoreRequest.isRead, Store.target, hfree]

theorem Store.chosen_erase {owner : EraseOwner} {block : BlockId} (low : Bool) (hqueue : st.queue = [.erase owner block])
    (hsuspended : st.suspended = none) : st.chosen low false = some (.erase owner block) := by
  simp [Store.chosen, hqueue, StoreRequest.isUrgent, StoreRequest.isProgram, StoreRequest.isRead, StoreRequest.isErase,
    hsuspended]

theorem Store.chosen_program {asker : Station} {address : Byte} {value : Word} (low : Bool)
    (hqueue : st.queue = [.program asker address value]) (hop : st.op = .idle) (hsuspended : st.suspended = none) :
    st.chosen low false = some (.program asker address value) := by
  have hfree : st.eraseBegun (configBlock address) = false := Store.eraseBegun_eq_false hop (by simp [hsuspended])
  simp [Store.chosen, hqueue, StoreRequest.isUrgent, StoreRequest.isProgram, StoreRequest.isSave, Store.target,
    Store.eraseStands, hfree]

end

theorem configBlock_val (address : Byte) : (configBlock address).val = address.toNat / 64 := by
  have := address.isLt
  simp [configBlock, Fin.ofNat]
  omega

theorem State.not_draining_of_hears {s : State} {g : Byte} {r : Request} (h : s.hears g r = true) : s.draining = false := by
  simp only [State.hears, Bool.and_eq_true, Bool.not_eq_true'] at h
  obtain ⟨⟨⟨⟨⟨-, hdraining⟩, -⟩, -⟩, -⟩, -⟩ := h
  exact hdraining

/-- Settles O27: the read queued is served at once where the store is at rest and its block is not being erased. -/
theorem configWordAskQueuesARead : Obligations.ConfigWordAskQueuesARead := by
  intro t r s hhears h o reads taken opening
  have ho : o = _ := State.request_heard s t "ASK_CONFIG_WORD" 0x52 r _ hhears
  have hreads : h.store.queuedReads = reads := by rw [State.heard_store]; rfl
  have hqueue (x : State) (hx : x.now = t) (hstore : x.store = s.store) (claim : Claim) :
      x.queueRead r.asker r.index claim = State.serve { x with store := { s.store with
        queue := s.store.queue ++ [.read r.asker r.index claim (some (t + 1000))] } } := by
    rw [State.queueRead, hx, hstore]
    rfl
  rw [ho]
  refine ⟨fun hmany => ?_, fun hfew => ⟨fun hentitled => ?_, fun hhold hphase hsvc => ?_, fun hhold hphase hsvc => ?_,
    fun hhold hphase hstation => ?_, fun claim hold hop hempty hblock => ?_⟩⟩
  · rw [if_pos (by rw [hreads]; exact hmany)]
    exact answersWith_heard _ _
  · obtain ⟨hrefusal, hopens⟩ := holdRefusal_of_entitled (x := h) (r := r) (by simpa [h] using hentitled)
    rw [if_neg (by rw [hreads]; omega), hrefusal]
    dsimp only
    rw [hopens, if_neg Bool.false_ne_true, hqueue _ (by simp) (by simp)]
  · rw [if_neg (by rw [hreads]; omega), holdRefusal_of_locked hhold (by simpa using hphase) (by simpa using hsvc)]
    exact answersWith_heard _ _
  · obtain ⟨hrefusal, hopens⟩ := holdRefusal_of_opening (x := h) hhold (by simpa [h] using hphase) (by simpa [h] using hsvc)
    rw [if_neg (by rw [hreads]; omega), hrefusal]
    dsimp only
    rw [hopens, if_pos rfl, hqueue _ (by simp) (by simp)]
  · rw [if_neg (by rw [hreads]; omega),
      holdRefusal_of_other hhold (by simpa using hphase) (by simpa using hstation), State.heard_holder]
    exact answersWith_heard _ _
  · have hdraining : (taken claim hold).draining = false :=
      (s.heard_draining t 0x52 r).trans (State.not_draining_of_hears hhears)
    have hfree : (taken claim hold).store.eraseBegun (configBlock r.index) = false :=
      Store.eraseBegun_eq_false hop fun j hj he => hblock j hj (by rw [he, configBlock_val])
    have hread : (taken claim hold).store.queue = [.read r.asker r.index claim (some (t + 1000))] := by
      simp [taken, hempty]
    refine State.serve_of_chosen hop (by rw [hdraining]; exact Store.chosen_read _ hread hfree) ?_
    simp only [Store.start, Store.begun, taken, h, hempty, State.heard_now]
    simp [startTimer, readMillis]

/-! ## The configuration writes -/

theorem complementHolds_iff (r : Request) :
    complementHolds r = true ↔ ∃ v, r.word 1 = some v ∧ r.word 3 = some (~~~ v) := by
  unfold complementHolds
  cases hv : r.word 1 <;> cases hc : r.word 3 <;> simp

theorem State.clearLatch_answer (s : State) (a : Station) (g i : Byte) (st : Status) (v : List Byte) :
    (s.answer a g i st v).clearLatch = s.clearLatch.answer a g i st v := rfl

/-- A BAD_COMPLEMENT refusal of a request heard. -/
theorem answersWith_badComplement {s : State} {t : Stamp} {g : Byte} {r : Request} :
    AnswersWith (.next (State.close s ((s.heard t g r).badComplement r g r.index)))
      ((s.heard t g r).reportFault .protection).clearLatch r g .badComplement [] := by
  have hwaits : (⟨r.asker, g, r.index, .waiting⟩ : PendingAnswer) ∈
      ((s.heard t g r).reportFault .protection).clearLatch.line.pending := by
    show _ ∈ ((s.heard t g r).reportFault .protection).line.pending
    rw [State.reportFault_pendingList]
    exact s.heard_waiting t g r
  rw [State.badComplement, State.refuse, State.clearLatch_answer]
  exact answersWith_answer hwaits

section

variable {s : State} {t : Stamp} {r : Request}

/-- An erase asked for by a command starts at once where the store is at rest (R166). -/
theorem State.serve_of_erase {x : State} {owner : EraseOwner} {block : BlockId} (hdraining : x.draining = false)
    (hop : x.store.op = .idle) (hqueue : x.store.queue = [.erase owner block]) (hsuspended : x.store.suspended = none) :
    x.serve = { x with store := { x.store with
      queue := [], op := .erasing { owner, block, attempt := 1, spent := 0 } x.now, opTimer := some (x.now + 16) } } := by
  refine State.serve_of_chosen hop (by rw [hdraining]; exact Store.chosen_erase _ hqueue hsuspended) ?_
  rw [hqueue, List.erase_cons_head]
  rfl

/-- A word program starts at once where the store is at rest and it asks no zero bit to become one (R150, R165). -/
theorem State.serve_of_program {x : State} {asker : Station} {address : Byte} {value : Word} (hdraining : x.draining = false)
    (hop : x.store.op = .idle) (hqueue : x.store.queue = [.program asker address value]) (hsuspended : x.store.suspended = none)
    (hbits : readWord x.store.array address.toNat &&& value = value) :
    x.serve = { x with store := { x.store with
      queue := [], op := .word asker address value, opTimer := some (x.now + 4) } } := by
  refine State.serve_of_chosen hop (by rw [hdraining]; exact Store.chosen_program _ hqueue hop hsuspended) ?_
  rw [hqueue, List.erase_cons_head, Store.start]
  dsimp only
  rw [if_pos hbits]
  rfl

/-- One that does is answered FAILED, with the latch cleared, and programs nothing (R150, R165). -/
theorem State.serve_of_refused {x : State} {asker : Station} {address : Byte} {value : Word} (hdraining : x.draining = false)
    (hop : x.store.op = .idle) (hqueue : x.store.queue = [.program asker address value]) (hsuspended : x.store.suspended = none)
    (hbits : readWord x.store.array address.toNat &&& value ≠ value) :
    x.serve = ({ x with store := { x.store with queue := [] } }.clearLatch).answer asker 0x64 address .failed [] := by
  have hchosen : x.store.chosen x.key.pins.supplyLow x.draining = some (.program asker address value) := by
    rw [hdraining]; exact Store.chosen_program _ hqueue hop hsuspended
  rw [State.serve, serveUpTo, if_neg (by simp [hop]), hchosen, hqueue]
  dsimp only
  rw [List.erase_cons_head, Store.start]
  dsimp only
  rw [if_neg hbits]
  exact serveUpTo_of_empty (by rfl) (by exact hsuspended) _

/-- Settles O32: the checks of each command in their order, and what the store does at once. -/
theorem configWritesEnterTheStore : Obligations.ConfigWritesEnterTheStore := by
  intro t r s hphase hstation
  refine ⟨?_, ?_⟩
  · intro hhears h o block e
    have hdraining : e.draining = false := (s.heard_draining t 0x63 r).trans (State.not_draining_of_hears hhears)
    have ho : o = _ := State.request_heard s t "ERASE_CONFIG_BLOCK" 0x63 r _ hhears
    rw [ho, State.ifHolder_of_holder _ (State.heard_holder_of hphase hstation), State.heard_latch, State.heard_store,
      State.heard_pins]
    refine ⟨fun hindex => ?_, fun hindex hlatch => ?_, fun hindex hlatch hbusy => ?_, fun hindex hlatch hbusy hlow => ?_,
      fun hindex hlatch hbusy hlow => ⟨?_, fun hop hqueue hsuspended => ?_⟩⟩
    · rw [if_pos hindex]
      exact answersWith_heard _ _
    · rw [if_neg (by omega), if_pos (by simp [hlatch])]
      exact answersWith_refuse _
    · rw [if_neg (by omega), if_neg (by simp [hlatch]), if_pos hbusy]
      exact answersWith_heard _ _
    · rw [if_neg (by omega), if_neg (by simp [hlatch]), if_neg (by simp [hbusy]), if_pos hlow]
      exact answersWith_heard _ _
    · rw [if_neg (by omega), if_neg (by simp [hlatch]), if_neg (by simp [hbusy]), if_neg (by simp [hlow])]
    · have hqueued : e.store.queue = [.erase (.config r.asker) block] := by simp [e, hqueue]
      rw [State.serve_of_erase (x := e) hdraining hop hqueued hsuspended]
      simp [e, h, hqueue]
  · intro hhears h o good
    have ho : o = _ := State.request_heard s t "WRITE_CONFIG_WORD" 0x64 r _ hhears
    rw [ho, State.ifHolder_of_holder _ (State.heard_holder_of hphase hstation), State.heard_latch, State.heard_store,
      State.heard_pins]
    have hgood : complementHolds r = true ↔ good := complementHolds_iff r
    refine ⟨fun hbad => ?_, fun hg hlatch => ?_, fun hg hlatch hbusy => ?_, fun hg hlatch hbusy hlow => ?_,
      ?_⟩
    · have hcomplement : complementHolds r = false := Bool.eq_false_iff.mpr (mt hgood.mp hbad)
      rw [if_pos (by simp [hcomplement])]
      exact answersWith_badComplement
    · rw [if_neg (by simp [hgood.mpr hg]), if_pos (by simp [hlatch])]
      exact answersWith_refuse _
    · rw [if_neg (by simp [hgood.mpr hg]), if_neg (by simp [hlatch]), if_pos hbusy]
      exact answersWith_heard _ _
    · rw [if_neg (by simp [hgood.mpr hg]), if_neg (by simp [hlatch]), if_neg (by simp [hbusy]), if_pos hlow]
      exact answersWith_heard _ _
    · intro v hv hc hlatch hbusy hlow e old
      have hdraining : e.draining = false := (s.heard_draining t 0x64 r).trans (State.not_draining_of_hears hhears)
      have hg : good := ⟨v, hv, hc⟩
      have harrive (hop : s.store.op = .idle) : e.arrive (configBlock r.index) = e.serve := by
        have hstays : e.store.suspendFor e.now (configBlock r.index) = e.store := by simp [Store.suspendFor, e, hop]
        rw [State.arrive, hstays]
      rw [if_neg (by simp [hgood.mpr hg]), if_neg (by simp [hlatch]), if_neg (by simp [hbusy]), if_neg (by simp [hlow]), hv]
      have hqueued (hqueue : s.store.queue = []) : e.store.queue = [.program r.asker r.index v] := by simp [e, hqueue]
      refine ⟨rfl, fun hop hqueue hsuspended hbits => ?_, fun hop hqueue hsuspended hbits => ?_⟩
      · rw [harrive hop, State.serve_of_program (x := e) hdraining hop (hqueued hqueue) hsuspended hbits]
        simp [e, h, hqueue]
      · rw [Option.getD_some, show _ = e.arrive (configBlock r.index) from rfl, harrive hop,
          State.serve_of_refused (x := e) hdraining hop (hqueued hqueue) hsuspended hbits]
        have hback : { e with store := { e.store with queue := [] } } = h := by
          have hstore : { s.store with queue := [] } = h.store := by rw [State.heard_store, ← hqueue]
          show { h with store := { s.store with queue := [] } } = h
          rw [hstore]
        rw [hback]
        exact answersWith_answer (s.heard_waiting t 0x64 r)

end

end Sys2Proof.Machine
end

section
/-! A published telegram in the queue, and what the close of an event keeps of it; FAULT_CLEAR and GAUGE_TEST (O33, O34). -/

namespace Sys2Proof.Machine

/-! ## What a telegram handed on leaves of the lists -/

@[simp] theorem Line.choose_pending (l : Line) : l.choose.pending = l.pending := by
  unfold Line.choose
  split
  · split <;> rfl
  · rfl

@[simp] theorem Line.choose_standing (l : Line) : l.choose.standing = l.standing := by
  unfold Line.choose
  split
  · split <;> rfl
  · rfl

@[simp] theorem Line.handOn_pending (e : TxEntry) (l : Line) : (l.handOn e).pending = l.pending := Line.choose_pending _

@[simp] theorem Line.handOn_standing (e : TxEntry) (l : Line) : (l.handOn e).standing = l.standing := Line.choose_standing _

/-! ## A telegram that stands in the queue -/

/-- A PUBLISH telegram of a group stands in the queue with its data, or with them as follow-on data. -/
def Line.Publishes (l : Line) (g : Byte) (d : List Byte) : Prop :=
  ∃ e ∈ l.queue, (e.kind = .publish ∧ e.group = g ∧ e.target = none) ∧ (e.data = d ∨ e.followOn = some d)

/-- Every telegram of a group published in `l` stands in `l'`. -/
structure Line.KeepsPublished (g : Byte) (l l' : Line) : Prop where
  keeps : ∀ d, l.Publishes g d → l'.Publishes g d

namespace Line.KeepsPublished

variable {g : Byte} {l m n : Line}

theorem refl (g : Byte) (l : Line) : KeepsPublished g l l := ⟨fun _ h => h⟩

theorem trans (h : KeepsPublished g l m) (k : KeepsPublished g m n) : KeepsPublished g l n :=
  ⟨fun d hd => k.keeps d (h.keeps d hd)⟩

theorem of_queue (h : ∀ e ∈ l.queue, e.kind = .publish → e.group = g → e.target = none →
      ∃ e' ∈ m.queue, e'.kind = e.kind ∧ e'.group = e.group ∧ e'.target = e.target ∧ e'.data = e.data ∧
        e'.followOn = e.followOn) : KeepsPublished g l m := by
  refine ⟨fun d => ?_⟩
  rintro ⟨e, he, ⟨hkind, hgroup, htarget⟩, hdata⟩
  obtain ⟨e', he', hkind', hgroup', htarget', hdata', hfollow'⟩ := h e he hkind hgroup htarget
  refine ⟨e', he', ⟨hkind'.trans hkind, hgroup'.trans hgroup, htarget'.trans htarget⟩, ?_⟩
  rwa [hdata', hfollow']

theorem of_queue_eq (h : m.queue = l.queue) : KeepsPublished g l m :=
  of_queue fun e he _ _ _ => ⟨e, h ▸ he, rfl, rfl, rfl, rfl, rfl⟩

/-- Its own telegrams are not the first match of a test that holds on none of them. -/
theorem of_mapFirst {test : TxEntry → Bool} {f : TxEntry → TxEntry}
    (h : ∀ e, e.kind = .publish → e.group = g → e.target = none → test e = false) (hqueue : m.queue = mapFirst test f l.queue) :
    KeepsPublished g l m := by
  refine of_queue fun e he hkind hgroup htarget => ?_
  rw [hqueue]
  obtain hmem | ⟨htest, -⟩ := mem_mapFirst (test := test) (f := f) he
  · exact ⟨e, hmem, rfl, rfl, rfl, rfl, rfl⟩
  · exact absurd htest (by simp [h e hkind hgroup htarget])

theorem choose (l : Line) : KeepsPublished g l l.choose := by
  unfold Line.choose
  split
  · split
    next src _ =>
      refine of_queue fun e he _ _ _ => ?_
      obtain hmem | ⟨-, hmem⟩ := mem_mapFirst (test := fun e => decide (e.source = src))
        (f := fun e : TxEntry => { e with inFlight := true }) he
      · exact ⟨e, hmem, rfl, rfl, rfl, rfl, rfl⟩
      · exact ⟨_, hmem, rfl, rfl, rfl, rfl, rfl⟩
    next => exact refl g l
  · exact refl g l

/-- A telegram of another kind or group leaves them as they are. -/
theorem handOn {e : TxEntry} (h : e.kind = .reply ∨ e.group ≠ g) (l : Line) : KeepsPublished g l (l.handOn e) := by
  have hother (q : TxEntry) (hkind : q.kind = .publish) (hgroup : q.group = g) (_ : q.target = none) :
      e.matchesEntry q = false := by
    obtain hreply | hne := h
    · simp [TxEntry.matchesEntry, hreply, hkind]
    · simp [TxEntry.matchesEntry, hgroup, hne]
  unfold Line.handOn
  refine trans (m := { l with queue := _ }) ?_ (choose _)
  split
  · exact of_mapFirst hother rfl
  · exact of_queue fun e he _ _ _ => ⟨e, List.mem_append_left _ he, rfl, rfl, rfl, rfl, rfl⟩

theorem joinOne (l : Line) (p : PendingAnswer) : KeepsPublished g l (l.joinOne p) := by
  unfold Line.joinOne
  split
  · split
    · refine trans (m := { l with pending := _ }) ?_ (handOn (.inl rfl) _)
      exact of_queue_eq (by rfl)
    · exact refl g l
  · exact refl g l

theorem foldl {α : Type} {f : Line → α → Line} (h : ∀ l a, KeepsPublished g l (f l a)) (xs : List α) (l : Line) :
    KeepsPublished g l (xs.foldl f l) := by
  induction xs generalizing l with
  | nil => exact refl g l
  | cons x xs ih => exact (h l x).trans (ih _)

theorem setStanding (r : StandingAsk) (l : Line) : KeepsPublished g l (l.setStanding r) := of_queue_eq rfl

theorem placeStanding (now : Stamp) (r : StandingAsk) (v : List Byte) (l : Line) :
    KeepsPublished g l (l.placeStanding now r v) :=
  (setStanding _ l).trans (handOn (.inl rfl) _)

theorem reportStanding (now : Stamp) (r : StandingAsk) (v : List Byte) (l : Line) :
    KeepsPublished g l (l.reportStanding now r v) := by
  unfold Line.reportStanding
  split
  · exact refl g l
  · split
    · refine trans (m := { l with queue := _ }) (of_mapFirst (test := r.queuedIn) (fun e _ _ htarget => ?_) rfl) (setStanding _ _)
      simp [StandingAsk.queuedIn, htarget]
    · split
      · exact setStanding _ l
      · exact placeStanding now r v l

theorem retryStanding (now : Stamp) (r : StandingAsk) (v : List Byte) (l : Line) :
    KeepsPublished g l (l.retryStanding now r v) := by
  unfold Line.retryStanding
  split
  · exact setStanding _ l
  · split
    · exact placeStanding now r v l
    · exact refl g l

/-- What is folded over the registrations of a line. -/
theorem onStanding {cond : StandingAsk → Prop} [DecidablePred cond] {f : Line → StandingAsk → Line}
    (h : ∀ l r, KeepsPublished g l (f l r)) (l : Line) :
    KeepsPublished g l (l.standing.foldl (fun l r => if cond r then f l r else l) l) := by
  refine foldl (fun l r => ?_) _ l
  split
  · exact h l r
  · exact refl g l

theorem answer (a : Station) (i j : Byte) (st : Status) (v : List Byte) (l : Line) : KeepsPublished g l (l.answer a i j st v) := by
  refine of_queue_eq ?_
  unfold Line.answer
  dsimp only
  split <;> rfl

end Line.KeepsPublished

/-- A fold of state operations that keep the telegrams of a group keeps them. -/
theorem State.foldl_keepsPublished {α : Type} {g : Byte} {f : State → α → State}
    (h : ∀ (s : State) a, s.line.KeepsPublished g (f s a).line) (xs : List α) (s : State) : s.line.KeepsPublished g (xs.foldl f s).line := by
  induction xs generalizing s with
  | nil => exact .refl g _
  | cons x xs ih => exact (h s x).trans (ih _)

/-- The close hands 40H on and no other PUBLISH: what stands in the queue of another group stays. -/
theorem State.close_keepsPublished {g : Byte} (hg : (0x40 : Byte) ≠ g) (b e : State) :
    e.line.KeepsPublished g (State.close b e).line := by
  have hstatus : e.line.KeepsPublished g (State.statusOnChange b e.settleDisplay).line := by
    unfold State.statusOnChange
    split
    · exact State.foldl_keepsPublished (f := fun s b => s.publish .status 0x40 b) (fun s d => .handOn (.inr hg) s.line) _ e.settleDisplay
    · exact .refl g _
  have hjoin (x : State) : x.line.KeepsPublished g (x.onLine Line.joinReady).line := .foldl .joinOne _ _
  have hshown (x : State) (d : List Byte) : x.line.KeepsPublished g (watchStatus x d).line :=
    .onStanding (fun _ _ => .reportStanding _ _ _ _) _
  have hwatched (x : State) : x.line.KeepsPublished g (watchChanges x).line := State.foldl_keepsPublished hshown _ x
  have hstanding (x : State) : x.line.KeepsPublished g (watchStanding b x).line :=
    .onStanding (fun _ _ => .reportStanding _ _ _ _) _
  have hretry (c : StandingAsk → Bool) (x : State) : x.line.KeepsPublished g (retryStandings c x).line :=
    .onStanding (fun _ _ => .retryStanding _ _ _ _) _
  exact (((hstatus.trans (hjoin _)).trans (hwatched _)).trans (hstanding _)).trans (hretry _ _)

/-- A PUBLISH telegram handed on stands in the queue. -/
theorem Line.publishes_handOn (source : TxSource) (g : Byte) (d : List Byte) (l : Line) :
    (l.handOn (publishEntry source g d)).Publishes g d := by
  unfold Line.handOn
  refine (Line.KeepsPublished.choose _).keeps d ?_
  split
  next hany =>
    obtain ⟨l₁, e, l₂, hqueue, htest, -, hmap⟩ := mapFirst_split
      (fun q : TxEntry => if q.inFlight then { q with followOn := some d } else { q with data := d }) hany
    have hkey : e.kind = .publish ∧ e.group = g ∧ e.target = none := by
      simp only [TxEntry.matchesEntry, publishEntry, Bool.and_eq_true] at htest
      obtain ⟨⟨hkind, hgroup⟩, htarget⟩ := htest
      exact ⟨(of_decide_eq_true hkind).symm, (of_decide_eq_true hgroup).symm, (of_decide_eq_true htarget).symm⟩
    refine ⟨if e.inFlight then { e with followOn := some d } else { e with data := d }, ?_, ?_, ?_⟩
    · exact hmap ▸ List.mem_append_right _ List.mem_cons_self
    · split <;> exact hkey
    · split
      · exact .inr rfl
      · exact .inl rfl
  next => exact ⟨_, List.mem_append_right _ List.mem_cons_self, ⟨rfl, rfl, rfl⟩, .inl rfl⟩

end Sys2Proof.Machine
end

section
/-! Requests turned away before their owner, FAULT_CLEAR and GAUGE_TEST (O22, O33, O34). -/

namespace Sys2Proof.Machine

/-! ## Requests turned away -/

section

variable {s : State} {t : Stamp} {name : String} {g : Byte} {r : Request} {owner : Byte → State → State}

theorem State.request_of_fits (hfits : r.fits = true) :
    s.request t name g r owner = .next (State.close s ((s.stamped t).takeRequest g r owner)) := by
  rw [State.request, if_pos hfits, State.event_eq]

theorem State.takeRequest_of_deaf (hdeaf : s.receives = false) : s.takeRequest g r owner = s := by
  rw [State.takeRequest, if_pos (by simp [hdeaf])]

theorem State.takeRequest_of_busy (hreceives : s.receives = true) (hbusy : s.key.started = false ∨ s.draining = true) :
    s.takeRequest g r owner = (s.accept r.asker false).onLine (Line.replyAtOnce r.asker g r.index .busy) := by
  have hdraining : (s.accept r.asker false).draining = s.draining := by simp [State.draining]
  rw [State.takeRequest, if_neg (by simp [hreceives]), if_pos]
  · rfl
  · obtain h | h := hbusy <;> simp [hdraining, h]

/-- Past the checks of the start and of the drain (R193, R195). -/
theorem State.takeRequest_of_open (hreceives : s.receives = true) (hstarted : s.key.started = true) (hopen : s.draining = false) :
    s.takeRequest g r owner =
      (let x := s.accept r.asker false
       if r.args.isEmpty then x.onLine (Line.replyAtOnce r.asker g r.index .unknown)
       else if s.line.pending.any (fun p => p.isFor r.asker g r.index) then x
       else if 4 ≤ s.line.pending.length then x.onLine (Line.replyAtOnce r.asker g r.index .busy)
       else owner r.index (x.onLine fun l =>
         { l with pending := l.pending ++ [{ asker := r.asker, group := g, index := r.index, stage := .waiting }] })) := by
  have hdraining : (s.accept r.asker false).draining = false := by simpa [State.draining] using hopen
  rw [State.takeRequest, if_neg (by simp [hreceives])]
  dsimp only
  rw [if_neg (by simp [hstarted, hdraining]), State.accept_pendingList]
  rfl

end

/-- A reply at once joins the queue where its source is below its cap and no reply to the asker and group stands in it. -/
theorem Line.replyAtOnce_busy_eq (r : Request) (g : Byte) (l : Line) :
    Line.replyAtOnce r.asker g r.index .busy l =
      if l.queue.countP (fun e => e.source = .reply) < 2 ∧
          (∀ e ∈ l.queue, ¬ (e.kind = .reply ∧ e.group = g ∧ e.target = some r.asker)) then
        l.handOn { source := .reply, kind := .reply, group := g, target := some r.asker, index := r.index,
                   data := [r.asker.setWidth 8, 1, 0, 0, 0, 0], attempts := 0, inFlight := false, followOn := none }
      else l := by
  have hiff : l.canReply .reply r.asker g = true ↔ l.queue.countP (fun e => e.source = .reply) < 2 ∧
      (∀ e ∈ l.queue, ¬ (e.kind = .reply ∧ e.group = g ∧ e.target = some r.asker)) := by
    simp [Line.canReply, Line.entries, TxSource.cap, Line.repliesTo]
  exact if_congr hiff rfl rfl

/-- Settles O22: a request is turned away by the same checks, whoever its owner is. -/
theorem requestsAreTurnedAway : Obligations.RequestsAreTurnedAway := by
  intro t group r s o hrun h
  obtain ⟨name, owner, rfl⟩ : ∃ name owner, o = s.request t name group r owner := by
    rcases hrun with ⟨rfl, rfl⟩ | ⟨rfl, rfl⟩ | ⟨rfl, rfl⟩ | ⟨rfl, rfl⟩ | ⟨rfl, rfl⟩ | ⟨rfl, rfl⟩ | ⟨rfl, rfl⟩ | ⟨rfl, rfl⟩ |
      ⟨rfl, rfl⟩ | ⟨rfl, rfl⟩ | ⟨rfl, rfl⟩ | ⟨rfl, rfl⟩ | ⟨rfl, rfl⟩ | ⟨rfl, rfl⟩ | ⟨rfl, rfl⟩ | ⟨kind, htakes, rfl⟩
    any_goals exact ⟨_, _, rfl⟩
    exact ⟨_, _, if_neg (by simp [htakes])⟩
  refine ⟨fun hfits hdeaf => ?_, fun hfits hreceives hbusy => ?_, fun hfits hreceives hstarted hopen =>
    ⟨fun hargs => ?_, fun hargs hpending => ?_, fun hargs hpending hfull => ?_⟩, fun hfits => ?_,
    Line.replyAtOnce_busy_eq r group⟩
  · rw [State.request_of_fits hfits, State.takeRequest_of_deaf (by exact hdeaf)]
  · rw [State.request_of_fits hfits, State.takeRequest_of_busy (by exact hreceives) (by exact hbusy)]
  · rw [State.request_of_fits hfits, State.takeRequest_of_open (by exact hreceives) (by exact hstarted) (by exact hopen)]
    dsimp only
    rw [if_pos (by simp [hargs])]
  · rw [State.request_of_fits hfits, State.takeRequest_of_open (by exact hreceives) (by exact hstarted) (by exact hopen)]
    dsimp only
    rw [if_neg (by simp [hargs]), if_pos (by exact hpending)]
  · rw [State.request_of_fits hfits, State.takeRequest_of_open (by exact hreceives) (by exact hstarted) (by exact hopen)]
    dsimp only
    rw [if_neg (by simp [hargs]), if_neg (by rw [Bool.not_eq_true]; exact hpending), if_pos (by exact hfull)]
  · exact ⟨name, by rw [State.request, if_neg (by simp [hfits])]⟩

/-! ## GAUGE_TEST -/

section

variable {s : State} {n : Nat}

theorem gaugeTestStatus_of_unknown (h : n = 6 ∨ 7 < n) : gaugeTestStatus s n = .unknown := if_pos h

/-- Whether a test of an argument meets a channel that bars it (R63). -/
def barsTest (s : State) (n : Nat) : Prop :=
  s.key.key = .off ∨ ∃ i : Fin 6, (decide (n = i.val) || (decide (n = 7) && s.image.gauges[i].enabled)) = true ∧
    (s.image.gauges[i].enabled = false ∨ s.gauges.channels[i].state = .zeroing)

theorem gaugeTestStatus_of_barred (hsix : n ≠ 6) (hle : n ≤ 7) (h : barsTest s n) : gaugeTestStatus s n = .notNow := by
  unfold gaugeTestStatus
  rw [if_neg (by omega)]
  obtain hoff | ⟨i, haddressed, hbarred⟩ := h
  · rw [if_pos hoff]
  split
  · rfl
  · cases henabled : s.image.gauges[i.val].enabled with
    | false =>
      rw [if_pos]
      refine List.any_eq_true.mpr ⟨i, List.mem_finRange i, ?_⟩
      simpa [henabled] using haddressed
    | true =>
      split
      · rfl
      · rw [if_pos]
        refine List.any_eq_true.mpr ⟨i, List.mem_finRange i, ?_⟩
        have hzeroing : s.gauges.channels[i.val].state = .zeroing := by simpa [henabled] using hbarred
        simpa [addressed, henabled, hzeroing] using haddressed

theorem gaugeTestStatus_of_not_barred (hsix : n ≠ 6) (hle : n ≤ 7) (h : ¬ barsTest s n) : gaugeTestStatus s n = .done := by
  rw [barsTest, not_or, not_exists] at h
  obtain ⟨hon, hclear⟩ := h
  unfold gaugeTestStatus
  rw [if_neg (by omega), if_neg hon, if_neg, if_neg]
  · rw [Bool.not_eq_true, List.any_eq_false]
    intro i _ hbars
    simp only [addressed, Bool.and_eq_true, decide_eq_true_eq] at hbars
    obtain ⟨⟨hnamed, henabled⟩, hzeroing⟩ := hbars
    rw [Fin.getElem_fin] at henabled
    exact hclear i ⟨by simpa [henabled] using hnamed, .inr hzeroing⟩
  · rw [Bool.not_eq_true, List.any_eq_false]
    intro i _ hbars
    simp only [Bool.and_eq_true, decide_eq_true_eq, Bool.not_eq_true'] at hbars
    exact hclear i ⟨by simp [hbars.1], .inl hbars.2⟩

/-- Where nothing bars the test, every channel named by number is enabled. -/
theorem addressed_of_not_barred (h : ¬ barsTest s n) (i : Fin 6) :
    addressed s n i = (decide (n = i.val) || (decide (n = 7) && s.image.gauges[i].enabled)) := by
  cases henabled : s.image.gauges[i.val].enabled with
  | true => simp [addressed, henabled]
  | false =>
    have hne : n ≠ i.val := fun he => h (.inr ⟨i, by simp [he], .inl henabled⟩)
    simp [addressed, henabled, hne]

end

/-- Settles O34: the status of the test, and the sweep of what it addresses. -/
theorem gaugeTestSweeps : Obligations.GaugeTestSweeps := by
  intro t r s hhears hentitled h o n addressed barred swept
  have ho : o = _ := State.request_heard s t "GAUGE_TEST" 0x66 r _ hhears
  have hopen (then_ : State → State) : h.unlessStranger r 0x66 r.index then_ = then_ h := by
    obtain hhold | hholder := hentitled
    · exact State.unlessStranger_of_plain _ hhold
    · exact State.unlessStranger_of_holder _ ((State.heard_isHolder s t 0x66 r _).trans hholder)
  have hbarred : barsTest h n ↔ barred := by simp [barsTest, barred, h, addressed]
  rw [ho, hopen]
  refine ⟨fun hn => ?_, fun hsix hle hbars => ?_, fun hsix hle hclear => ?_⟩
  · rw [gaugeTestStatus_of_unknown (n := n) hn]
    exact answersWith_heard _ _
  · rw [gaugeTestStatus_of_barred (n := n) hsix hle (hbarred.mpr hbars)]
    exact answersWith_heard _ _
  · have hswept : h.sweepAddressed n = { h with gauges := { s.gauges with channels := swept } } := by
      have hchannels : (Vector.ofFn fun i => if Machine.addressed h n i then { h.gauges.channels[i] with state := .sweepUp }
          else h.gauges.channels[i]) = swept := by
        refine congrArg Vector.ofFn (funext fun i => ?_)
        rw [addressed_of_not_barred (mt hbarred.mp hclear) i]
        simp [h, addressed]
      rw [State.sweepAddressed, hchannels, State.heard_gauges]
    rw [gaugeTestStatus_of_not_barred (n := n) hsix hle (mt hbarred.mp hclear)]
    dsimp only
    rw [if_pos rfl, hswept]
    exact answersWith_answer (s.heard_waiting t 0x66 r)

/-! ## FAULT_CLEAR -/

/-- A source with an entry queued keeps one through the transmitter's choice and a telegram handed on. -/
theorem Line.has_choose {l : Line} {source : TxSource} (h : l.has source = true) : l.choose.has source = true := by
  obtain ⟨e, he, hsource⟩ := List.any_eq_true.mp h
  unfold Line.choose
  split
  · split
    next src _ =>
      refine List.any_eq_true.mpr ?_
      obtain hmem | ⟨-, hmem⟩ := mem_mapFirst (test := fun e => decide (e.source = src))
        (f := fun e : TxEntry => { e with inFlight := true }) he
      · exact ⟨e, hmem, hsource⟩
      · exact ⟨_, hmem, hsource⟩
    next => exact h
  · exact h

theorem Line.has_handOn {l : Line} {source : TxSource} (e : TxEntry) (h : l.has source = true) :
    (l.handOn e).has source = true := by
  obtain ⟨q, hq, hsource⟩ := List.any_eq_true.mp h
  refine Line.has_choose (List.any_eq_true.mpr ?_)
  dsimp only
  split
  · obtain hmem | ⟨-, hmem⟩ := mem_mapFirst (test := e.matchesEntry)
      (f := fun q => if q.inFlight then { q with followOn := some e.data } else { q with data := e.data }) hq
    · exact ⟨q, hmem, hsource⟩
    · refine ⟨_, hmem, ?_⟩
      split <;> exact hsource
  · exact ⟨q, List.mem_append_left _ hq, hsource⟩

theorem State.reportFault_has {s : State} {source : TxSource} (k : FaultKind) (h : s.line.has source = true) :
    (s.reportFault k).line.has source = true := by
  rw [State.reportFault_line]
  split
  · exact Line.has_handOn _ h
  · exact h

theorem State.accept_has {s : State} {source : TxSource} (origin : Station) (isReply : Bool) (h : s.line.has source = true) :
    (s.accept origin isReply).line.has source = true := by
  by_cases hown : origin = s.key.station
  · rw [State.accept_of_own isReply hown]
    dsimp only
    split
    · exact h
    · exact State.reportFault_has _ h
  · rw [State.accept_of_other isReply hown]
    exact h

/-- The record cleared: the alerts told of FAULT_ANY, and a queued 48H handed the cleared record (R100). -/
theorem State.clearFaults_eq (s : State) :
    s.clearFaults =
      (let x := s.clearFaults
       { s with faults := .cleared, monitor := x.monitor, chime := x.chime, display := x.display, handed := x.handed, line :=
          if s.line.has .fault then s.line.handOn (publishEntry .fault 0x48 (faultBytes .cleared s.image.params.reportMask))
          else s.line }) := by
  unfold State.clearFaults
  cases s.faultAny <;> cases hqueued : s.line.has .fault <;>
    simp [State.reportSources, State.withAlerts, State.publish, State.onLine, hqueued]

theorem State.clearFaults_of_clear {s : State} (h : s.faultAny = false) :
    s.clearFaults.monitor = s.monitor ∧ s.clearFaults.chime = s.chime := by
  unfold State.clearFaults
  cases hqueued : s.line.has .fault <;> simp [h, hqueued, State.publish]

theorem State.clearFaults_line (s : State) :
    s.clearFaults.line = if s.line.has .fault then
      s.line.handOn (publishEntry .fault 0x48 (faultBytes .cleared s.image.params.reportMask)) else s.line := by
  rw [State.clearFaults_eq]

/-- The clearing of the record moves the line in its traffic only, and no pending answer. -/
theorem State.clearFaults_traffic (s : State) : s.clearFaults.line = s.line.withTraffic s.clearFaults.line := by
  rw [State.clearFaults_line]
  split
  · exact Line.handOn_traffic _ _
  · rfl

theorem State.clearFaults_pending (s : State) : s.clearFaults.line.pending = s.line.pending := by
  rw [State.clearFaults_line]
  split
  · exact Line.handOn_pending _ _
  · rfl

/-- The close of an event that changed the fault record, the alerts and the line. -/
theorem State.close_besides {b e h : State} (he : e = { h with
      faults := e.faults, monitor := e.monitor, chime := e.chime, display := e.display, handed := e.handed, line := e.line })
    (hl : e.line = h.line.withTraffic e.line) :
    let x := State.close b e
    x = State.besides { h with faults := x.faults, monitor := x.monitor, chime := x.chime } x := by
  intro x
  have hline : x.line = h.line.withTraffic x.line := Line.traffic_trans hl (State.close_line b e)
  have hclosed : x = { e with line := h.line.withTraffic x.line, display := x.display, handed := .nothing } := by
    refine (State.close_traffic b e).trans ?_
    rw [State.withTraffic, ← State.close_line b e, ← State.close_display b e]
    exact congrArg (fun l => { e with line := l, display := x.display, handed := .nothing }) hline
  have hfields : x.faults = e.faults ∧ x.monitor = e.monitor ∧ x.chime = e.chime := by simp [x]
  obtain ⟨hfaults, hmonitor, hchime⟩ := hfields
  rw [hfaults, hmonitor, hchime]
  exact hclosed.trans
    (congrArg (fun y : State => { y with line := h.line.withTraffic x.line, display := x.display, handed := .nothing }) he)

theorem faultBytes_cleared (mask : Word) : faultBytes .cleared mask = [0, 0, 0xFF, 0] := by
  simp [faultBytes, reportedSet, FaultRecord.cleared, bytesOf]

/-- Settles O33: the cleared record, which a queued 48H takes and the close keeps. -/
theorem faultClearEmptiesTheRecord : Obligations.FaultClearEmptiesTheRecord := by
  intro t r s hhears hphase hstation
  let h := s.heard t 0x65 r
  let e := h.clearFaults.answer r.asker 0x65 r.index .done
  have hexec : exec (.faultClear t r) s = .next (State.close s e) := by
    refine (State.request_heard s t "FAULT_CLEAR" 0x65 r _ hhears).trans ?_
    rw [State.ifHolder_of_holder _ (State.heard_holder_of hphase hstation)]
  have hwaits : (⟨r.asker, 0x65, r.index, .waiting⟩ : PendingAnswer) ∈ h.clearFaults.line.pending := by
    rw [State.clearFaults_pending]
    exact s.heard_waiting t 0x65 r
  have hframe : e = { h with
      faults := e.faults, monitor := e.monitor, chime := e.chime, display := e.display, handed := e.handed, line := e.line } := by
    have hclear := State.clearFaults_eq h
    exact congrArg (fun y : State => { y with line := e.line, faults := e.faults }) hclear
  have hline : e.line = h.line.withTraffic e.line :=
    Line.traffic_trans (State.clearFaults_traffic h) (Line.answer_traffic _ _ _ _ _ _)
  refine ⟨State.close s e, hexec, State.close_keeps s e r _ _ _ (Line.answered_answer _ r _ _ _ hwaits), ?_,
    State.close_besides hframe hline, fun hqueued => ?_, fun hclear => ?_⟩
  · rw [State.close_faults]
    show h.clearFaults.faults = _
    rw [State.clearFaults_eq]
    rfl
  · have hheard : h.line.has .fault = true := State.accept_has (s := s.stamped t) r.asker false hqueued
    have hcleared : h.clearFaults.line.Publishes 0x48 [0, 0, 0xFF, 0] := by
      rw [State.clearFaults_line, if_pos hheard, faultBytes_cleared]
      exact Line.publishes_handOn _ _ _ _
    obtain ⟨q, hq, ⟨hkind, hgroup, -⟩, hdata⟩ := (State.close_keepsPublished (by decide) s e).keeps _
      ((Line.KeepsPublished.answer _ _ _ _ _ _).keeps _ hcleared)
    exact ⟨q, hq, hkind, hgroup, hdata⟩
  · rw [State.close_monitor, State.close_chime]
    exact State.clearFaults_of_clear hclear

end Sys2Proof.Machine
end

section
/-! The registrations of the line through the close of an event, and the asks of the watched groups (O23). -/

namespace Sys2Proof.Machine

/-! ## Keys and what a registration was last sent -/

/-- The key of a registration: asker, group and index (R185). -/
def StandingAsk.key (r : StandingAsk) : Station × Byte × Byte := (r.asker, r.group, r.index)

theorem StandingAsk.isFor_iff (r : StandingAsk) (k : Station × Byte × Byte) : r.isFor k.1 k.2.1 k.2.2 = true ↔ r.key = k := by
  obtain ⟨a, g, i⟩ := k
  simp [isFor, key, and_assoc]

/-- Whether a standing reply of a key is queued and not in flight. -/
def Line.queuesReply (k : Station × Byte × Byte) (l : Line) : Prop :=
  ∃ e ∈ l.queue, (e.source = .standing ∧ e.group = k.2.1 ∧ e.target = some k.1 ∧ e.index = k.2.2) ∧ e.inFlight = false

theorem StandingAsk.queuedIn_iff (r : StandingAsk) (l : Line) : l.queue.any r.queuedIn = true ↔ l.queuesReply r.key := by
  simp [queuedIn, Line.queuesReply, key, and_assoc]

/-- The registrations of a key were last sent the bytes `v`. -/
structure Line.Reads (k : Station × Byte × Byte) (v : List Byte) (l : Line) : Prop where
  last : ∀ y ∈ l.standing, y.key = k → y.last = v

namespace Line

variable {l : Line} {k : Station × Byte × Byte} {v : List Byte}

theorem choose_of_busy (h : l.idle = false) : l.choose = l := if_neg (by simp [h])

@[simp] theorem setStanding_keys (r : StandingAsk) (l : Line) :
    (l.setStanding r).standing.map StandingAsk.key = l.standing.map StandingAsk.key := by
  rw [setStanding, List.map_map]
  refine List.map_congr_left fun y _ => ?_
  rw [Function.comp_apply]
  split
  next h => exact ((y.isFor_iff r.key).mp h).symm
  next => rfl

/-- What stands in the list for a key after a registration is set. -/
theorem mem_setStanding {r y : StandingAsk} (h : y ∈ (l.setStanding r).standing) : y = r ∨ (y ∈ l.standing ∧ y.key ≠ r.key) := by
  obtain ⟨x, hx, rfl⟩ := List.mem_map.mp h
  split
  next => exact .inl rfl
  next hne => exact .inr ⟨hx, fun he => hne ((x.isFor_iff r.key).mpr he)⟩

theorem handOn_of_busy (e : TxEntry) (h : l.idle = false) : (l.handOn e).idle = false := by
  rw [handOn, choose_of_busy (by exact h)]
  exact h

theorem queuesReply_handOn (e : TxEntry) (hbusy : l.idle = false) (h : l.queuesReply k) : (l.handOn e).queuesReply k := by
  obtain ⟨q, hq, hkey, hflight⟩ := h
  rw [handOn, choose_of_busy (by exact hbusy)]
  unfold queuesReply
  dsimp only
  split
  · obtain hmem | ⟨-, hmem⟩ := mem_mapFirst (test := e.matchesEntry)
      (f := fun q => if q.inFlight then { q with followOn := some e.data } else { q with data := e.data }) hq
    · exact ⟨q, hmem, hkey, hflight⟩
    · rw [if_neg (by simp [hflight])] at hmem
      exact ⟨_, hmem, hkey, hflight⟩
  · exact ⟨q, List.mem_append_left _ hq, hkey, hflight⟩

/-- A reply that joins a busy line stands in its queue, not in flight. -/
theorem queuesReply_placeStanding {now : Stamp} {r : StandingAsk} {d : List Byte} (hbusy : l.idle = false)
    (hroom : l.canReply .standing r.asker r.group = true) : (l.placeStanding now r d).queuesReply r.key := by
  have hnone : l.queue.any (replyEntry .standing r.asker r.group r.index .done d).matchesEntry = false :=
    List.any_eq_false.mpr fun q hq => by rw [canReply_noMatch hroom q hq]; exact Bool.false_ne_true
  rw [placeStanding, handOn, choose_of_busy (by exact hbusy)]
  refine ⟨replyEntry .standing r.asker r.group r.index .done d, ?_, ⟨rfl, rfl, rfl, rfl⟩, rfl⟩
  show _ ∈ if l.queue.any _ then _ else _
  rw [if_neg (by rw [hnone]; exact Bool.false_ne_true)]
  exact List.mem_append_right _ List.mem_cons_self

/-- The four things a report can do to one registration (R186). -/
theorem reportStanding_cases (now : Stamp) (r : StandingAsk) (d : List Byte) (l : Line) :
    (d = r.last ∧ l.reportStanding now r d = l) ∨
    (d ≠ r.last ∧ l.queuesReply r.key ∧ l.reportStanding now r d =
      { l with queue := mapFirst r.queuedIn (fun e => { e with data := replyData r.asker .done d }) l.queue }.setStanding
        { r with last := d }) ∨
    (d ≠ r.last ∧ ¬ l.queuesReply r.key ∧ l.reportStanding now r d = l.setStanding { r with due := true }) ∨
    (d ≠ r.last ∧ l.canReply .standing r.asker r.group = true ∧ l.reportStanding now r d = l.placeStanding now r d) := by
  unfold reportStanding
  split
  next h => exact .inl ⟨h, rfl⟩
  next hne =>
    split
    next hq => exact .inr (.inl ⟨hne, (r.queuedIn_iff l).mp hq, rfl⟩)
    next hq =>
      split
      next => exact .inr (.inr (.inl ⟨hne, fun h => hq ((r.queuedIn_iff l).mpr h), rfl⟩))
      next hroom =>
        simp only [Bool.or_eq_true, not_or, Bool.not_eq_true', Bool.not_eq_false] at hroom
        obtain ⟨-, hroom⟩ := hroom
        exact .inr (.inr (.inr ⟨hne, hroom, rfl⟩))

theorem reportStanding_busy (now : Stamp) (r : StandingAsk) (d : List Byte) (hbusy : l.idle = false) :
    (l.reportStanding now r d).idle = false := by
  obtain ⟨-, h⟩ | ⟨-, -, h⟩ | ⟨-, -, h⟩ | ⟨-, -, h⟩ := reportStanding_cases now r d l <;> rw [h]
  · exact hbusy
  · exact hbusy
  · exact hbusy
  · exact handOn_of_busy _ hbusy

theorem reportStanding_keys (now : Stamp) (r : StandingAsk) (d : List Byte) (l : Line) :
    (l.reportStanding now r d).standing.map StandingAsk.key = l.standing.map StandingAsk.key := by
  obtain ⟨-, h⟩ | ⟨-, -, h⟩ | ⟨-, -, h⟩ | ⟨-, -, h⟩ := reportStanding_cases now r d l <;> rw [h]
  · exact setStanding_keys { r with last := d } _
  · exact setStanding_keys { r with due := true } l
  · rw [placeStanding, handOn_standing]
    exact setStanding_keys { r with last := d, spacing := _, due := false } l

theorem queuesReply_reportStanding (now : Stamp) (r : StandingAsk) (d : List Byte) (hbusy : l.idle = false)
    (hk : l.queuesReply k) : (l.reportStanding now r d).queuesReply k := by
  obtain ⟨-, h⟩ | ⟨-, -, h⟩ | ⟨-, -, h⟩ | ⟨-, -, h⟩ := reportStanding_cases now r d l <;> rw [h]
  · exact hk
  · obtain ⟨q, hq, hkey, hflight⟩ := hk
    obtain hmem | ⟨-, hmem⟩ := mem_mapFirst (test := r.queuedIn) (f := fun e => { e with data := replyData r.asker .done d }) hq
    · exact ⟨q, hmem, hkey, hflight⟩
    · exact ⟨_, hmem, hkey, hflight⟩
  · exact hk
  · exact queuesReply_handOn _ hbusy hk

/-- A report leaves the registrations of other keys. -/
theorem mem_reportStanding {now : Stamp} {r y : StandingAsk} {d : List Byte} (h : y ∈ (l.reportStanding now r d).standing) :
    y ∈ l.standing ∨ (y.key = r.key ∧ (y.last = d ∨ (¬ l.queuesReply r.key ∧ y.last = r.last))) := by
  obtain ⟨-, hl⟩ | ⟨-, -, hl⟩ | ⟨-, hq, hl⟩ | ⟨-, -, hl⟩ := reportStanding_cases now r d l <;> rw [hl] at h
  · exact .inl h
  · obtain rfl | ⟨hmem, -⟩ := mem_setStanding h
    · exact .inr ⟨rfl, .inl rfl⟩
    · exact .inl hmem
  · obtain rfl | ⟨hmem, -⟩ := mem_setStanding h
    · exact .inr ⟨rfl, .inr ⟨hq, rfl⟩⟩
    · exact .inl hmem
  · rw [placeStanding, handOn_standing] at h
    obtain rfl | ⟨hmem, -⟩ := mem_setStanding h
    · exact .inr ⟨rfl, .inl rfl⟩
    · exact .inl hmem

theorem retryStanding_cases (now : Stamp) (r : StandingAsk) (d : List Byte) (l : Line) :
    (d = r.last ∧ l.retryStanding now r d = l.setStanding { r with due := false }) ∨
    l.retryStanding now r d = l.placeStanding now r d ∨ l.retryStanding now r d = l := by
  unfold retryStanding
  split
  next h => exact .inl ⟨h, rfl⟩
  next =>
    split
    · exact .inr (.inl rfl)
    · exact .inr (.inr rfl)

theorem retryStanding_keys (now : Stamp) (r : StandingAsk) (d : List Byte) (l : Line) :
    (l.retryStanding now r d).standing.map StandingAsk.key = l.standing.map StandingAsk.key := by
  obtain ⟨-, h⟩ | h | h := retryStanding_cases now r d l <;> rw [h]
  · exact setStanding_keys { r with due := false } l
  · rw [placeStanding, handOn_standing]
    exact setStanding_keys { r with last := d, spacing := _, due := false } l

theorem Reads.retryStanding {r : StandingAsk} {d : List Byte} (h : l.Reads k v) (hd : r.key = k → d = v) (now : Stamp) :
    (l.retryStanding now r d).Reads k v := by
  refine ⟨fun y hy hkey => ?_⟩
  obtain ⟨hlast, hl⟩ | hl | hl := retryStanding_cases now r d l <;> rw [hl] at hy
  · obtain rfl | ⟨hmem, -⟩ := mem_setStanding hy
    · exact hlast.symm.trans (hd hkey)
    · exact h.last y hmem hkey
  · rw [placeStanding, handOn_standing] at hy
    obtain rfl | ⟨hmem, -⟩ := mem_setStanding hy
    · exact hd hkey
    · exact h.last y hmem hkey
  · exact h.last y hy hkey

/-! ## What is reported to the registrations in turn -/

section

variable {now : Stamp} {f : Line → StandingAsk → Line} (hf : ∀ l r, f l r = l ∨ ∃ d, f l r = l.reportStanding now r d)
include hf

theorem foldl_keys (xs : List StandingAsk) (l : Line) :
    (xs.foldl f l).standing.map StandingAsk.key = l.standing.map StandingAsk.key := by
  induction xs generalizing l with
  | nil => rfl
  | cons r xs ih =>
    refine (ih (f l r)).trans ?_
    obtain h | ⟨d, h⟩ := hf l r <;> rw [h]
    exact reportStanding_keys now r d l

/-- A step keeps a busy line busy, and a standing reply queued. -/
theorem step_queuesReply (hbusy : l.idle = false) (r : StandingAsk) :
    (f l r).idle = false ∧ (l.queuesReply k → (f l r).queuesReply k) := by
  obtain h | ⟨d, h⟩ := hf l r <;> rw [h]
  · exact ⟨hbusy, id⟩
  · exact ⟨reportStanding_busy now r d hbusy, queuesReply_reportStanding now r d hbusy⟩

/-- Bytes shown in passing: a registration of the key reads what it read, or a standing reply is queued for it. -/
theorem foldl_shows (xs : List StandingAsk) (l : Line) (hbusy : l.idle = false) (hl : l.queuesReply k ∨ l.Reads k v)
    (hxs : ∀ r ∈ xs, r.key = k → l.queuesReply k ∨ r.last = v) :
    (xs.foldl f l).idle = false ∧ ((xs.foldl f l).queuesReply k ∨ (xs.foldl f l).Reads k v) := by
  induction xs generalizing l with
  | nil => exact ⟨hbusy, hl⟩
  | cons r xs ih =>
    obtain ⟨hbusy', hmono⟩ := step_queuesReply (k := k) hf hbusy r
    refine ih (f l r) hbusy' ?_ fun x hx hkey => (hxs x (List.mem_cons_of_mem _ hx) hkey).imp_left hmono
    by_cases hq : l.queuesReply k
    · exact .inl (hmono hq)
    have hreads := hl.resolve_left hq
    obtain h | ⟨d, h⟩ := hf l r <;> rw [h]
    · exact .inr hreads
    by_cases hkey : r.key = k
    · obtain ⟨-, h⟩ | ⟨-, hqueued, -⟩ | ⟨-, -, h⟩ | ⟨-, hroom, h⟩ := reportStanding_cases now r d l
      · rw [h]
        exact .inr hreads
      · exact absurd (hkey ▸ hqueued) hq
      · rw [h]
        refine .inr ⟨fun y hy hyk => ?_⟩
        obtain rfl | ⟨hmem, -⟩ := mem_setStanding hy
        · exact (hxs r List.mem_cons_self hkey).resolve_left hq
        · exact hreads.last y hmem hyk
      · rw [h]
        exact .inl (hkey ▸ queuesReply_placeStanding hbusy hroom)
    · refine .inr ⟨fun y hy hyk => ?_⟩
      obtain hmem | ⟨hsame, -⟩ := mem_reportStanding hy
      · exact hreads.last y hmem hyk
      · exact absurd (hsame.symm.trans hyk) hkey

/-- Steps that leave a key alone leave what it reads. -/
theorem foldl_reads_of_untouched (hk : ∀ l r, r.key = k → f l r = l) (xs : List StandingAsk) (l : Line) (h : l.Reads k v) :
    (xs.foldl f l).Reads k v := by
  induction xs generalizing l with
  | nil => exact h
  | cons r xs ih =>
    refine ih (f l r) ?_
    by_cases hkey : r.key = k
    · rwa [hk l r hkey]
    obtain hl | ⟨d, hl⟩ := hf l r <;> rw [hl]
    · exact h
    · refine ⟨fun y hy hyk => ?_⟩
      obtain hmem | ⟨hsame, -⟩ := mem_reportStanding hy
      · exact h.last y hmem hyk
      · exact absurd (hsame.symm.trans hyk) hkey

/-- Steps that report `v` to a key leave its registrations reading `v`. -/
theorem foldl_reads_of_reported (hk : ∀ l r, r.key = k → f l r = l.reportStanding now r v) (xs : List StandingAsk) (l : Line)
    (hbusy : l.idle = false) (hxs : ∀ r ∈ xs, r.key = k → l.queuesReply k ∨ r.last = v)
    (hl : ∀ y ∈ l.standing, y.key = k → y.last = v ∨ y ∈ xs) : (xs.foldl f l).Reads k v := by
  induction xs generalizing l with
  | nil => exact ⟨fun y hy hyk => (hl y hy hyk).resolve_right (by simp)⟩
  | cons r xs ih =>
    obtain ⟨hbusy', hmono⟩ := step_queuesReply (k := k) hf hbusy r
    refine ih (f l r) hbusy' (fun x hx hkey => (hxs x (List.mem_cons_of_mem _ hx) hkey).imp_left hmono) fun y hy hyk => ?_
    have hrest (hmem : y ∈ l.standing) (hne : y ≠ r) : y.last = v ∨ y ∈ xs :=
      (hl y hmem hyk).imp_right fun h => (List.mem_cons.mp h).resolve_left hne
    by_cases hkey : r.key = k
    · rw [hk l r hkey] at hy
      obtain ⟨hlast, h⟩ | ⟨-, -, h⟩ | ⟨hne, hq, -⟩ | ⟨-, -, h⟩ := reportStanding_cases now r v l
      · rw [h] at hy
        by_cases hyr : y = r
        · exact .inl (hyr ▸ hlast.symm)
        · exact hrest hy hyr
      · rw [h] at hy
        obtain rfl | ⟨-, hother⟩ := mem_setStanding hy
        · exact .inl rfl
        · exact absurd (hyk.trans hkey.symm) hother
      · exact absurd ((hxs r List.mem_cons_self hkey).resolve_left fun h => hq (hkey ▸ h)).symm hne
      · rw [h, placeStanding, handOn_standing] at hy
        obtain rfl | ⟨-, hother⟩ := mem_setStanding hy
        · exact .inl rfl
        · exact absurd (hyk.trans hkey.symm) hother
    · have hyr : y ≠ r := fun h => hkey (h ▸ hyk)
      obtain h | ⟨d, h⟩ := hf l r <;> rw [h] at hy
      · exact hrest hy hyr
      · obtain hmem | ⟨hsame, -⟩ := mem_reportStanding hy
        · exact hrest hmem hyr
        · exact absurd (hsame.symm.trans hyk) hkey

end

end Line

/-! ## The registrations through the close -/

section

variable {b e x : State} {k : Station × Byte × Byte} {v : List Byte}

/-- States that agree in all but the line and the display are watched alike. -/
theorem watchedAnswer_of_besides (h : x = { e with line := x.line, display := x.display, handed := x.handed }) (g i : Byte) :
    watchedAnswer x g i = watchedAnswer e g i := by
  rw [h]
  rfl

/-- A 40H handed on with the key OFF leaves the registrations, and a busy line busy. -/
theorem State.statusOnChange_standing (b e : State) :
    (State.statusOnChange b e).line.standing = e.line.standing ∧
    (e.line.idle = false → (State.statusOnChange b e).line.idle = false) := by
  unfold State.statusOnChange
  split
  next hc =>
    clear hc
    generalize State.statusChanges b e = xs
    induction xs generalizing e with
    | nil => exact ⟨rfl, id⟩
    | cons d xs ih =>
      obtain ⟨hstanding, hbusy⟩ := ih (e := e.publish .status 0x40 d)
      exact ⟨hstanding.trans (Line.handOn_standing _ _), fun h => hbusy (Line.handOn_of_busy _ h)⟩
  next => exact ⟨rfl, id⟩

theorem Line.joinReady_standing (l : Line) :
    l.joinReady.standing = l.standing ∧ (l.idle = false → l.joinReady.idle = false) := by
  have hone (l : Line) (p : PendingAnswer) :
      (l.joinOne p).standing = l.standing ∧ (l.idle = false → (l.joinOne p).idle = false) := by
    unfold joinOne
    split
    · split
      · exact ⟨handOn_standing _ _, fun h => handOn_of_busy _ h⟩
      · exact ⟨rfl, id⟩
    · exact ⟨rfl, id⟩
  unfold joinReady
  generalize l.pending = xs
  induction xs generalizing l with
  | nil => exact ⟨rfl, id⟩
  | cons p xs ih =>
    obtain ⟨hstanding, hbusy⟩ := ih (l.joinOne p)
    obtain ⟨hstanding', hbusy'⟩ := hone l p
    exact ⟨hstanding.trans hstanding', hbusy ∘ hbusy'⟩

/-- One showing of six bytes of STATUS to the registrations of 40H, as a step over them. -/
def showStatus (now : Stamp) (d : List Byte) (l : Line) (r : StandingAsk) : Line :=
  let a := statusAnswer d r.index
  if r.group = 0x40 ∧ a.1 = .done then l.reportStanding now r a.2 else l

theorem showStatus_step (now : Stamp) (d : List Byte) (l : Line) (r : StandingAsk) :
    showStatus now d l r = l ∨ ∃ d', showStatus now d l r = l.reportStanding now r d' := by
  unfold showStatus
  dsimp only
  split
  · exact .inr ⟨_, rfl⟩
  · exact .inl rfl

theorem watchStatus_line_eq (x : State) (d : List Byte) :
    (watchStatus x d).line = x.line.standing.foldl (showStatus x.now d) x.line := rfl

/-- One report of the owners to the registrations, as a step over them. -/
def showStanding (b e : State) (l : Line) (r : StandingAsk) : Line :=
  let a := watchedAnswer e r.group r.index
  if ownerReports b e r.group r.index ∧ a.1 = .done then l.reportStanding e.now r a.2 else l

theorem showStanding_step (b e : State) (l : Line) (r : StandingAsk) :
    showStanding b e l r = l ∨ ∃ d, showStanding b e l r = l.reportStanding e.now r d := by
  unfold showStanding
  dsimp only
  split
  · exact .inr ⟨_, rfl⟩
  · exact .inl rfl

theorem watchStanding_line_eq (b e : State) :
    (watchStanding b e).line = e.line.standing.foldl (showStanding b e) e.line := rfl

/-- The bytes of the changes are shown in passing. -/
theorem watchChanges_shows (hbusy : e.line.idle = false) (h : e.line.queuesReply k ∨ e.line.Reads k v) :
    (watchChanges e).line.idle = false ∧ ((watchChanges e).line.queuesReply k ∨ (watchChanges e).line.Reads k v) := by
  unfold watchChanges
  generalize e.handedStatus = xs
  induction xs generalizing e with
  | nil => exact ⟨hbusy, h⟩
  | cons d xs ih =>
    obtain ⟨hbusy', h'⟩ := Line.foldl_shows (showStatus_step e.now d) e.line.standing e.line hbusy h
      fun r hr hkey => h.imp_right fun hreads => hreads.last r hr hkey
    exact ih (e := watchStatus e d) hbusy' h'

/-- A key of another group than 40H is shown none of them. -/
theorem watchChanges_reads (hgroup : k.2.1 ≠ 0x40 ∨ e.handed.status = []) (h : e.line.Reads k v) :
    (watchChanges e).line.Reads k v := by
  obtain hgroup | hnone := hgroup
  · unfold watchChanges
    generalize e.handedStatus = xs
    induction xs generalizing e with
    | nil => exact h
    | cons d xs ih =>
      refine ih (e := watchStatus e d) ?_
      refine Line.foldl_reads_of_untouched (showStatus_step e.now d) (fun l r hkey => if_neg fun hc => ?_) _ _ h
      exact hgroup (by rw [← hkey]; exact hc.1)
  · rw [show watchChanges e = e by simp [watchChanges, State.handedStatus, hnone]]
    exact h

theorem watchChanges_keys (e : State) :
    (watchChanges e).line.standing.map StandingAsk.key = e.line.standing.map StandingAsk.key := by
  unfold watchChanges
  generalize e.handedStatus = xs
  induction xs generalizing e with
  | nil => rfl
  | cons d xs ih =>
    exact (ih (watchStatus e d)).trans (Line.foldl_keys (showStatus_step e.now d) e.line.standing e.line)

/-- One further try of the due registrations, as a step over them. -/
def retryDue (c : StandingAsk → Bool) (e : State) (l : Line) (r : StandingAsk) : Line :=
  if r.due && c r then l.retryStanding e.now r (watchedAnswer e r.group r.index).2 else l

theorem retryStandings_line_eq (c : StandingAsk → Bool) (e : State) :
    (retryStandings c e).line = e.line.standing.foldl (retryDue c e) e.line := rfl

theorem retryStandings_keys (c : StandingAsk → Bool) (e : State) :
    (retryStandings c e).line.standing.map StandingAsk.key = e.line.standing.map StandingAsk.key := by
  have hstep (l : Line) (r : StandingAsk) : (retryDue c e l r).standing.map StandingAsk.key = l.standing.map StandingAsk.key := by
    unfold retryDue
    split
    · exact Line.retryStanding_keys _ _ _ l
    · rfl
  rw [retryStandings_line_eq]
  exact List.foldlRecOn (motive := fun l : Line => l.standing.map StandingAsk.key = e.line.standing.map StandingAsk.key)
    e.line.standing _ rfl fun l hl r _ => (hstep l r).trans hl

theorem retryStandings_reads (c : StandingAsk → Bool) (hv : (watchedAnswer e k.2.1 k.2.2).2 = v) (h : e.line.Reads k v) :
    (retryStandings c e).line.Reads k v := by
  rw [retryStandings_line_eq]
  refine List.foldlRecOn (motive := fun l : Line => l.Reads k v) e.line.standing _ h fun l hl r _ => ?_
  unfold retryDue
  split
  · refine hl.retryStanding (fun hkey => ?_) _
    rw [← hv, ← hkey]
    rfl
  · exact hl

/-- The close keeps the keys of the registrations (R185). -/
theorem State.close_keys (b e : State) :
    (State.close b e).line.standing.map StandingAsk.key = e.line.standing.map StandingAsk.key := by
  unfold State.close
  dsimp only
  rw [retryStandings_keys]
  dsimp only
  rw [watchStanding_line_eq, Line.foldl_keys (showStanding_step b _), watchChanges_keys, State.onLine_line,
    (Line.joinReady_standing _).1, (State.statusOnChange_standing b e.settleDisplay).1]
  rfl

/-- Registrations of a key that read what they would now be answered with do so still when the event has closed. -/
theorem State.close_reads {b : State} (hbusy : e.line.idle = false) (hv : watchedAnswer e k.2.1 k.2.2 = (.done, v))
    (h : e.line.Reads k v) : (State.close b e).line.Reads k v := by
  unfold State.close
  dsimp only
  generalize hjoined : (State.statusOnChange b e.settleDisplay).onLine Line.joinReady = joined
  generalize hwatched : watchChanges joined = watched
  have hsame (x : State) (hx : x = { e with line := x.line, display := x.display, handed := x.handed }) :
      watchedAnswer x k.2.1 k.2.2 = (.done, v) := (watchedAnswer_of_besides hx _ _).trans hv
  have hframe : watched = { e with line := watched.line, display := watched.display, handed := watched.handed } := by
    refine State.eq_besides ?_ ?_ ?_ ?_ ?_ ?_ ?_ ?_ ?_ ?_ ?_ ?_ ?_ ?_ ?_ <;> simp [← hwatched, ← hjoined]
  have hreads : joined.line.Reads k v := by
    refine ⟨fun y hy => h.last y ?_⟩
    rw [← hjoined, State.onLine_line, (Line.joinReady_standing _).1, (State.statusOnChange_standing _ _).1] at hy
    exact hy
  have hidle : joined.line.idle = false := by
    rw [← hjoined]
    exact (Line.joinReady_standing _).2 ((State.statusOnChange_standing _ _).2 hbusy)
  have hstood : (watchStanding b watched).line.Reads k v := by
    rw [watchStanding_line_eq]
    cases hreports : ownerReports b watched k.2.1 k.2.2 with
    | true =>
      obtain ⟨hbusy', hshows⟩ := watchChanges_shows hidle (.inr hreads)
      rw [hwatched] at hbusy' hshows
      refine Line.foldl_reads_of_reported (showStanding_step b watched) (fun l r hkey => ?_) _ _ hbusy'
        (fun r hr hkey => hshows.imp_right fun hl => hl.last r hr hkey) fun y hy _ => .inr hy
      have hr : watchedAnswer watched r.group r.index = (.done, v) := by
        rw [← hsame watched hframe, ← hkey]
        rfl
      have hrep : ownerReports b watched r.group r.index = true := by
        rw [← hreports, ← hkey]
        rfl
      rw [showStanding, hr]
      exact if_pos ⟨hrep, rfl⟩
    | false =>
      have hgroup : k.2.1 ≠ 0x40 ∨ joined.handed.status = [] := by
        have hnot := mt (ownerReports_iff b watched k.2.1 k.2.2).mpr (by simp [hreports])
        have hhanded : watched.handed = joined.handed := by simp [← hwatched]
        rw [hhanded] at hnot
        by_contra hboth
        exact hnot (.inr (.inl (by simpa [not_or] using hboth)))
      have hl := watchChanges_reads hgroup hreads
      rw [hwatched] at hl
      refine Line.foldl_reads_of_untouched (showStanding_step b watched) (fun l r hkey => ?_) _ _ hl
      have hrep : ownerReports b watched r.group r.index = false := by
        rw [← hreports, ← hkey]
        rfl
      exact if_neg fun hc => by rw [hrep] at hc; exact nomatch hc.1
  have hv' : (watchedAnswer (watchStanding b watched) k.2.1 k.2.2).2 = v := by
    have hstanding : watchedAnswer (watchStanding b watched) k.2.1 k.2.2 = watchedAnswer watched k.2.1 k.2.2 :=
      watchedAnswer_of_besides (by refine State.eq_besides ?_ ?_ ?_ ?_ ?_ ?_ ?_ ?_ ?_ ?_ ?_ ?_ ?_ ?_ ?_ <;> simp) _ _
    rw [hstanding, hsame watched hframe]
  exact retryStandings_reads _ hv' hstood

end

end Sys2Proof.Machine
end

section
/-! The asks of the watched groups (O23). -/

namespace Sys2Proof.Machine

section

variable {s : State} {t : Stamp} {g : Byte} {r : Request}

@[simp] theorem Line.answer_standing (a : Station) (g i : Byte) (st : Status) (v : List Byte) (l : Line) :
    (l.answer a g i st v).standing = l.standing := by
  unfold Line.answer
  dsimp only
  split <;> rfl

@[simp] theorem Line.answer_idle (a : Station) (g i : Byte) (st : Status) (v : List Byte) (l : Line) :
    (l.answer a g i st v).idle = l.idle := by
  unfold Line.answer
  dsimp only
  split <;> rfl

/-- A telegram accepted has ended the idle line (R172). -/
theorem State.accept_idle (s : State) (origin : Station) (isReply : Bool) : (s.accept origin isReply).line.idle = false := by
  by_cases hown : origin = s.key.station
  · rw [State.accept_of_own isReply hown]
    dsimp only
    split
    · rfl
    · rw [State.reportFault_line]
      split
      · exact Line.handOn_of_busy _ rfl
      · rfl
  · rw [State.accept_of_other isReply hown]

theorem State.heard_idle (s : State) (t : Stamp) (g : Byte) (r : Request) : (s.heard t g r).line.idle = false :=
  State.accept_idle _ _ _

/-- The key of a request's registration. -/
def Request.key (r : Request) (g : Byte) : Station × Byte × Byte := (r.asker, g, r.index)

/-- An owner that moves the registrations and answers a request heard. -/
theorem answersWith_onLine {f : Line → Line} (hf : ∀ l, f l = l.withTraffic (f l)) (hpending : ∀ l, (f l).pending = l.pending)
    (st : Status) (v : List Byte) :
    AnswersWith (.next (State.close s (((s.heard t g r).onLine f).answer r.asker g r.index st v))) (s.heard t g r) r g st v :=
  answersWith_close rfl (Line.traffic_trans (hf _) (Line.answer_traffic _ _ _ _ _ _)) rfl
    (Line.answered_answer _ _ _ _ _ (by rw [State.onLine_line, hpending]; exact s.heard_waiting t g r))

/-- What the watched groups read does not depend on the line. -/
theorem watchedAnswer_onLine_answer (x : State) (f : Line → Line) (a : Station) (g i : Byte) (st : Status) (v : List Byte)
    (g' i' : Byte) : watchedAnswer ((x.onLine f).answer a g i st v) g' i' = watchedAnswer x g' i' := rfl

/-- The keys of the registrations after the answer and the close are those that the owner left. -/
theorem close_answer_keys (b e : State) (a : Station) (g i : Byte) (st : Status) (v : List Byte) :
    (State.close b (e.answer a g i st v)).line.standing.map StandingAsk.key = e.line.standing.map StandingAsk.key := by
  rw [State.close_keys, State.answer, State.onLine_line, Line.answer_standing]

end

/-! ## Registering -/

section

variable {l : Line} {now : Stamp} {a : Station} {g i : Byte} {v : List Byte}

theorem Line.register_of_known (h : l.standing.any (fun x => x.isFor a g i) = true) :
    ∃ r : StandingAsk, r.key = (a, g, i) ∧ r.last = v ∧ l.register now a g i v = (.done, l.setStanding r) := by
  obtain ⟨x, hx, hfor⟩ := List.any_eq_true.mp h
  unfold Line.register
  split
  next r hr => exact ⟨{ r with last := v }, (r.isFor_iff (a, g, i)).mp (List.find?_some (p := fun x : StandingAsk => x.isFor a g i) hr), rfl, rfl⟩
  next hnone => exact absurd hfor (List.find?_eq_none.mp hnone x hx)

theorem Line.find_of_unknown (h : l.standing.any (fun x => x.isFor a g i) = false) :
    l.standing.find? (fun x => x.isFor a g i) = none :=
  List.find?_eq_none.mpr (List.any_eq_false.mp h)

theorem Line.register_of_room (h : l.standing.any (fun x => x.isFor a g i) = false) (hroom : l.standing.length < 4) :
    l.register now a g i v = (.done, { l with standing := l.standing ++
      [{ asker := a, group := g, index := i, last := v, spacing := startTimer now 100, due := false }] }) := by
  rw [Line.register, Line.find_of_unknown h]
  exact if_pos hroom

theorem Line.register_of_full (h : l.standing.any (fun x => x.isFor a g i) = false) (hfull : 4 ≤ l.standing.length) :
    l.register now a g i v = (.busy, l) := by
  rw [Line.register, Line.find_of_unknown h]
  exact if_neg (by omega)

/-- A line with other registrations. -/
def Line.withStanding (xs : List StandingAsk) (l : Line) : Line := { l with standing := xs }

/-- A registration that finds its key or room: the key reads the bytes answered, and only a new key joins the list. -/
theorem Line.register_reads (h : l.standing.any (fun x => x.isFor a g i) = true ∨ l.standing.length < 4) :
    ∃ xs, l.register now a g i v = (.done, l.withStanding xs) ∧ (l.withStanding xs).Reads (a, g, i) v ∧
      xs.map StandingAsk.key = l.standing.map StandingAsk.key ++
        if l.standing.any (fun x => x.isFor a g i) then [] else [(a, g, i)] := by
  cases hknown : l.standing.any (fun x => x.isFor a g i) with
  | true =>
    obtain ⟨r, hkey, hlast, hregister⟩ := Line.register_of_known (now := now) (v := v) hknown
    refine ⟨(l.setStanding r).standing, hregister, ⟨fun y hy hyk => ?_⟩, ?_⟩
    · obtain rfl | ⟨-, hne⟩ := Line.mem_setStanding hy
      · exact hlast
      · exact absurd (hyk.trans hkey.symm) hne
    · rw [Line.setStanding_keys, if_pos rfl, List.append_nil]
  | false =>
    have hroom : l.standing.length < 4 := by simpa [hknown] using h
    refine ⟨_, Line.register_of_room hknown hroom, ⟨fun y hy hyk => ?_⟩, ?_⟩
    · obtain hmem | hnew := List.mem_append.mp hy
      · exact absurd ((y.isFor_iff (a, g, i)).mpr hyk) (List.any_eq_false.mp hknown y hmem)
      · rw [List.mem_singleton.mp hnew]
    · rw [List.map_append, if_neg Bool.false_ne_true]
      rfl

end

/-- Settles O23: a plain ask removes its key; with the repeat flag the key registered reads the bytes answered. -/
theorem watchedAsksAreAnswered : Obligations.WatchedAsksAreAnswered := by
  intro t group r s o hrun hhears h a known keys
  have ho : o = .next (State.close s (h.askWatched group r r.index)) := by
    rcases hrun with ⟨rfl, rfl⟩ | ⟨rfl, rfl⟩ | ⟨rfl, rfl⟩ | ⟨rfl, rfl⟩ <;> exact State.request_heard s t _ _ r _ hhears
  have hstanding : h.line.standing = s.line.standing := State.heard_standing s t group r
  have hkeys : keys = List.map StandingAsk.key := rfl
  have hnext (e : State) (ho : o = .next (State.close s e)) (ks : List (Station × Byte × Byte))
      (hks : keys (State.close s e).line.standing = ks) : ∀ x, o = .next x → keys x.line.standing = ks := by
    rintro x hx
    obtain rfl := Host.Outcome.next.inj (ho.symm.trans hx)
    exact hks
  unfold State.askWatched at ho
  dsimp only at ho
  refine ⟨fun hagain => ?_, fun hagain hdone => ?_, fun hagain hdone hroom => ?_, fun hagain hdone hknown hfull => ?_⟩
  · rw [if_neg (by simp [hagain])] at ho
    refine ⟨?_, hnext _ ho _ ?_⟩
    · rw [ho]
      exact answersWith_onLine (f := Line.dropStanding r.asker group r.index) (fun _ => rfl) (fun _ => rfl) _ _
    · rw [hkeys, close_answer_keys, State.onLine_line, Line.dropStanding, hstanding]
  · rw [if_pos hagain, if_neg hdone] at ho
    refine ⟨?_, hnext _ ho _ ?_⟩
    · rw [ho]
      exact answersWith_heard _ _
    · rw [hkeys, close_answer_keys, hstanding]
  · obtain ⟨xs, hregister, hreads, hxs⟩ :=
      Line.register_reads (l := h.line) (now := h.now) (a := r.asker) (g := group) (i := r.index) (v := a.2)
        (by rw [hstanding]; exact hroom)
    let e : State := h.onLine (Line.withStanding xs)
    rw [if_pos hagain, if_pos hdone, hregister] at ho
    change o = .next (State.close s (e.answer r.asker group r.index .done a.2)) at ho
    refine ⟨?_, fun x hx => ?_⟩
    · rw [ho]
      exact answersWith_onLine (f := Line.withStanding xs) (fun _ => rfl) (fun _ => rfl) _ _
    obtain rfl := Host.Outcome.next.inj (ho.symm.trans hx)
    have hkeysx : keys (State.close s (e.answer r.asker group r.index .done a.2)).line.standing =
        keys s.line.standing ++ if known then [] else [(r.asker, group, r.index)] := by
      rw [hkeys, close_answer_keys, ← hstanding]
      exact hxs.trans (by rw [hstanding])
    refine ⟨?_, hkeysx⟩
    have hsaid : watchedAnswer (e.answer r.asker group r.index .done a.2) group r.index = (.done, a.2) :=
      (watchedAnswer_onLine_answer h (Line.withStanding xs) _ _ _ _ _ _ _).trans (Prod.ext hdone rfl)
    have hclosed : (State.close s (e.answer r.asker group r.index .done a.2)).line.Reads (r.asker, group, r.index) a.2 := by
      refine State.close_reads ?_ hsaid ⟨fun y hy => ?_⟩
      · rw [State.answer, State.onLine_line, Line.answer_idle]
        exact State.heard_idle s t group r
      · rw [State.answer, State.onLine_line, Line.answer_standing] at hy
        exact hreads.last y hy
    have hmem : (r.asker, group, r.index) ∈ keys (State.close s (e.answer r.asker group r.index .done a.2)).line.standing := by
      rw [hkeysx]
      cases hknown : known with
      | true =>
        obtain ⟨y, hy, hfor⟩ := List.any_eq_true.mp hknown
        exact List.mem_append_left _ (List.mem_map.mpr ⟨y, hy, (y.isFor_iff (r.asker, group, r.index)).mp hfor⟩)
      | false => exact List.mem_append_right _ List.mem_cons_self
    obtain ⟨y, hy, hkey⟩ := List.mem_map.mp hmem
    exact ⟨y, hy, (y.isFor_iff (r.asker, group, r.index)).mpr hkey, hclosed.last y hy hkey⟩
  · rw [if_pos hagain, if_pos hdone, Line.register_of_full (by rw [hstanding]; exact hknown) (by rw [hstanding]; exact hfull)] at ho
    dsimp only at ho
    rw [if_neg nofun] at ho
    refine ⟨?_, hnext _ ho _ ?_⟩
    · rw [ho]
      exact answersWith_heard _ _
    · rw [hkeys, close_answer_keys, hstanding]

end Sys2Proof.Machine
end

section
/-! The timers whose expiry does little: O40, O41, O44 and O52; and states that differ in their alerts. -/

namespace Sys2Proof.Machine

/-- Settles O52: each is an expiry of its timer. -/
theorem earlyExpiriesMoveOnlyTheTime : Obligations.EarlyExpiriesMoveOnlyTheTime := by
  intro c s timer hdue hexpiry
  rcases hexpiry with ⟨t, rfl, rfl⟩ | ⟨t, i, rfl, rfl⟩ | ⟨t, i, rfl, rfl⟩ | ⟨t, rfl, rfl⟩ | ⟨t, rfl, rfl⟩ | ⟨t, rfl, rfl⟩ |
    ⟨t, rfl, rfl⟩ | ⟨t, e, rfl, rfl⟩ | ⟨t, e, rfl, rfl⟩ | ⟨t, rfl, rfl⟩ | ⟨t, rfl, rfl⟩ | ⟨t, rfl, rfl⟩ | ⟨t, rfl, rfl⟩ |
    ⟨t, rfl, rfl⟩ | ⟨t, rfl, rfl⟩ | ⟨t, rfl, rfl⟩ | ⟨t, rfl, rfl⟩ | ⟨t, rfl, rfl⟩ | ⟨t, rfl, rfl⟩ | ⟨t, rfl, rfl⟩ | ⟨t, rfl, rfl⟩ |
    ⟨t, rfl, rfl⟩ | ⟨t, k, rfl, rfl⟩ | ⟨t, k, rfl, rfl⟩ | ⟨t, rfl, rfl⟩
  · exact (show exec (.quietTimerExpiry t) s = execQuietTimerExpiry t s from rfl).trans (State.expiry_of_not_due _ hdue)
  · exact (show exec (.slotLateExpiry t i) s = execSlotLateExpiry t i s from rfl).trans (State.expiry_of_not_due _ hdue)
  · exact (show exec (.slotLostExpiry t i) s = execSlotLostExpiry t i s from rfl).trans (State.expiry_of_not_due _ hdue)
  · exact (show exec (.fuelTimerExpiry t) s = execFuelTimerExpiry t s from rfl).trans (State.expiry_of_not_due _ hdue)
  · exact (show exec (.gaugeUpdateExpiry t) s = execGaugeUpdateExpiry t s from rfl).trans (State.expiry_of_not_due _ hdue)
  · exact (show exec (.tripTimerExpiry t) s = execTripTimerExpiry t s from rfl).trans (State.expiry_of_not_due _ hdue)
  · exact (show exec (.journeyWindowExpiry t) s = execJourneyWindowExpiry t s from rfl).trans (State.expiry_of_not_due _ hdue)
  · exact (show exec (.debounceExpiry t e) s = execDebounceExpiry t e s from rfl).trans (State.expiry_of_not_due _ hdue)
  · exact (show exec (.remindExpiry t e) s = execRemindExpiry t e s from rfl).trans (State.expiry_of_not_due _ hdue)
  · exact (show exec (.bulbCheckExpiry t) s = execBulbCheckExpiry t s from rfl).trans (State.expiry_of_not_due _ hdue)
  · exact (show exec (.strikeStart t) s = execStrikeStart t s from rfl).trans (State.expiry_of_not_due _ hdue)
  · exact (show exec (.preemptExpiry t) s = execPreemptExpiry t s from rfl).trans (State.expiry_of_not_due _ hdue)
  · exact (show exec (.preemptCut t) s = execPreemptCut t s from rfl).trans (State.expiry_of_not_due _ hdue)
  · exact (show exec (.phraseCompletion t) s = execPhraseCompletion t s from rfl).trans (State.expiry_of_not_due _ hdue)
  · exact (show exec (.gapExpiry t) s = execGapExpiry t s from rfl).trans (State.expiry_of_not_due _ hdue)
  · exact (show exec (.strikeEnd t) s = execStrikeEnd t s from rfl).trans (State.expiry_of_not_due _ hdue)
  · exact (show exec (.minimumExpiry t) s = execMinimumExpiry t s from rfl).trans (State.expiry_of_not_due _ hdue)
  · exact (show exec (.rotationExpiry t) s = execRotationExpiry t s from rfl).trans (State.expiry_of_not_due _ hdue)
  · exact (show exec (.refreshTimerExpiry t) s = execRefreshTimerExpiry t s from rfl).trans (State.expiry_of_not_due _ hdue)
  · exact (show exec (.serviceTimerExpiry t) s = execServiceTimerExpiry t s from rfl).trans (State.expiry_of_not_due _ hdue)
  · exact (show exec (.holdTimerExpiry t) s = execHoldTimerExpiry t s from rfl).trans (State.expiry_of_not_due _ hdue)
  · exact (show exec (.statusTimerExpiry t) s = execStatusTimerExpiry t s from rfl).trans (State.expiry_of_not_due _ hdue)
  · exact (show exec (.wordProgramCompletion t k) s = execWordProgramCompletion t k s from rfl).trans (State.expiry_of_not_due _ hdue)
  · exact (show exec (.eraseAttemptEnd t k) s = execEraseAttemptEnd t k s from rfl).trans (State.expiry_of_not_due _ hdue)
  · exact (show exec (.readCompletion t) s = execReadCompletion t s from rfl).trans (State.expiry_of_not_due _ hdue)

/-! ## The trip second -/

/-- Settles O40: the two telegrams follow one another. -/
theorem tripSecondIsCounted : Obligations.TripSecondIsCounted := by
  intro t s hdue
  exact (show exec (.tripTimerExpiry t) s = execTripTimerExpiry t s from rfl).trans (State.expiry_of_due _ hdue)

/-! ## Strikes -/

/-- Settles O44: the two branches of each expiry. -/
theorem strikesSound : Obligations.StrikesSound := by
  refine ⟨fun t s hdue => ?_, fun t s hdue => ?_⟩
  · refine ((show exec (.strikeStart t) s = execStrikeStart t s from rfl).trans (State.expiry_of_due _ hdue)).trans ?_
    refine congrArg (fun e => Host.Outcome.next (State.close s e)) (if_congr ?_ ?_ rfl)
    · rw [Bool.and_eq_true, Bool.not_eq_true']
      exact and_congr decide_eq_true_iff Iff.rfl
    · cases h : (strikeTimes s.chime.pattern)[s.chime.nextStrike + 1]? <;>
        simp [State.onChime, Chime.strike, State.stamped, h, startTimer, strikeLength]
  · exact (show exec (.strikeEnd t) s = execStrikeEnd t s from rfl).trans (State.expiry_of_due _ hdue)

/-! ## States that differ in their alerts -/

/-- A state that differs from another in the fault record, the alerts, what is handed over and the traffic of the line only. -/
structure State.SameBut (h e : State) : Prop where
  frame : e = { h with
    faults := e.faults, monitor := e.monitor, chime := e.chime, display := e.display, handed := e.handed, line := e.line }
  traffic : e.line = h.line.withTraffic e.line

namespace State.SameBut

variable {h e f : State}

theorem refl (s : State) : s.SameBut s := ⟨rfl, rfl⟩

theorem trans (he : h.SameBut e) (hf : e.SameBut f) : h.SameBut f where
  frame := hf.frame.trans (congrArg (fun y : State => { y with
    faults := f.faults, monitor := f.monitor, chime := f.chime, display := f.display, handed := f.handed, line := f.line })
    he.frame)
  traffic := Line.traffic_trans he.traffic hf.traffic

theorem withAlerts (s : State) (a : Alerts) : s.SameBut (s.withAlerts a) := ⟨rfl, rfl⟩

theorem reportSources (s : State) (srcs : List Source) : s.SameBut (s.reportSources srcs) := ⟨rfl, rfl⟩

theorem handOver (b s : State) : s.SameBut (State.handOver b s) := by
  unfold State.handOver
  split
  · exact refl s
  · exact ⟨rfl, rfl⟩

theorem publish (s : State) (source : TxSource) (group : Byte) (data : List Byte) : s.SameBut (s.publish source group data) :=
  ⟨rfl, Line.handOn_traffic _ _⟩

theorem answer (s : State) (a : Station) (g i : Byte) (st : Status) (v : List Byte) : s.SameBut (s.answer a g i st v) :=
  ⟨rfl, Line.answer_traffic _ _ _ _ _ _⟩

theorem reportFault (s : State) (k : FaultKind) : s.SameBut (s.reportFault k) := by
  unfold State.reportFault
  dsimp only
  have hcounted : s.SameBut { s with faults := s.faults.after k } := ⟨rfl, rfl⟩
  have hreport (x : State) (hx : s.SameBut x) :
      s.SameBut (if x.faultAny = s.faultAny then x else x.reportSources [.faultAny]) := by
    split
    · exact hx
    · exact hx.trans (reportSources x _)
  refine hreport _ ?_
  split
  · exact hcounted.trans (publish _ _ _ _)
  · exact hcounted

theorem close (he : h.SameBut e) (b : State) :
    let x := State.close b e
    x = State.besides { h with faults := x.faults, monitor := x.monitor, chime := x.chime } x :=
  State.close_besides he.frame he.traffic

/-- Where the fault record is the same too. -/
theorem close_of_faults (he : h.SameBut e) (hfaults : e.faults = h.faults) (b : State) :
    let x := State.close b e
    x = State.besides { h with monitor := x.monitor, chime := x.chime } x := by
  intro x
  have hx : x.faults = h.faults := (State.close_faults b e).trans hfaults
  have hclose := he.close b
  dsimp only at hclose
  rwa [show (State.close b e).faults = h.faults from hx] at hclose

end State.SameBut

/-- A change of the service counters moves them and, with the service state, the alerts. -/
theorem State.withService_sameBut (s : State) (v : Service) : State.SameBut { s with service := v } (s.withService v) := by
  unfold State.withService
  dsimp only
  split
  · exact .refl _
  · exact (State.SameBut.handOver s _).trans (.reportSources _ _)

theorem State.withService_of_same {s : State} {v : Service} (h : serviceState { s with service := v } = serviceState s) :
    s.withService v = { s with service := v } := if_pos h

/-- The service state reads the counters and their limits. -/
theorem serviceState_congr {x y : State} (himage : x.image = y.image) (hservice : x.service = y.service) (hkey : x.key = y.key) :
    serviceState x = serviceState y := by
  simp only [serviceState, distState, daysState, wearState, State.primary, himage, hservice, hkey]
  rfl

/-! ## The plain timers -/

section

variable {s : State}

theorem slotValue_eq (s : State) (i : SlotId) :
    slotValue s i = if s.slots[i].usable = true then some s.slots[i].value else none := rfl

theorem engineRuns_iff : engineRuns s = true ↔
    s.slots[(11 : SlotId)].usable = true ∧ s.slots[(11 : SlotId)].value.testBit 0 = true := by
  unfold engineRuns
  rw [slotValue_eq]
  split <;> simp_all

theorem wearNow_eq (s : State) : wearNow s =
    2 + (if s.slots[(1 : SlotId)].usable = true ∧ (s.slots[(1 : SlotId)].value : Int) - 40 < s.image.params.cold then 2 else 0) +
      (if s.slots[(0 : SlotId)].usable = true ∧ s.image.params.highRpm < s.slots[(0 : SlotId)].value then 2 else 0) := by
  unfold wearNow wearWeight
  rw [slotValue_eq, slotValue_eq]
  cases s.slots[(1 : SlotId)].usable <;> cases s.slots[(0 : SlotId)].usable <;> simp

end

/-! ## The spacing timer of a registration -/

/-- The registrations of a key whose timer has come due have it stopped. -/
def stopSpacing (t : Stamp) (asker : Station) (group index : Byte) (x : StandingAsk) : StandingAsk :=
  if x.isFor asker group index && isDue t x.spacing then { x with spacing := none } else x

theorem exec_spacingTimerExpiry (t : Stamp) (asker : Station) (group index : Byte) (s : State) :
    exec (.spacingTimerExpiry t asker group index) s = .next (State.close s { s with
      now := t, line := { s.line with standing := s.line.standing.map (stopSpacing t asker group index) } }) := rfl

theorem map_stopSpacing {t : Stamp} {asker : Station} {group index : Byte} {l₁ l₂ : List StandingAsk} {r : StandingAsk}
    (hr : r.isFor asker group index = true) (hdue : isDue t r.spacing = true)
    (hothers : ∀ a ∈ l₁ ++ l₂, a.isFor asker group index = false) :
    (l₁ ++ r :: l₂).map (stopSpacing t asker group index) = l₁ ++ { r with spacing := none } :: l₂ := by
  have hstay (xs : List StandingAsk) (hxs : ∀ a ∈ xs, a.isFor asker group index = false) :
      xs.map (stopSpacing t asker group index) = xs :=
    (List.map_congr_left (g := id) fun a ha => if_neg (by simp [hxs a ha])).trans (List.map_id xs)
  rw [List.map_append, List.map_cons, hstay l₁ fun a ha => hothers a (List.mem_append_left _ ha),
    hstay l₂ fun a ha => hothers a (List.mem_append_right _ ha), stopSpacing, if_pos (by simp [hr, hdue])]

theorem StandingAsk.isFor_self (r : StandingAsk) : r.isFor r.asker r.group r.index = true := (r.isFor_iff r.key).mpr rfl

/-- What a further try of the only registration leaves (R186). -/
theorem Line.retryStanding_of_single {l : Line} {now : Stamp} {r : StandingAsk} {bytes : List Byte}
    (hsingle : l.standing = [r]) (hspacing : r.spacing = none) :
    (bytes = r.last → l.retryStanding now r bytes = { l with standing := [{ r with due := false }] }) ∧
    (bytes ≠ r.last → l.canReply .standing r.asker r.group = true → l.retryStanding now r bytes =
      { l with standing := [{ r with last := bytes, spacing := some (now + 100), due := false }] }.handOn
        (replyEntry .standing r.asker r.group r.index .done bytes)) ∧
    (bytes ≠ r.last → l.canReply .standing r.asker r.group = false → l.retryStanding now r bytes = l) := by
  have hset (x : StandingAsk) (hkey : x.asker = r.asker ∧ x.group = r.group ∧ x.index = r.index) :
      l.setStanding x = { l with standing := [x] } := by
    obtain ⟨hasker, hgroup, hindex⟩ := hkey
    rw [setStanding, hsingle, List.map_cons, List.map_nil, hasker, hgroup, hindex, if_pos r.isFor_self]
  refine ⟨fun hsame => ?_, fun hother hroom => ?_, fun hother hfull => ?_⟩
  · rw [retryStanding, if_pos hsame]
    exact hset _ ⟨rfl, rfl, rfl⟩
  · rw [retryStanding, if_neg hother, if_pos (by simp [hspacing, hroom]), placeStanding]
    exact congrArg (Line.handOn _) (hset _ ⟨rfl, rfl, rfl⟩)
  · rw [retryStanding, if_neg hother, if_neg (by simp [hfull])]

/-- The transmitter's choice reads no registration. -/
theorem Line.handOn_queue_of_standing (l : Line) (xs : List StandingAsk) (e : TxEntry) :
    (Line.handOn e { l with standing := xs }).queue = (l.handOn e).queue := by
  have hchoose (m : Line) : (Line.choose { m with standing := xs }).queue = m.choose.queue := by
    have hsource : Line.chosenSource { m with standing := xs } = m.chosenSource := rfl
    unfold Line.choose
    rw [hsource]
    show (if (m.idle && !m.stuck && !m.sending) = true then _ else _ : Line).queue = _
    split
    · split <;> rfl
    · rfl
  exact hchoose { l with queue := _ }

/-- Settles O41: six expiries by their definitions, and the further try of the only registration. -/
theorem plainTimersRunOut : Obligations.PlainTimersRunOut := by
  refine ⟨fun t s hdue => ?_, fun t s hdue => ?_, fun t s hdue => ?_, fun t s hdue => ?_, fun t s hdue => ?_,
    fun t asker group index s l₁ l₂ r hstanding hr hdue hothers => ?_,
    fun t s r hsingle hdue hspacing hhanded hready => ?_⟩
  · exact (show exec (.quietTimerExpiry t) s = execQuietTimerExpiry t s from rfl).trans (State.expiry_of_due _ hdue)
  · exact (show exec (.journeyWindowExpiry t) s = execJourneyWindowExpiry t s from rfl).trans (State.expiry_of_due _ hdue)
  · refine ((show exec (.bulbCheckExpiry t) s = execBulbCheckExpiry t s from rfl).trans (State.expiry_of_due _ hdue)).trans ?_
    have hlamps : s.monitor.endBulbCheck s.image = { s.monitor with
        bulbTimer := none
        lamps := if s.monitor.lampsLive then lampsFrom s.image s.monitor.active else s.monitor.lamps } := by
      unfold Monitor.endBulbCheck Monitor.relight
      cases hlive : s.monitor.lampsLive <;> simp [hlive]
    exact congrArg (fun m => Host.Outcome.next (State.close s { s with now := t, monitor := m })) hlamps
  · intro running cold fast w
    let s₁ : State := { s with now := t, service := { s.service with secTimer := some (t + 1000) } }
    have hexec : exec (.serviceTimerExpiry t) s = .next (State.close s
        (if engineRuns s then s₁.withService { s₁.service with wear := min 4294967295 (s.service.wear + wearNow s) } else s₁)) :=
      (show exec (.serviceTimerExpiry t) s = execServiceTimerExpiry t s from rfl).trans (State.expiry_of_due _ hdue)
    have hwear : wearNow s = w := wearNow_eq s
    rw [hexec]
    by_cases hruns : running
    · rw [if_pos (engineRuns_iff.mpr hruns), if_pos hruns, ← hwear]
      let v : Service := { s₁.service with wear := min 4294967295 (s.service.wear + wearNow s) }
      have hv : (State.close s (s₁.withService v)).service = v := by rw [State.close_service, State.withService_service]
      refine ⟨State.close s (s₁.withService v), rfl, hv, ?_, fun hstate => ?_⟩
      · rw [hv]
        exact (s₁.withService_sameBut v).close_of_faults (s₁.withService_faults v) s
      · have hsame : serviceState { s₁ with service := v } = serviceState s₁ :=
          (serviceState_congr (by simp) (by simp) (by simp)).symm.trans hstate
        rw [State.withService_of_same hsame]
        exact ⟨State.close_monitor s _, State.close_chime s _⟩
    · rw [if_neg (mt engineRuns_iff.mp hruns), if_neg hruns]
      exact ⟨_, rfl, State.close_service s s₁, (State.close_service s s₁) ▸ (State.SameBut.refl s₁).close_of_faults rfl s,
        fun _ => ⟨State.close_monitor s s₁, State.close_chime s s₁⟩⟩
  · exact (show exec (.statusTimerExpiry t) s = execStatusTimerExpiry t s from rfl).trans (State.expiry_of_due _ hdue)
  · rw [exec_spacingTimerExpiry, hstanding, map_stopSpacing hr hdue hothers]
  · intro bytes
    let r' : StandingAsk := { r with spacing := none }
    let e : State := { s with now := t, line := { s.line with standing := [r'] } }
    have hstop : s.line.standing.map (stopSpacing t r.asker r.group r.index) = [r'] := by
      rw [hsingle]
      exact map_stopSpacing (l₁ := []) (l₂ := []) r.isFor_self hspacing (by simp)
    have hexec : exec (.spacingTimerExpiry t r.asker r.group r.index) s = .next (State.close s e) := by
      rw [exec_spacingTimerExpiry, hstop]
    have htry : StandingAsk.mayTry s.line e.line r' = true := by
      have hset : r.spacing.isSome = true := by
        cases h : r.spacing with
        | none => simp [isDue, h] at hspacing
        | some due => rfl
      simp [StandingAsk.mayTry, r', hsingle, r.isFor_self, hset]
    have hline : (State.close s e).line = e.line.retryStanding t r' bytes := by
      rw [State.close_line_of_settled (b := s) (e := e) hhanded rfl hready fun _ _ => rfl, retryStandings_line_eq]
      show retryDue _ _ e.line r' = _
      rw [retryDue, if_pos (by rw [htry]; simpa [r'] using hdue)]
      rfl
    obtain ⟨hsent, hjoins, hfull⟩ := Line.retryStanding_of_single (l := e.line) (now := t) (r := r') (bytes := bytes) rfl rfl
    refine ⟨_, hexec, fun hsame => ?_, fun hother hroom => ?_, fun hother hnoroom => ?_⟩
    · rw [hline, hsent hsame]
      exact ⟨rfl, rfl⟩
    · rw [hline, hjoins hother hroom]
      exact ⟨Line.handOn_queue_of_standing s.line _ _, Line.handOn_standing _ _⟩
    · rw [hline, hfull hother hnoroom]
      exact ⟨rfl, rfl⟩

end Sys2Proof.Machine
end

section
/-! The expiries of a slot, the fuel filter and the following pointers (O36, O37, O39). -/

namespace Sys2Proof.Machine

/-! ## Derived values set -/

@[simp] theorem State.setSpeed_integ (s : State) (v : Option Nat) : (s.setSpeed v).integ = { s.integ with speed := v } := by
  unfold State.setSpeed
  dsimp only
  split <;> simp

@[simp] theorem State.setVolume_integ (s : State) (v : Option Nat) : (s.setVolume v).integ = { s.integ with volume := v } := by
  unfold State.setVolume
  dsimp only
  split <;> simp

@[simp] theorem State.distanceGone_integ (s : State) :
    s.distanceGone.integ = { s.integ with window := [], mark := false, speed := none } :=
  State.setSpeed_integ _ _

/-- The range is the only figure of the trip record that a report moves (R43). -/
theorem State.refreshRange_trip (s : State) : s.refreshRange.trip = { s.trip with range := s.refreshRange.trip.range } := by
  unfold State.refreshRange
  dsimp only
  (repeat' split) <;> rfl

theorem State.setVolume_trip (s : State) (v : Option Nat) :
    (s.setVolume v).trip = { s.trip with range := (s.setVolume v).trip.range } := by
  unfold State.setVolume
  dsimp only
  split
  · rfl
  · exact State.refreshRange_trip _

/-! ## The expiries of a slot -/

section

variable {t : Stamp} {i : SlotId} {s : State}

/-- A state with one slot changed. -/
def State.withSlot (s : State) (i : SlotId) (sl : Slot) : State := { s with slots := s.slots.set i sl }

theorem State.withSlot_same (s : State) (i : SlotId) (sl : Slot) : (s.withSlot i sl).slots[i] = sl := by
  simp [withSlot]

theorem State.withSlot_other {j : SlotId} (sl : Slot) (h : j ≠ i) : (s.withSlot i sl).slots[j] = s.slots[j] := by
  have hne : i.val ≠ j.val := fun he => h (Fin.ext he.symm)
  simp [withSlot, hne]

theorem exec_slotLateExpiry_of_due (hdue : isDue t s.slots[i].late = true) :
    exec (.slotLateExpiry t i) s = .next (State.close s
      (let e := (s.stamped t).withSlot i (s.slots[i].afterLate i)
       if s.slots[i].state = .fresh then (State.consumeLoss (rangeValue (s.stamped t)) e i).reportSources [.slot i] else e)) :=
  (show exec (.slotLateExpiry t i) s = execSlotLateExpiry t i s from rfl).trans (State.expiry_of_due _ hdue)

/-- A slot lost, with the gap of a distance that was usable reported (R13). -/
def State.slotGone (s : State) (i : SlotId) : State :=
  let e := s.withSlot i s.slots[i].afterLost
  if decide (i = 4) && s.slots[i].usable then e.reportFault .distGap else e

theorem State.slotGone_frame (s : State) (i : SlotId) :
    (s.slotGone i).slots = (s.withSlot i s.slots[i].afterLost).slots ∧ (s.slotGone i).integ.tenths = s.integ.tenths ∧
    (s.slotGone i).trip = s.trip ∧ (s.slotGone i).service = s.service ∧ (s.slotGone i).store = s.store := by
  unfold slotGone
  dsimp only
  split <;> simp [withSlot]

theorem State.slotGone_faults (s : State) (i : SlotId) : (s.slotGone i).faults =
    if i = 4 ∧ (s.slots[i].state = .fresh ∨ s.slots[i].state = .late) then s.faults.after .distGap else s.faults := by
  have hgap : (decide (i = 4) && s.slots[i].usable) = true ↔
      i = 4 ∧ (s.slots[i].state = .fresh ∨ s.slots[i].state = .late) := by
    simp [Slot.usable]
  unfold slotGone
  dsimp only
  by_cases h : i = 4 ∧ (s.slots[i].state = .fresh ∨ s.slots[i].state = .late)
  · rw [if_pos (hgap.mpr h), if_pos h, reportFault_faults]
    rfl
  · rw [if_neg (mt hgap.mp h), if_neg h]
    rfl

theorem exec_slotLostExpiry_of_due (hdue : isDue t s.slots[i].lost = true) :
    exec (.slotLostExpiry t i) s = .next (State.close s
      ((State.consumeLoss (rangeValue (s.stamped t)) ((s.stamped t).slotGone i) i).reportSources [.slot i])) :=
  (show exec (.slotLostExpiry t i) s = execSlotLostExpiry t i s from rfl).trans (State.expiry_of_due _ hdue)

/-- The loss of a slot counts no distance (R13). -/
theorem State.consumeLoss_tenths (before : Option Nat) (s : State) (i : SlotId) :
    (State.consumeLoss before s i).integ.tenths = s.integ.tenths := by
  unfold State.consumeLoss
  split
  · split <;> simp
  · split <;> rfl
  · simp
  · rfl

/-- DIST_COUNT gone takes the speed window with it (R32, R38). -/
theorem State.consumeLoss_distance (before : Option Nat) {s : State} (h : s.slots[(4 : SlotId)].usable = false) :
    (State.consumeLoss before s 4).integ = { s.integ with window := [], mark := false, speed := none } := by
  show (if s.slots[(4 : SlotId)].usable = true then s else s.distanceGone).integ = _
  rw [if_neg (by rw [h]; exact Bool.false_ne_true), State.distanceGone_integ]

theorem Slot.afterLost_usable (sl : Slot) : sl.afterLost.usable = false := rfl

theorem Slot.afterLate_of_fresh {sl : Slot} (i : SlotId) (h : sl.state = .fresh) :
    sl.afterLate i = { sl with state := .late, late := none } := by
  simp only [afterLate, h]

theorem Slot.afterLate_of_acquiring {sl : Slot} (i : SlotId) (h : sl.state = .acquiring) :
    sl.afterLate i = { sl with
      acquired := 0, late := none
      baseValid := if slotKind i = .count ∨ slotKind i = .presses then false else sl.baseValid } := by
  cases hkind : slotKind i <;> simp [afterLate, h, hkind]

end

/-- Settles O36: the slot by its state, and what its consumers make of the loss. -/
theorem slotExpiriesLoseTheSlot : Obligations.SlotExpiriesLoseTheSlot := by
  refine ⟨fun t i s hdue => ?_, fun t i s hdue => ?_⟩
  · let late := s.slots[i].afterLate i
    obtain ⟨e, hexec, hslots, hfaults, htenths, htrip, hservice, hstore⟩ :
        ∃ e, exec (.slotLateExpiry t i) s = .next (State.close s e) ∧ e.slots = (s.withSlot i late).slots ∧
          e.faults = s.faults ∧ e.integ.tenths = s.integ.tenths ∧ e.trip = s.trip ∧ e.service = s.service ∧ e.store = s.store := by
      refine ⟨_, exec_slotLateExpiry_of_due hdue, ?_⟩
      dsimp only
      split
      · simp [State.consumeLoss_tenths, State.withSlot, State.stamped, late]
      · exact ⟨rfl, rfl, rfl, rfl, rfl, rfl⟩
    refine ⟨_, hexec, fun j hj => ?_, fun hfresh => ?_, fun hacquiring => ?_, ?_⟩
    · rw [State.close_slots, hslots, State.withSlot_other _ hj]
    · rw [State.close_slots, hslots, State.withSlot_same]
      exact Slot.afterLate_of_fresh i hfresh
    · rw [State.close_slots, hslots, State.withSlot_same]
      exact Slot.afterLate_of_acquiring i hacquiring
    · simp [hfaults, htenths, htrip, hservice, hstore]
  · obtain ⟨hslots, htenths, htrip, hservice, hstore⟩ := (s.stamped t).slotGone_frame i
    refine ⟨_, exec_slotLostExpiry_of_due hdue, fun j hj => ?_, ?_, ?_, fun hfour => ?_, ?_⟩
    · rw [State.close_slots, State.reportSources_slots, State.consumeLoss_slots, hslots]
      exact State.withSlot_other _ hj
    · rw [State.close_slots, State.reportSources_slots, State.consumeLoss_slots, hslots]
      exact State.withSlot_same _ _ _
    · rw [State.close_faults, State.reportSources_faults, State.consumeLoss_faults]
      exact State.slotGone_faults _ _
    · subst hfour
      have husable : ((s.stamped t).slotGone 4).slots[(4 : SlotId)].usable = false := by
        rw [hslots, State.withSlot_same, Slot.afterLost_usable]
      rw [State.close_integ, State.reportSources_integ, State.consumeLoss_distance _ husable]
      exact ⟨rfl, rfl, rfl⟩
    · simp [State.consumeLoss_tenths, htenths, htrip, hservice, hstore]
      exact ⟨rfl, rfl, rfl, rfl⟩

/-! ## The fuel filter -/

/-- A filter step goes by the truncated quotient, or by 1 where that is 0 (R35, R51). -/
theorem filterStep_eq (f goal d : Nat) :
    let step := ((goal : Int) - f).tdiv d
    (filterStep f goal d : Int) =
      if step ≠ 0 then (f : Int) + step else if f < goal then (f : Int) + 1 else if goal < f then (f : Int) - 1 else f := by
  intro step
  have hnonneg : 0 ≤ (f : Int) + step := by
    have hlow : -(f : Int) ≤ step := by
      obtain hle | hlt := Nat.le_total f goal
      · have := Int.tdiv_nonneg (a := (goal : Int) - f) (b := d) (by omega) (by omega)
        omega
      · have hle := Int.tdiv_le_self (a := (f : Int) - goal) d (by omega)
        have hneg : step = -(((f : Int) - goal).tdiv d) := by rw [← Int.neg_tdiv, Int.neg_sub]
        omega
    omega
  unfold filterStep
  dsimp only
  split
  · rw [Int.toNat_of_nonneg hnonneg]
  · split
    · rfl
    · split
      · omega
      · rfl

/-- The fuel filter's step, where its conditions hold (R35). -/
def State.filterFuel (s : State) : State :=
  match s.integ.volume, slotValue s 6 with
  | some f, some x => if s.keyOn && !s.integ.armed then s.setVolume (some (fuelStep f (senderVolume s.image.params.tank x))) else s
  | _, _ => s

/-- The fuel timer started again (R35). -/
def State.fuelTimed (s : State) (t : Stamp) : State := { s with now := t, integ := { s.integ with fuelTimer := some (t + 1000) } }

theorem exec_fuelTimerExpiry_of_due {t : Stamp} {s : State} (hdue : isDue t s.integ.fuelTimer = true) :
    exec (.fuelTimerExpiry t) s = .next (State.close s (s.fuelTimed t).filterFuel) :=
  (show exec (.fuelTimerExpiry t) s = execFuelTimerExpiry t s from rfl).trans (State.expiry_of_due _ hdue)

section

variable {s : State}

theorem State.filterFuel_of_filters {f : Nat} (hkey : s.keyOn = true) (husable : s.slots[(6 : SlotId)].usable = true)
    (hvolume : s.integ.volume = some f) (harmed : s.integ.armed = false) :
    s.filterFuel = s.setVolume (some (fuelStep f (senderVolume s.image.params.tank s.slots[(6 : SlotId)].value))) := by
  have hvalue : slotValue s 6 = some s.slots[(6 : SlotId)].value := if_pos husable
  unfold filterFuel
  rw [hvolume, hvalue]
  exact if_pos (by rw [hkey, harmed]; rfl)

theorem State.filterFuel_of_not
    (h : s.keyOn = false ∨ s.slots[(6 : SlotId)].usable = false ∨ s.integ.volume = none ∨ s.integ.armed = true) :
    s.filterFuel = s := by
  unfold filterFuel
  obtain hoff | hlost | hnone | harmed := h
  · split
    · rw [hoff]
      rfl
    · rfl
  · rw [show slotValue s 6 = none from if_neg (by rw [hlost]; exact Bool.false_ne_true)]
    split
    next hvalue => cases hvalue
    next => rfl
  · rw [hnone]
  · split
    · rw [harmed, Bool.not_true, Bool.and_false]
      rfl
    · rfl

/-- What the fuel filter moves, whatever it does. -/
theorem State.filterFuel_frame (s : State) : let x := s.filterFuel
    x.integ = { s.integ with volume := x.integ.volume } ∧ x.slots = s.slots ∧ x.gauges = s.gauges ∧ x.service = s.service ∧
    x.store = s.store ∧ x.faults = s.faults ∧ x.trip = { s.trip with range := x.trip.range } := by
  have hset (v : Option Nat) : let x := s.setVolume v
      x.integ = { s.integ with volume := x.integ.volume } ∧ x.slots = s.slots ∧ x.gauges = s.gauges ∧ x.service = s.service ∧
      x.store = s.store ∧ x.faults = s.faults ∧ x.trip = { s.trip with range := x.trip.range } :=
    ⟨by simp, by simp, by simp, by simp, by simp, by simp, State.setVolume_trip s v⟩
  unfold filterFuel
  split
  · split
    · exact hset _
    · exact ⟨rfl, rfl, rfl, rfl, rfl, rfl, rfl⟩
  · exact ⟨rfl, rfl, rfl, rfl, rfl, rfl, rfl⟩

end

/-- Settles O37: one filter step where the conditions of R35 hold. -/
theorem fuelFilterTakesOneStep : Obligations.FuelFilterTakesOneStep := by
  intro t s hdue
  obtain ⟨hinteg, hslots, hgauges, hservice, hstore, hfaults, htrip⟩ := (s.fuelTimed t).filterFuel_frame
  refine ⟨_, exec_fuelTimerExpiry_of_due hdue, ?_⟩
  simp only [State.close_integ, State.close_slots, State.close_gauges, State.close_service, State.close_store, State.close_faults,
    State.close_trip]
  refine ⟨hinteg, hslots, hgauges, hservice, hstore, hfaults, htrip, fun f hkey husable hvolume harmed => ?_, fun h => ?_⟩
  · refine ⟨fuelStep f (senderVolume s.image.params.tank s.slots[(6 : SlotId)].value), ?_, ?_⟩
    · rw [State.filterFuel_of_filters (s := s.fuelTimed t) hkey husable hvolume harmed, State.setVolume_integ]
      rfl
    · have hstep := filterStep_eq f (16 * senderVolume s.image.params.tank s.slots[(6 : SlotId)].value) 64
      simp only [← Int.ofNat_lt, Nat.cast_mul] at hstep
      exact hstep
  · rw [State.filterFuel_of_not (s := s.fuelTimed t) h]
    rfl

/-! ## The pointers -/

/-- A pointer goes to its goal, or by the limit toward it (R52). -/
theorem moveToward_eq (p c limit : Nat) :
    moveToward p c limit = if p ≤ c then min c (p + limit) else max c (p - limit) := by
  unfold moveToward
  split <;> split <;> omega

namespace Channel

variable (c : Calibration) (status : SourceStatus) (sweep keyOn : Bool) {ch : Channel}

theorem update_of_following (h : ch.state = .tracking ∨ ch.state = .holding ∨ ch.state = .resting) :
    ch.update c status sweep keyOn = (ch.check c status).follow c := by
  obtain h | h | h := h <;> simp only [update, h]

theorem update_of_zeroing (h : ch.state = .zeroing) (hcount : 6 < ch.zeroCount) :
    ch.update c status sweep keyOn = { ch with zeroCount := ch.zeroCount - 6 } := by
  have hmin : min 6 ch.zeroCount = 6 := by omega
  have hleft : ch.zeroCount - 6 ≠ 0 := by omega
  simp only [update, h, hmin, if_neg hleft]

theorem update_of_sweepUp (h : ch.state = .sweepUp) (hfs : ch.position ≤ c.fs) :
    ch.update c status sweep keyOn = { ch with
      position := min c.fs (ch.position + c.slew)
      state := if c.fs ≤ ch.position + c.slew then .sweepDown else .sweepUp } := by
  have hreach : min c.fs (ch.position + c.slew) = c.fs ↔ c.fs ≤ ch.position + c.slew := by omega
  simp only [update, h, moveToward_eq, if_pos hfs, hreach]

theorem update_of_sweepDown (h : ch.state = .sweepDown) :
    ch.update c status sweep keyOn =
      if ch.position ≤ c.slew then { ch with position := 0, filter := 0, state := .tracking }
      else { ch with position := ch.position - c.slew } := by
  have hreach : ch.position - min ch.position c.slew = 0 ↔ ch.position ≤ c.slew := by omega
  simp only [update, h, moveToward_zero]
  split
  next hzero => rw [if_pos (hreach.mp hzero)]
  next hzero =>
    have hlt := mt hreach.mpr hzero
    rw [if_neg hlt, Nat.min_eq_right (by omega)]

/-- The state and the target that the source check leaves (R50, R53 to R55). -/
theorem check_eq (ch : Channel) : let y := ch.check c status
    y.filter = ch.filter ∧ y.position = ch.position ∧ y.state ≠ .parked ∧
    match status with
    | .current v => y.state = .tracking ∧ y.target = gaugeTarget c v
    | .late v => y.state = .holding ∧ y.target = if ch.state = .holding then ch.target else gaugeTarget c v
    | .unusable =>
      if c.holds = true ∧ ch.state ≠ .resting then y.state = .holding ∧ y.target = ch.target
      else y.state = .resting ∧ y.target = 0 := by
  unfold check
  cases status with
  | current v => exact ⟨rfl, rfl, by simp, rfl, rfl⟩
  | late v =>
    dsimp only
    split
    next h => exact ⟨rfl, rfl, by simp [h], h, rfl⟩
    next h => exact ⟨rfl, rfl, by simp, rfl, rfl⟩
  | unusable =>
    dsimp only
    by_cases h : c.holds = true ∧ ch.state ≠ .resting
    · rw [if_pos h, if_pos (by simpa using h)]
      exact ⟨rfl, rfl, by simp, rfl, rfl⟩
    · rw [if_neg h, if_neg (by simpa using h)]
      exact ⟨rfl, rfl, by simp, rfl, rfl⟩

end Channel

/-- Settles O39: the update by the channel's state. -/
theorem pointersFollowTheirSources : Obligations.PointersFollowTheirSources := by
  intro t s hdue
  refine ⟨_, exec_gaugeUpdateExpiry_of_due hdue, fun i => ?_⟩
  intro c ch y henabled
  have hy : y = ch.update c (gaugeSource (s.stamped t) i) s.image.params.sweep s.keyOn := by
    show (State.close s (s.gaugesUpdated t)).gauges.channels[i] = _
    rw [State.close_gauges]
    exact gaugeUpdate_of_enabled (s := s.stamped t) henabled
  refine ⟨fun hstate => ?_, fun hstate hcount => ?_, fun hstate hcount => ?_, fun hstate hfs => ?_, fun hstate => ?_⟩
  · rw [Channel.update_of_following _ _ _ _ hstate] at hy
    obtain ⟨hfilter, hposition, hstate', hcheck⟩ := Channel.check_eq c (gaugeSource (s.stamped t) i) ch
    have htarget : y.target = (ch.check c (gaugeSource (s.stamped t) i)).target := by rw [hy]; rfl
    have hstates : y.state = (ch.check c (gaugeSource (s.stamped t) i)).state := by rw [hy]; rfl
    have hmoved : y.filter = filterStep ch.filter (16 * y.target) (2 ^ c.damping) := by
      rw [htarget, ← hfilter, hy]
      rfl
    refine ⟨?_, ?_, ?_, ?_⟩
    · rw [htarget, hstates]
      exact hcheck
    · have hstep := filterStep_eq ch.filter (16 * y.target) (2 ^ c.damping)
      rw [hmoved]
      simpa using hstep
    · have hpos : y.position = moveToward ch.position (roundDiv y.filter 16) c.slew := by
        rw [← hposition, hy]
        rfl
      rw [hpos, moveToward_eq]
      rfl
    · rw [driveHeld, hstates]
      exact decide_eq_true hstate'
  · exact hy.trans (Channel.update_of_zeroing _ _ _ _ hstate hcount)
  · rw [hy, Channel.update_of_zeroing_done _ _ _ _ hstate hcount]
    cases s.keyOn <;> rfl
  · exact hy.trans (Channel.update_of_sweepUp _ _ _ _ hstate hfs)
  · exact hy.trans (Channel.update_of_sweepDown _ _ _ _ hstate)

end Sys2Proof.Machine
end

section
/-! The message line's timers, the end of a phrase, and the counts of the key lines (O9, O45, O47). -/

namespace Sys2Proof.Machine

/-! ## A message begins to be shown -/

/-- A message has begun to be shown (R122, R124). -/
structure Display.Begun (now : Stamp) (id : Nat) (rotates : Prop) [Decidable rotates] (d : Display) : Prop where
  shown : d.shown = some id
  minimum : d.minimum = some (now + 2000)
  rotation : d.rotation = if rotates then some (now + 3000) else none
  line : d.line = messageLine id
  settled : d.switchPending = false

/-- The duration of a TIMED entry started as it is first shown (R125). -/
def startDuration (now : Stamp) (m : Message) : Message :=
  match m.duration, m.timer with
  | some secs, none => { m with timer := startTimer now (1000 * secs) }
  | _, _ => m

theorem startDuration_key (now : Stamp) (m : Message) : (startDuration now m).id = m.id ∧
    (startDuration now m).priority = m.priority ∧ (startDuration now m).duration = m.duration := by
  unfold startDuration
  split <;> exact ⟨rfl, rfl, rfl⟩

section

variable {f : Message → Message} (hf : ∀ m, (f m).id = m.id ∧ (f m).priority = m.priority ∧ (f m).duration = m.duration)
include hf

theorem map_id_updateId (q : List Message) (id : Nat) : (updateId q id f).map (·.id) = q.map (·.id) := by
  rw [updateId, List.map_map]
  refine List.map_congr_left fun m _ => ?_
  rw [Function.comp_apply]
  split
  · exact (hf m).1
  · rfl

theorem eligible_updateId (q : List Message) (id : Nat) : eligible (updateId q id f) = updateId (eligible q) id f := by
  have hkey (m : Message) : (if m.id = id then f m else m).priority = m.priority ∧
      (if m.id = id then f m else m).duration = m.duration := by
    split
    · exact (hf m).2
    · exact ⟨rfl, rfl⟩
  cases q with
  | nil => rfl
  | cons head rest =>
    show (if (if head.id = id then f head else head).duration.isSome then _ else _) = _
    rw [(hkey head).2]
    unfold eligible
    dsimp only
    split
    · rfl
    · rw [updateId, List.filter_map]
      refine congrArg (List.map _) (List.filter_congr fun m _ => ?_)
      simp only [Function.comp_apply, (hkey m).1, (hkey m).2, (hkey head).1]

end

/-- With two or more eligible, all of them are PERSISTENT (R122). -/
theorem persistent_of_eligible {q : List Message} {m : Message} (hm : m ∈ eligible q) (htwo : 2 ≤ (eligible q).length) :
    m ∈ q ∧ m.duration = none := by
  cases q with
  | nil => cases hm
  | cons head rest =>
    unfold eligible at hm htwo
    dsimp only at hm htwo
    split at hm
    next htimed =>
      rw [if_pos htimed] at htwo
      simp at htwo
    next =>
      obtain ⟨hmem, hkeep⟩ := List.mem_filter.mp hm
      simp only [Bool.and_eq_true, Option.isNone_iff_eq_none] at hkeep
      exact ⟨hmem, hkeep.1⟩

theorem messageLine_ne_nil (id : Nat) : messageLine id ≠ [] := by
  intro h
  obtain ⟨htext, hpad⟩ := List.append_eq_nil_iff.mp h
  rw [htext] at hpad
  exact absurd hpad (by decide)

namespace Display

variable {d : Display}

@[simp] theorem keepRotation_mode (now : Stamp) (d : Display) : (d.keepRotation now).mode = d.mode := by
  unfold keepRotation
  (repeat' split) <;> rfl

@[simp] theorem beginShow_mode (now : Stamp) (id : Nat) (d : Display) : (d.beginShow now id).mode = d.mode :=
  keepRotation_mode _ _

theorem beginShow_queue (now : Stamp) (id : Nat) (d : Display) :
    (d.beginShow now id).queue = updateId d.queue id (startDuration now) := keepRotation_queue _ _

/-- The rotation runs where two or more are eligible (R124). -/
theorem beginShow_begun (now : Stamp) {m : Message} (hm : m ∈ eligible d.queue) :
    (d.beginShow now m.id).Begun now m.id (2 ≤ (eligible d.queue).length) := by
  have hlength : (eligible (updateId d.queue m.id (startDuration now))).length = (eligible d.queue).length := by
    rw [eligible_updateId (startDuration_key now), updateId, List.length_map]
  have hpersists (h : 2 ≤ (eligible d.queue).length) :
      (updateId d.queue m.id (startDuration now)).any (fun x => decide (x.id = m.id) && x.duration.isNone) = true := by
    obtain ⟨hmem, hnone⟩ := persistent_of_eligible hm h
    refine List.any_eq_true.mpr ⟨startDuration now m, List.mem_map.mpr ⟨m, hmem, if_pos rfl⟩, ?_⟩
    obtain ⟨hid, -, hduration⟩ := startDuration_key now m
    simp [hid, hduration, hnone]
  have hrotation : (d.beginShow now m.id).rotation =
      if 2 ≤ (eligible d.queue).length then some (now + 3000) else none := by
    show (keepRotation now { d with
      shown := some m.id, minimum := startTimer now minimumMillis, switchPending := false, rotation := none,
      line := messageLine m.id, queue := updateId d.queue m.id (startDuration now) }).rotation = _
    unfold keepRotation shownPersists
    dsimp only
    rw [hlength]
    by_cases htwo : 2 ≤ (eligible d.queue).length
    · rw [if_pos ⟨hpersists htwo, htwo⟩, if_pos htwo]
      rfl
    · rw [if_neg (fun h => htwo h.2), if_neg htwo]
  refine ⟨?_, ?_, hrotation, ?_, ?_⟩ <;>
  · unfold beginShow keepRotation
    dsimp only
    (repeat' split) <;> rfl

/-- A message that has begun to be shown settles nothing more. -/
theorem Begun.settle {now : Stamp} {id : Nat} {rotates : Prop} [Decidable rotates] (h : d.Begun now id rotates)
    (v : DisplayView) : d.settle v = d :=
  settle_of_shown d v (fun _ => by rw [h.shown]; exact Option.some_ne_none id) fun _ => by
    rw [h.line]
    exact messageLine_ne_nil id

/-! ## Ids and mode through the display's own operations -/

@[simp] theorem switch_mode (now : Stamp) (d : Display) : (d.switch now).mode = d.mode := by
  unfold switch
  split
  · exact beginShow_mode _ _ _
  · rfl

@[simp] theorem settle_mode (v : DisplayView) (d : Display) : (d.settle v).mode = d.mode := by
  unfold settle
  (repeat' split)
  · exact switch_mode _ _
  · rfl
  · rfl

theorem switch_ids (now : Stamp) (d : Display) : (d.switch now).queue.map (·.id) = d.queue.map (·.id) := by
  unfold switch
  split
  · rw [beginShow_queue]
    exact map_id_updateId (startDuration_key now) _ _
  · rfl

theorem compare_ids (now : Stamp) (d : Display) : (d.compare now).queue.map (·.id) = d.queue.map (·.id) := by
  unfold compare
  split
  · rfl
  · split
    · exact switch_ids now d
    · split
      · rw [keepRotation_queue]
      · split
        · rw [keepRotation_queue]
        · exact switch_ids now d

theorem queueChanged_ids (v : DisplayView) (d : Display) : (d.queueChanged v).queue.map (·.id) = d.queue.map (·.id) := by
  unfold queueChanged
  dsimp only
  split
  · rw [compare_ids, workOutMode_queue]
  · rw [workOutMode_queue]

theorem settle_ids (v : DisplayView) (d : Display) : (d.settle v).queue.map (·.id) = d.queue.map (·.id) := by
  unfold settle
  (repeat' split)
  · exact switch_ids _ _
  · rfl
  · rfl

theorem remove_ids (v : DisplayView) (id : Nat) (d : Display) :
    (d.remove v id).queue.map (·.id) = (d.queue.map (·.id)).filter (· ≠ id) := by
  rw [remove, queueChanged_ids, List.filter_map]
  rfl

end Display

/-! ## The entry after the shown one -/

/-- The next entry in the eligible set, wrapping (R124). -/
theorem nextEligible_eq {l₁ l₂ : List Message} {m : Message} (hfirst : ∀ a ∈ l₁, a.id ≠ m.id) :
    nextEligible (l₁ ++ m :: l₂) m.id = (l₂ ++ l₁ ++ [m]).head?.map (·.id) := by
  have hindex : ((l₁ ++ m :: l₂).map (·.id)).idxOf? m.id = some l₁.length := by
    rw [List.idxOf?, List.findIdx?_eq_some_iff_getElem]
    refine ⟨by simp, by simp, fun j hj => ?_⟩
    have hmem : l₁[j] ∈ l₁ := List.getElem_mem hj
    simp [List.getElem_append_left, hj, hfirst _ hmem]
  unfold nextEligible
  rw [hindex]
  dsimp only
  congr 1
  cases l₂ with
  | nil => cases l₁ <;> simp
  | cons n rest =>
    have hlt : (l₁.length + 1) % (l₁ ++ m :: n :: rest).length = l₁.length + 1 :=
      Nat.mod_eq_of_lt (by simp)
    rw [hlt]
    simp

/-! ## The timers of the message line -/

/-- The close of an event that changed the display alone. -/
theorem State.close_onDisplay (b s : State) (f : Display → Display) :
    State.close b (s.onDisplay f) = State.besides s (State.close b (s.onDisplay f)) := by
  refine State.eq_besides_of ?_ (State.close_line b (s.onDisplay f)) (State.close_handed b (s.onDisplay f))
  exact State.eq_besides (by simp) (by simp) (by simp) (by simp) (by simp) (by simp) (by simp) (by simp) (by simp) (by simp)
    (by simp) (by simp) (by simp) (by simp) (by simp)

/-- A change of the display that settles nothing more stands after the close. -/
theorem State.close_onDisplay_display (b s : State) (f : Display → Display) :
    (State.close b (s.onDisplay f)).display = (f s.display).settle (s.onDisplay f).displayView := State.close_display _ _

/-- The minimum of a shown message has run out (R123). -/
def Display.minimumOver (now : Stamp) (d : Display) : Display :=
  let eligibleNow := match d.shown with | some id => hasId (eligible d.queue) id | none => false
  let d' := { d with minimum := none, switchPending := false }
  if d.switchPending && !eligibleNow then d'.switch now else d'

/-- The rotation timer has run out (R124). -/
def Display.rotated (now : Stamp) (d : Display) : Display :=
  match d.shown.bind (nextEligible (eligible d.queue)) with
  | some id => d.beginShow now id
  | none => d

namespace Display

variable {d : Display} {id : Nat}

theorem minimumOver_of_shown (now : Stamp) (hshown : d.shown = some id) :
    d.minimumOver now =
      if d.switchPending = true ∧ hasId (eligible d.queue) id = false then
        switch now { d with minimum := none, switchPending := false }
      else { d with minimum := none, switchPending := false } := by
  unfold minimumOver
  rw [hshown]
  dsimp only
  exact if_congr (by rw [Bool.and_eq_true, Bool.not_eq_true']) rfl rfl

@[simp] theorem minimumOver_mode (now : Stamp) (d : Display) : (d.minimumOver now).mode = d.mode := by
  have hswitched (c : Bool) (e : Display) : (if c then switch now e else e).mode = e.mode := by
    cases c
    · rfl
    · exact switch_mode now e
  exact hswitched _ _

theorem switch_eq {m : Message} {rest : List Message} (now : Stamp) (h : eligible d.queue = m :: rest) :
    d.switch now = d.beginShow now m.id := by
  unfold switch
  rw [h]
  rfl

end Display

/-- Settles O47: each timer's part of the display, and what the close settles after it. -/
theorem displayTimersMoveTheLine : Obligations.DisplayTimersMoveTheLine := by
  refine ⟨fun t s hdue => ?_, fun t s l₁ l₂ m hdue heligible hshown hfirst => ?_, fun t id s hmessage => ?_, fun t s hdue => ?_⟩
  · have hexec : exec (.minimumExpiry t) s = .next (State.close s ((s.stamped t).onDisplay (Display.minimumOver t))) :=
      (show exec (.minimumExpiry t) s = execMinimumExpiry t s from rfl).trans (State.expiry_of_due _ hdue)
    have hdisplay : (State.close s ((s.stamped t).onDisplay (Display.minimumOver t))).display =
        (s.display.minimumOver t).settle ((s.stamped t).onDisplay (Display.minimumOver t)).displayView :=
      State.close_onDisplay_display _ _ _
    refine ⟨_, hexec, State.close_onDisplay _ _ _, ?_, fun id hshown hline => ?_⟩
    · rw [hdisplay, Display.settle_mode, Display.minimumOver_mode]
    rw [hdisplay, Display.minimumOver_of_shown t hshown]
    refine ⟨fun hstays => ?_, fun m rest hpending hgone heligible => ?_⟩
    · rw [if_neg]
      · exact Display.settle_of_shown _ _ (fun _ => by rw [hshown]; exact Option.some_ne_none id) hline
      · rintro ⟨hpending, hgone⟩
        simp [hpending, hgone] at hstays
    · have hm : m ∈ eligible s.display.queue := heligible ▸ List.mem_cons_self
      let d : Display := { s.display with minimum := none, switchPending := false }
      have hbegun := Display.beginShow_begun (d := d) t hm
      rw [if_pos ⟨hpending, hgone⟩, Display.switch_eq (d := d) t heligible, hbegun.settle]
      refine ⟨hbegun.shown, hbegun.minimum, hbegun.line, hbegun.rotation.trans ?_, hbegun.settled⟩
      rw [show eligible d.queue = m :: rest from heligible]
      cases rest <;> simp
  · have hexec : exec (.rotationExpiry t) s = .next (State.close s ((s.stamped t).onDisplay (Display.rotated t))) :=
      (show exec (.rotationExpiry t) s = execRotationExpiry t s from rfl).trans (State.expiry_of_due _ hdue)
    obtain ⟨n, hn⟩ : ∃ n, (l₂ ++ l₁ ++ [m]).head? = some n := by
      cases h : l₂ ++ l₁ ++ [m] with
      | nil => simp at h
      | cons n rest => exact ⟨n, rfl⟩
    have hmem : n ∈ eligible s.display.queue := by
      rw [heligible]
      have := List.mem_of_head? hn
      simp only [List.mem_append, List.mem_cons] at this ⊢
      tauto
    have hrotated : s.display.rotated t = s.display.beginShow t n.id := by
      unfold Display.rotated
      rw [hshown, Option.bind_some, heligible, nextEligible_eq hfirst, hn]
      rfl
    have hbegun := Display.beginShow_begun (d := s.display) t hmem
    have hdisplay : (State.close s ((s.stamped t).onDisplay (Display.rotated t))).display = s.display.beginShow t n.id := by
      rw [State.close_onDisplay_display]
      show (s.display.rotated t).settle _ = _
      rw [hrotated, hbegun.settle]
    refine ⟨_, n, hexec, State.close_onDisplay _ _ _, hn, ?_⟩
    rw [hdisplay]
    refine ⟨Display.beginShow_mode _ _ _, hbegun.shown, hbegun.minimum, hbegun.rotation.trans ?_, hbegun.line⟩
    rw [heligible]
    cases l₁ <;> cases l₂ <;> simp
  · obtain ⟨m, hm, hid, hduration, hdue⟩ := hmessage
    have hany : s.display.queue.any (fun m => m.id = id && m.duration.isSome && isDue t m.timer) = true :=
      List.any_eq_true.mpr ⟨m, hm, by simp [hid, hdue, Option.isSome_iff_ne_none, hduration]⟩
    have hexec : exec (.durationExpiry t id) s =
        .next (State.close s ((s.stamped t).onDisplay (Display.remove (s.stamped t).displayView id))) := by
      refine (show exec (.durationExpiry t id) s = execDurationExpiry t id s from rfl).trans ?_
      rw [execDurationExpiry, State.event_eq, if_pos (by exact hany)]
    refine ⟨_, hexec, State.close_onDisplay _ _ _, ?_⟩
    rw [State.close_onDisplay_display, Display.settle_ids]
    exact Display.remove_ids _ _ _
  · refine ((show exec (.refreshTimerExpiry t) s = execRefreshTimerExpiry t s from rfl).trans (State.expiry_of_due _ hdue)).trans ?_
    refine congrArg (fun d => Host.Outcome.next (State.close s { s with now := t, display := d })) ?_
    show ({ s.display.draw (s.stamped t).displayView with refresh := _ } : Display) = _
    unfold Display.draw
    by_cases hpage : s.display.mode = .page
    · rw [if_pos hpage]
      show ({ s.display with line := _, refresh := if s.display.mode = .page then _ else _ } : Display) = _
      rw [if_pos hpage, if_pos hpage]
      rfl
    · rw [if_neg hpage]
      show ({ s.display with refresh := if s.display.mode = .page then _ else _ } : Display) = _
      rw [if_neg hpage, if_neg hpage]

/-! ## The end of a phrase -/

/-- The arbiter once the warning has taken its phrase: its request withdrawn where it is SILENCED (R91, R105). -/
theorem Chime.withdraw_endPhrase (now : Stamp) (e : EntryId) (c : Chime) :
    (c.endPhrase now).withdraw e = { c.endPhrase now with requests := c.requests.set e none } := by
  unfold Chime.withdraw
  rw [if_neg (fun h => nomatch h.1), if_neg (fun h => nomatch h.1)]
  rfl

/-- What the end of the holder's phrase leaves of warnings and arbiter (R91, R111). -/
theorem Alerts.finishPhrase_eq (s : State) {a : Alerts} {e : EntryId} (h : a.chime.holder = some e) :
    let w := a.monitor.entries[e]
    let limit := s.image.warnings[e].repeatLimit
    let n := min 15 (w.phrases + 1)
    let y := a.finishPhrase s
    (w.state ≠ .active → y.monitor = a.monitor ∧ y.chime = a.chime.endPhrase s.now) ∧
    (w.state = .active → limit ≠ 0 → limit ≤ n →
      y.monitor = { a.monitor with entries := a.monitor.entries.set e { w with phrases := n, state := .silenced } } ∧
      y.chime = { a.chime.endPhrase s.now with requests := a.chime.requests.set e none }) ∧
    (w.state = .active → limit = 0 ∨ n < limit →
      y.monitor = { a.monitor with entries := a.monitor.entries.set e { w with phrases := n } } ∧
      y.chime = a.chime.endPhrase s.now) := by
  intro w limit n y
  have hy : y = Alerts.phraseReported s e ({ a with chime := a.chime.endPhrase s.now }.tell s a) := by
    simp only [y, Alerts.finishPhrase, h]
  rw [hy]
  unfold Alerts.phraseReported
  refine ⟨fun hstate => ?_, fun hstate hlimit hle => ?_, fun hstate hbelow => ?_⟩
  · dsimp only
    rw [if_pos (by exact hstate)]
    exact ⟨rfl, rfl⟩
  · dsimp only
    rw [if_neg (by exact not_not_intro hstate), if_pos (by exact ⟨hlimit, hle⟩)]
    exact ⟨rfl, Chime.withdraw_endPhrase _ _ _⟩
  · dsimp only
    rw [if_neg (by exact not_not_intro hstate), if_neg]
    · exact ⟨rfl, rfl⟩
    · rintro ⟨hlimit, hle⟩
      exact hbelow.elim hlimit (Nat.not_lt.mpr hle)

/-- In the gap no grant is made (R106). -/
theorem Chime.settle_of_gap (now : Stamp) (ttp : Option Nat) {c : Chime} (h : c.phase = .gap) : c.settle now ttp = c :=
  if_neg fun ⟨hidle, _⟩ => nomatch h.symm.trans hidle

/-- The end of a phrase moves warnings and arbiter, and beside them only what the close of the event moves. -/
theorem State.close_finishPhrase_traffic (s : State) (t : Stamp) :
    let x := State.close s ((s.stamped t).onAlerts (Alerts.finishPhrase (s.stamped t)))
    x = State.withTraffic { s with now := t, monitor := x.monitor, chime := x.chime } x := by
  intro x
  let e := (s.stamped t).onAlerts (Alerts.finishPhrase (s.stamped t))
  have hmonitor : x.monitor = e.monitor := State.close_monitor _ _
  have hchime : x.chime = e.chime := State.close_chime _ _
  have hframe : e = { s with now := t, monitor := e.monitor, chime := e.chime, handed := e.handed } :=
    congrArg (fun d => { e with display := d }) (Alerts.finishPhrase_display (s := s.stamped t) (s.stamped t).alerts)
  rw [hmonitor, hchime]
  refine (State.close_traffic s e).trans ?_
  exact (congrArg (fun y : State => y.withTraffic x) hframe).trans rfl

/-- Whether a preempt expiry cuts at once (R110). -/
theorem Chime.cutsNow_eq (now : Stamp) (c : Chime) : c.cutsNow now = true ↔
    (c.pattern = .tone ∧ 150 ≤ (now - c.granted).toNat) ∨ (c.pattern ≠ .tone ∧ c.strikeEnd = none) := by
  unfold Chime.cutsNow
  split
  next h =>
    rw [decide_eq_true_iff]
    exact ⟨fun hlong => .inl ⟨h, hlong⟩, fun hcut => hcut.elim (·.2) fun hstrikes => absurd h hstrikes.1⟩
  next h => simp [h]

/-- Settles O45: each of the three expiries ends the phrase, or leaves the cut pending. -/
theorem phrasesEndInAGap : Obligations.PhrasesEndInAGap := by
  intro t e s hholder ends
  let x := State.close s ((s.stamped t).onAlerts (Alerts.finishPhrase (s.stamped t)))
  have hends : ends (.next x) := by
    obtain ⟨hidle, hsilenced, hcounted⟩ := Alerts.finishPhrase_eq (s.stamped t) (a := s.alerts) hholder
    have hmonitor : x.monitor = (s.alerts.finishPhrase (s.stamped t)).monitor := State.close_monitor _ _
    have hchime (r : Vector (Option ChimeRequest) 16)
        (h : (s.alerts.finishPhrase (s.stamped t)).chime = { s.chime.endPhrase t with requests := r }) :
        x.chime = { s.chime.endPhrase t with requests := r } := by
      refine (State.close_chime _ _).trans ((State.onAlerts_chime _ _).trans ?_)
      show ((s.alerts.finishPhrase (s.stamped t)).chime).settle _ _ = _
      rw [h]
      exact Chime.settle_of_gap _ _ rfl
    have hframe := State.close_finishPhrase_traffic s t
    let w := s.monitor.entries[e]
    let limit := s.image.warnings[e].repeatLimit
    by_cases hstate : w.state = .active
    · by_cases hlimit : limit ≠ 0 ∧ limit ≤ min 15 (w.phrases + 1)
      · obtain ⟨hmonitor', hchime'⟩ := hsilenced hstate hlimit.1 hlimit.2
        refine ⟨x, rfl, hframe, ?_⟩
        rw [hchime _ hchime', hmonitor.trans hmonitor']
        exact ⟨rfl, rfl, rfl, rfl, rfl, rfl, rfl, rfl, rfl, rfl, fun h => absurd hstate h, fun _ _ _ => ⟨rfl, rfl⟩,
          fun _ hbelow => absurd hlimit fun ⟨h, hle⟩ => hbelow.elim h (Nat.not_lt.mpr hle)⟩
      · have hbelow : limit = 0 ∨ min 15 (w.phrases + 1) < limit := by omega
        obtain ⟨hmonitor', hchime'⟩ := hcounted hstate hbelow
        refine ⟨x, rfl, hframe, ?_⟩
        rw [hchime _ hchime', hmonitor.trans hmonitor']
        exact ⟨rfl, rfl, rfl, rfl, rfl, rfl, rfl, rfl, rfl, rfl, fun h => absurd hstate h,
          fun _ h hle => absurd ⟨h, hle⟩ hlimit, fun _ _ => ⟨rfl, rfl⟩⟩
    · obtain ⟨hmonitor', hchime'⟩ := hidle hstate
      refine ⟨x, rfl, hframe, ?_⟩
      rw [hchime _ hchime', hmonitor.trans hmonitor']
      exact ⟨rfl, rfl, rfl, rfl, rfl, rfl, rfl, rfl, rfl, rfl, fun _ => ⟨rfl, rfl⟩, fun h => absurd h hstate,
        fun h => absurd h hstate⟩
  refine ⟨fun hdue => ?_, fun hdue hpending => ?_, fun hdue hcut => ?_, fun hdue hwaits => ?_⟩
  · rw [(show exec (.phraseCompletion t) s = execPhraseCompletion t s from rfl).trans (State.expiry_of_due _ hdue)]
    exact hends
  · rw [(show exec (.preemptCut t) s = execPreemptCut t s from rfl).trans (State.expiry_of_due _ hdue),
      if_pos (by exact hpending)]
    exact hends
  · rw [(show exec (.preemptExpiry t) s = execPreemptExpiry t s from rfl).trans (State.expiry_of_due _ hdue),
      if_pos (by exact (Chime.cutsNow_eq t s.chime).mpr hcut)]
    exact hends
  · have hlater : ¬ s.chime.cutsNow t = true := by
      rw [Chime.cutsNow_eq]
      rintro (⟨htone, hlong⟩ | ⟨hstrikes, hsilent⟩)
      · obtain ⟨-, hshort⟩ | ⟨hne, -⟩ := hwaits
        · exact absurd hlong (Nat.not_le.mpr hshort)
        · exact hne htone
      · obtain ⟨htone, -⟩ | ⟨-, hne⟩ := hwaits
        · exact hstrikes htone
        · exact hne hsilent
    rw [(show exec (.preemptExpiry t) s = execPreemptExpiry t s from rfl).trans (State.expiry_of_due _ hdue),
      if_neg (by exact hlater)]
    rfl

/-! ## The counts of the key lines -/

theorem State.countKey_eq (s : State) (before : KeyState) : s.countKey before =
    { s with
      key := { s.key with
        keyTimer := if derivedKey s.key.pins = before then s.key.keyTimer
          else if s.key.started = true ∧ derivedKey s.key.pins = s.key.key then none else some (s.now + 20) } } := by
  unfold countKey
  dsimp only
  split
  · rfl
  · by_cases h : s.key.started = true ∧ derivedKey s.key.pins = s.key.key
    · rw [if_pos h, if_pos (by simpa using h)]
    · rw [if_neg h, if_neg (by simpa using h)]
      rfl

/-- The level of the service-enable line recorded, and its count (R189, R193). -/
def State.recordSvcEn (s : State) (level : Bool) : State :=
  if s.awake && decide (level ≠ s.key.pins.svcEn) then
    { s with key := { s.key with
        pins := { s.key.pins with svcEn := level }
        svcTimer := if s.key.started && decide (level = s.key.svcEn) then none else startTimer s.now settleMillis } }
  else { s with key := { s.key with pins := { s.key.pins with svcEn := level } } }

theorem State.recordSvcEn_eq (s : State) (level : Bool) : s.recordSvcEn level =
    { s with key := { s.key with
        pins := { s.key.pins with svcEn := level }
        svcTimer := if s.awake = true ∧ level ≠ s.key.pins.svcEn then
            if s.key.started = true ∧ level = s.key.svcEn then none else some (s.now + 20)
          else s.key.svcTimer } } := by
  unfold recordSvcEn
  by_cases hchanged : s.awake = true ∧ level ≠ s.key.pins.svcEn
  · rw [if_pos (by simpa using hchanged), if_pos hchanged]
    by_cases hback : s.key.started = true ∧ level = s.key.svcEn
    · rw [if_pos (by simpa using hback), if_pos hback]
    · rw [if_neg (by simpa using hback), if_neg hback]
      rfl
  · rw [if_neg (by simpa using hchanged), if_neg hchanged]

/-- Settles O9: the count by the branches of each line change. -/
theorem lineLevelsStartTheCounts : Obligations.LineLevelsStartTheCounts := by
  refine ⟨fun t acc run s hawake => ?_, fun t s hasleep => ?_, fun t level s => ?_⟩
  · refine (show exec (.keyLineChange t acc run) s = execKeyLineChange t acc run s from rfl).trans ?_
    rw [execKeyLineChange, State.event_eq, if_pos (by exact hawake)]
    refine congrArg (fun e => Host.Outcome.next (State.close s e)) ?_
    exact State.countKey_eq _ _
  · refine (show exec (.keyLineChange t false false) s = execKeyLineChange t false false s from rfl).trans ?_
    rw [execKeyLineChange, State.event_eq, if_neg (by exact Bool.not_eq_true _ ▸ hasleep), if_neg (by decide)]
    rfl
  · refine (show exec (.svcEnLineChange t level) s = .next (State.close s ((s.stamped t).recordSvcEn level)) from rfl).trans ?_
    rw [State.recordSvcEn_eq]
    rfl

end Sys2Proof.Machine
end

section
/-! Telegrams and records read back (O53), and the figures of the watched groups (O24). -/

namespace Sys2Proof.Machine

/-! ## Telegrams -/

/-- The fields of a telegram's control byte (section 10.2). -/
theorem control_fields : ∀ (kind : BitVec 2) (n : BitVec 3) (hold again : Bool),
    let c : Byte := kind ++ n ++ BitVec.ofBool hold ++ BitVec.ofBool again ++ (0 : BitVec 1)
    c.extractLsb' 6 2 = kind ∧ c.extractLsb' 3 3 = n ∧ c.getLsbD 2 = hold ∧ c.getLsbD 1 = again := by
  decide

/-- The fields of a telegram's contention byte (section 10.2). -/
theorem contention_fields : ∀ (urgency : BitVec 3) (origin : Station),
    (urgency ++ origin : Byte).extractLsb' 5 3 = urgency ∧ (urgency ++ origin : Byte).extractLsb' 0 5 = origin := by
  decide

theorem TelegramKind.ofCode_code (k : TelegramKind) : TelegramKind.ofCode k.code = k := by cases k <;> decide

/-- A sum of bytes with its check byte is all ones (R173). -/
theorem byteSum_append_check (bytes : List Byte) : byteSum (bytes ++ [~~~ (byteSum bytes)]) = 0xFF := by
  unfold byteSum
  rw [List.foldl_append, List.foldl_cons, List.foldl_nil]
  exact BitVec.add_not_self _

theorem readFrame_frame {m : Telegram} (h : m.data.length ≤ 6) : readFrame m.frame = some m := by
  obtain ⟨hkind, hlength, hhold, hagain⟩ := control_fields m.kind.code (BitVec.ofNat 3 m.data.length) m.hold m.again
  obtain ⟨hurgency, horigin⟩ := contention_fields m.urgency m.origin
  have hn : (m.control.extractLsb' 3 3).toNat = m.data.length := by
    refine (congrArg BitVec.toNat hlength).trans ?_
    rw [BitVec.toNat_ofNat]
    exact Nat.mod_eq_of_lt (by omega)
  have hframe : m.frame = (m.urgency ++ m.origin) :: m.group :: m.control :: (m.data ++ [~~~ (byteSum m.body)]) := rfl
  have hsum : byteSum m.frame = 0xFF := byteSum_append_check m.body
  rw [hframe] at hsum ⊢
  unfold readFrame
  dsimp only
  rw [hn, if_pos ⟨h, by simp, hsum⟩, List.take_left' rfl]
  have hfields : TelegramKind.ofCode (m.control.extractLsb' 6 2) = m.kind ∧ m.control.getLsbD 2 = m.hold ∧
      m.control.getLsbD 1 = m.again :=
    ⟨(congrArg TelegramKind.ofCode hkind).trans m.kind.ofCode_code, hhold, hagain⟩
  obtain ⟨hkind, hhold, hagain⟩ := hfields
  rw [hkind, hhold, hagain, hurgency, horigin]

/-! ## Records -/

theorem wordSum_append_check (w : List Word) : wordSum (w ++ [~~~ (wordSum w)]) = 0xFFFF := by
  unfold wordSum
  rw [List.foldl_append, List.foldl_cons, List.foldl_nil]
  exact BitVec.add_not_self _

/-- Two words make the number that was split into them, below 2 to the 32 (section 9.2). -/
theorem splitWord_value {v : Nat} (h : v < 4294967296) :
    65536 * (BitVec.ofNat 16 (v / 65536)).toNat + (BitVec.ofNat 16 v).toNat = v := by
  rw [BitVec.toNat_ofNat, BitVec.toNat_ofNat]
  omega

theorem odoValue_odoRecord {v : Nat} (h : v ≤ 9999999) : odoValue (odoRecord v) = some v := by
  have hvalue := splitWord_value (v := v) (by omega)
  unfold odoValue odoRecord
  simp only [nthWord, List.getD_cons_zero, List.getD_cons_succ]
  rw [hvalue, if_pos ⟨trivial, trivial, h⟩]

theorem nthWord_saveRecord (s : State) :
    nthWord (saveRecord s) 1 = BitVec.ofNat 16 (s.integ.tenths / 65536) ∧
    nthWord (saveRecord s) 2 = BitVec.ofNat 16 s.integ.tenths ∧
    nthWord (saveRecord s) 31 = ~~~ (wordSum (saveBody s)) := ⟨rfl, rfl, rfl⟩

theorem saveRecord_reads {s : State} (h : s.integ.tenths ≤ 9999999) :
    saveValid (saveRecord s) = true ∧ twoWords (saveRecord s) 1 = s.integ.tenths := by
  obtain ⟨hhi, hlo, hcheck⟩ := nthWord_saveRecord s
  have htenths : twoWords (saveRecord s) 1 = s.integ.tenths := by
    rw [twoWords, hhi, hlo]
    exact splitWord_value (by omega)
  refine ⟨?_, htenths⟩
  rw [saveValid, htenths, hcheck, saveRecord, List.take_left' (saveBody_length s)]
  exact decide_eq_true ⟨rfl, h⟩

/-- Settles O53: the frame of a telegram and the two records, each read by its own check. -/
theorem framesAndRecordsReadBack : Obligations.FramesAndRecordsReadBack := by
  refine ⟨fun m h => readFrame_frame h, fun station l e hflying hlength => ?_, fun v h => odoValue_odoRecord h,
    fun s h => ⟨rfl, saveRecord_reads h⟩⟩
  have hwire : l.wire station = (e.telegram station).frame := by rw [Line.wire, hflying]
  rw [hwire]
  refine ⟨(readFrame_frame (m := e.telegram station) hlength).trans ?_, fun hstation => ?_⟩
  · unfold TxEntry.telegram TxSource.urgency
    cases e.source <;> rfl
  · subst hstation
    show some ((e.source.urgency ++ (12 : Station) : Byte)) = _
    cases e.source <;> decide

/-! ## Figures -/

/-- A quotient rounded to nearest, halves up, as a bracket (R34). -/
theorem roundDiv_bracket (num : Nat) {den : Nat} (hden : 0 < den) :
    2 * den * roundDiv num den ≤ 2 * num + den ∧ 2 * num + den < 2 * den * (roundDiv num den + 1) :=
  ⟨two_mul_mul_roundDiv_le num den, lt_two_mul_mul_roundDiv_succ num hden⟩

theorem averageConsumption_of_value {units : Units} {p q : Nat} {r : TripRecord} (hdist : 10 * p ≤ r.dist) (hfuel : r.fuel ≠ 0) :
    averageConsumption units p q r = some (min (match units with
      | .metric => roundDiv (r.fuel * q * p) (100 * r.dist)
      | .us => roundDiv (r.dist * 3785412) (p * r.fuel * q)
      | .imperial => roundDiv (r.dist * 4546090) (p * r.fuel * q)) 999) :=
  if_neg (by omega)

theorem averageConsumption_bracket {units : Units} {p q : Nat} {r : TripRecord} (hp : 0 < p) (hq : 0 < q)
    (hdist : 10 * p ≤ r.dist) (hfuel : r.fuel ≠ 0) :
    let num := match units with
      | .metric => r.fuel * q * p | .us => r.dist * 3785412 | .imperial => r.dist * 4546090
    let den := match units with | .metric => 100 * r.dist | .us | .imperial => p * r.fuel * q
    ∃ n : Nat, averageConsumption units p q r = some (min n 999) ∧
      2 * den * n ≤ 2 * num + den ∧ 2 * num + den < 2 * den * (n + 1) := by
  have hvolume : 0 < p * r.fuel * q := Nat.mul_pos (Nat.mul_pos hp (Nat.pos_of_ne_zero hfuel)) hq
  rw [averageConsumption_of_value hdist hfuel]
  cases units with
  | metric => exact ⟨_, rfl, roundDiv_bracket _ (show 0 < 100 * r.dist by omega)⟩
  | us => exact ⟨_, rfl, roundDiv_bracket _ hvolume⟩
  | imperial => exact ⟨_, rfl, roundDiv_bracket _ hvolume⟩

theorem rangeOf_bracket {rq q : Nat} (v : Nat) (h : 0 < rq * q) :
    ∃ n : Nat, rangeOf (some v) rq q = some (min n 999) ∧ n * (rq * q) ≤ v * 100000 ∧ v * 100000 < (n + 1) * (rq * q) :=
  ⟨v * 100000 / (rq * q), rfl, Nat.div_mul_le_self _ _, (Nat.lt_mul_div_succ _ h).trans_eq (Nat.mul_comm _ _)⟩

theorem shownVolume_bracket (f : Nat) :
    ∃ n : Nat, shownVolume (some f) = some n ∧ 16 * n ≤ f + 8 ∧ f + 8 < 16 * (n + 1) := by
  refine ⟨roundDiv f 16, rfl, ?_⟩
  unfold roundDiv
  omega

/-! ## What the indexes read -/

theorem bytesOf_two (n : Nat) : bytesOf 2 n = [BitVec.ofNat 8 (n / 256), BitVec.ofNat 8 n] := by
  simp [bytesOf]

theorem bytesOf_three (n : Nat) :
    bytesOf 3 n = [BitVec.ofNat 8 (n / 65536), BitVec.ofNat 8 (n / 256), BitVec.ofNat 8 n] := by
  simp [bytesOf]

/-- An index above 1 is none of 0 and 1. -/
theorem index_of_above {index : Byte} (h : 1 < index.toNat) : index ≠ 0 ∧ index ≠ 1 := by
  refine ⟨?_, ?_⟩ <;> rintro rfl <;> revert h <;> decide

/-- The odometer digits fit the seven positions (R131). -/
theorem odometerDigits_length {v : Nat} (h : v ≤ 9999999) : (digits (v / 10) ++ digits (v % 10)).length ≤ 7 := by
  have hwhole : (digits (v / 10)).length ≤ 6 := Nat.toDigits_length 10 _ 6 (by decide) (by omega)
  have htenth : (digits (v % 10)).length ≤ 1 := Nat.toDigits_length 10 _ 1 (by decide) (by omega)
  rw [List.length_append]
  omega

/-- Which branch a watched group takes (section 10.6). -/
theorem watchedAnswer_status (s : State) (index : Byte) : watchedAnswer s 0x40 index = statusAnswer (statusBytes s) index := rfl

theorem watchedAnswer_tripA (s : State) (index : Byte) : watchedAnswer s 0x41 index =
    if !s.primary then (.notNow, fourBytes [])
    else if index = 0 then (.done, (tripABytes s).take 3 ++ (tripABytes s).drop 5)
    else if index = 1 then (.done, fourBytes (((tripABytes s).drop 3).take 2)) else (.unknown, fourBytes []) := rfl

theorem watchedAnswer_tripB (s : State) (index : Byte) : watchedAnswer s 0x42 index =
    if !s.primary then (.notNow, fourBytes [])
    else if index = 0 then (.done, (tripBRangeBytes s).take 4)
    else if index = 1 then (.done, fourBytes ((tripBRangeBytes s).drop 4)) else (.unknown, fourBytes []) := rfl

theorem figureBytes_length (v : Option Nat) : (figureBytes v).length = 2 := by
  cases v <;> simp [figureBytes, bytesOf_two]

section

variable {s : State}

theorem odometerField_of_lit (h : s.display.mode = .page ∨ s.display.mode = .message) : odometerField s =
    some (if s.primary then
        { positions := alignRight 7 (digits (s.integ.tenths / 10) ++ digits (s.integ.tenths % 10)), point := true }
      else { positions := List.replicate 7 '-', point := false }) := if_pos h

theorem watchedAnswer_of_gauge (s : State) (i : Fin 6) :
    watchedAnswer s 0x53 (BitVec.ofNat 8 i.val) = (.done, gaugeBytes s i) := by
  have hindex : (BitVec.ofNat 8 i.val).toNat = i.val := by
    rw [BitVec.toNat_ofNat]
    omega
  have hlt : (BitVec.ofNat 8 i.val).toNat < 6 := by omega
  have hi : (⟨(BitVec.ofNat 8 i.val).toNat, hlt⟩ : Fin 6) = i := Fin.ext hindex
  unfold watchedAnswer
  rw [if_neg (by decide), if_neg (by decide), if_neg (by decide), if_pos rfl, dif_pos hlt, hi]

end

/-- Settles O24: the formulas as brackets, and each index by its branch. -/
theorem watchedGroupsReadTheFigures : Obligations.WatchedGroupsReadTheFigures := by
  refine ⟨fun units p q r => ⟨fun h => if_pos h, averageConsumption_bracket⟩, fun rq q => ⟨rfl, fun v h => rangeOf_bracket v h⟩,
    ⟨rfl, shownVolume_bracket⟩, fun s => ?_⟩
  intro p q two three lit
  have htwo (v : Option Nat) : figureBytes v = two v := by
    cases v with
    | none => rfl
    | some n => exact bytesOf_two n
  have hthree (n : Nat) : bytesOf 3 n = three n := bytesOf_three n
  refine ⟨?_, ?_, fun hprimary => ⟨?_, ?_, ?_, ?_⟩, fun hmirror index => ⟨?_, ?_⟩, fun index hindex hprimary => ⟨?_, ?_, ?_⟩,
    fun index hindex => ?_, fun i => ?_, fun hunlit => if_neg hunlit, fun hlit hmirror => ?_, fun hlit hprimary hlimit => ?_,
    fun hlit hprimary htenths => ?_, fun hlit hprimary htenths => ?_⟩
  · rw [watchedAnswer_status]
    unfold statusAnswer statusBytes
    rw [if_pos rfl, hthree]
    cases s.primary <;> rfl
  · rw [watchedAnswer_status]
    unfold statusAnswer statusBytes
    rw [if_neg (by decide), if_pos rfl, hthree]
    cases s.primary <;> rfl
  · rw [watchedAnswer_tripA, if_neg (by simp [hprimary]), if_pos rfl, tripABytes, hthree, htwo]
    generalize averageConsumption s.key.units s.image.params.p s.image.params.q s.trip.a = figure
    have hflags : ([formFlags s.key.units] : List Byte) = [match s.key.units with | .metric => 1 | .us => 2 | .imperial => 4] := by
      cases s.key.units <;> rfl
    rw [hflags]
    cases figure <;> rfl
  · rw [watchedAnswer_tripA, if_neg (by simp [hprimary]), if_neg (by decide), if_pos rfl, tripABytes, hthree, htwo]
    generalize averageConsumption s.key.units s.image.params.p s.image.params.q s.trip.a = figure
    cases figure <;> rfl
  · rw [watchedAnswer_tripB, if_neg (by simp [hprimary]), if_pos rfl, tripBRangeBytes, htwo, htwo]
    generalize averageSpeed s.image.params.p s.trip.a = speed
    unfold primaryRange
    cases rangeOf (shownVolume s.integ.volume) s.integ.rangeBase s.image.params.q <;> cases speed <;> rfl
  · rw [watchedAnswer_tripB, if_neg (by simp [hprimary]), if_neg (by decide), if_pos rfl, tripBRangeBytes, htwo, htwo]
    generalize averageSpeed s.image.params.p s.trip.a = speed
    unfold primaryRange
    rw [bytesOf_two]
    cases rangeOf (shownVolume s.integ.volume) s.integ.rangeBase s.image.params.q <;> cases speed <;> rfl
  · rw [watchedAnswer_tripA, if_pos (by simp [hmirror])]
  · rw [watchedAnswer_tripB, if_pos (by simp [hmirror])]
  · obtain ⟨hzero, hone⟩ := index_of_above hindex
    rw [watchedAnswer_status, statusAnswer, if_neg hzero, if_neg hone]
  · obtain ⟨hzero, hone⟩ := index_of_above hindex
    rw [watchedAnswer_tripA, if_neg (by simp [hprimary]), if_neg hzero, if_neg hone]
  · obtain ⟨hzero, hone⟩ := index_of_above hindex
    rw [watchedAnswer_tripB, if_neg (by simp [hprimary]), if_neg hzero, if_neg hone]
  · unfold watchedAnswer
    rw [if_neg (by decide), if_neg (by decide), if_neg (by decide), if_pos rfl, dif_neg (by omega)]
  · rw [watchedAnswer_of_gauge, gaugeBytes]
    dsimp only
    rw [← hthree] <;> rfl
  · refine ⟨_, odometerField_of_lit hlit, ?_⟩
    rw [if_neg (by simp [hmirror])]
    rfl
  · refine ⟨_, 7 - (digits (s.integ.tenths / 10) ++ digits (s.integ.tenths % 10)).length, odometerField_of_lit hlit, ?_⟩
    have hlength := odometerDigits_length hlimit
    rw [if_pos hprimary]
    refine ⟨rfl, ?_, (List.append_assoc _ _ _).symm⟩
    show (alignRight _ _).length = 7
    rw [alignRight, List.length_append, List.length_replicate]
    omega
  · refine ⟨_, odometerField_of_lit hlit, ?_⟩
    rw [if_pos hprimary, htenths]
    decide
  · refine ⟨_, odometerField_of_lit hlit, ?_⟩
    rw [if_pos hprimary, htenths]
    decide

end Sys2Proof.Machine
end

section
/-! The end of the hold, and what it withdraws (O13, O30, O48). -/

namespace Sys2Proof.Machine

/-! ## Answers ABORTED -/

/-- An answer leaves the pending answers of other keys. -/
theorem Line.mem_answer_of_other {l : Line} {p : PendingAnswer} {a : Station} {g i : Byte} (st : Status) (v : List Byte)
    (h : p ∈ l.pending) (hother : p.isFor a g i = false) : p ∈ (l.answer a g i st v).pending := by
  unfold Line.answer
  dsimp only
  split
  · exact List.mem_append_left _ (List.mem_filter.mpr ⟨h, by simp [hother]⟩)
  · exact h

/-- A pending answer that waits, or has been answered ABORTED (R148, R167). -/
inductive Line.Aborts (r : Request) (g : Byte) (l : Line) : Prop
  | waits (h : (⟨r.asker, g, r.index, .waiting⟩ : PendingAnswer) ∈ l.pending)
  | answered (h : Answered l r g .aborted [])

namespace Line.Aborts

variable {r : Request} {g : Byte} {l : Line}

/-- The answer of another pending answer, or of this one as ABORTED, keeps it so. -/
theorem answer (h : l.Aborts r g) (a : Station) (g' i : Byte) : (l.answer a g' i .aborted []).Aborts r g := by
  cases h with
  | answered h => exact .answered (Line.answer_keeps _ _ _ _ _ _ _ _ _ _ h)
  | waits h =>
    by_cases hkey : a = r.asker ∧ g' = g ∧ i = r.index
    · obtain ⟨rfl, rfl, rfl⟩ := hkey
      exact .answered (Line.answered_answer _ _ _ _ _ h)
    · refine .waits (Line.mem_answer_of_other _ _ h ?_)
      rw [← Bool.not_eq_true]
      intro hfor
      simp only [PendingAnswer.isFor, Bool.and_eq_true, decide_eq_true_eq] at hfor
      obtain ⟨⟨hasker, hgroup⟩, hindex⟩ := hfor
      exact hkey ⟨hasker.symm, hgroup.symm, hindex.symm⟩

/-- Its own answer ABORTED. -/
theorem answer_own (h : l.Aborts r g) : Answered (l.answer r.asker g r.index .aborted []) r g .aborted [] := by
  cases h with
  | answered h => exact Line.answer_keeps _ _ _ _ _ _ _ _ _ _ h
  | waits h => exact Line.answered_answer _ _ _ _ _ h

end Line.Aborts

/-! ## Configuration operations withdrawn -/

/-- Whether a queued request outlasts the hold: configuration programs and erases do not (R167). -/
def outlastsHold (q : StoreRequest) : Bool :=
  match q with | .program .. => false | .erase (.config _) _ => false | _ => true

/-- The ABORTED answer of a configuration operation that is withdrawn (R167). -/
def abortRequest (l : Line) (q : StoreRequest) : Line :=
  match q with
  | .program asker address _ => l.answer asker 0x64 address .aborted []
  | .erase (.config asker) block => l.answer asker 0x63 (BitVec.ofNat 8 block.val) .aborted []
  | _ => l

theorem abortRequest_cases (l : Line) (q : StoreRequest) :
    abortRequest l q = l ∨ ∃ a g i, abortRequest l q = l.answer a g i .aborted [] := by
  unfold abortRequest
  split
  · exact .inr ⟨_, _, _, rfl⟩
  · exact .inr ⟨_, _, _, rfl⟩
  · exact .inl rfl

theorem State.withdrawConfig_eq (s : State) : s.withdrawConfig =
    { s with
      store := { s.store with queue := s.store.queue.filter outlastsHold }
      line := s.store.queue.foldl abortRequest s.line } := by
  have hfold (xs : List StoreRequest) (x : State) :
      xs.foldl (fun s r => match r with
        | .program asker address _ => s.answer asker 0x64 address .aborted
        | .erase (.config asker) block => s.answer asker 0x63 (BitVec.ofNat 8 block.val) .aborted
        | _ => s) x = { x with line := xs.foldl abortRequest x.line } := by
    induction xs generalizing x with
    | nil => rfl
    | cons q xs ih =>
      rw [List.foldl_cons, List.foldl_cons, ih]
      unfold abortRequest
      split <;> rfl
  exact hfold _ _

theorem foldl_abortRequest_traffic (xs : List StoreRequest) (l : Line) :
    xs.foldl abortRequest l = l.withTraffic (xs.foldl abortRequest l) := by
  refine Line.foldl_traffic _ (fun l q => ?_) _ _
  obtain h | ⟨a, g, i, h⟩ := abortRequest_cases l q <;> rw [h]
  · rfl
  · exact Line.answer_traffic _ _ _ _ _ _

section

variable {r : Request} {g : Byte}

theorem foldl_abortRequest_keeps (xs : List StoreRequest) (l : Line) : l.KeepsAnswers (xs.foldl abortRequest l) := by
  refine Line.foldl_keepsAnswers _ (fun l q => ?_) _ _
  obtain h | ⟨a, g, i, h⟩ := abortRequest_cases l q <;> rw [h]
  · exact .refl l
  · exact Line.answer_keeps _ _ _ _ _ _

theorem foldl_abortRequest_aborts (xs : List StoreRequest) {l : Line} (h : l.Aborts r g) :
    (xs.foldl abortRequest l).Aborts r g := by
  refine List.foldlRecOn (motive := fun l : Line => l.Aborts r g) xs _ h fun l hl q _ => ?_
  obtain hq | ⟨a, g', i, hq⟩ := abortRequest_cases l q <;> rw [hq]
  · exact hl
  · exact hl.answer _ _ _

/-- The other owners' answers wait on. -/
theorem mem_foldl_abortRequest (xs : List StoreRequest) {l : Line} {p : PendingAnswer} (hp : p.group = 0x60)
    (h : p ∈ l.pending) : p ∈ (xs.foldl abortRequest l).pending := by
  have hother (a : Station) {g' : Byte} (i : Byte) (hg : g' ≠ 0x60) : p.isFor a g' i = false := by
    have hne : p.group ≠ g' := fun he => hg (he.symm.trans hp)
    simp [PendingAnswer.isFor, hne]
  refine List.foldlRecOn (motive := fun l : Line => p ∈ l.pending) xs _ h fun l hl q _ => ?_
  unfold abortRequest
  split
  · exact Line.mem_answer_of_other _ _ hl (hother _ _ (by decide))
  · exact Line.mem_answer_of_other _ _ hl (hother _ _ (by decide))
  · exact hl

/-- A withdrawn request whose answer waits is answered ABORTED. -/
theorem foldl_abortRequest_answered {q : StoreRequest} {xs : List StoreRequest} {l : Line} (hq : q ∈ xs)
    (hown : ∀ l : Line, abortRequest l q = l.answer r.asker g r.index .aborted []) (h : l.Aborts r g) :
    Answered (xs.foldl abortRequest l) r g .aborted [] := by
  obtain ⟨l₁, l₂, rfl⟩ := List.append_of_mem hq
  rw [List.foldl_append, List.foldl_cons, hown]
  exact foldl_abortRequest_keeps l₂ _ _ _ _ _ (foldl_abortRequest_aborts l₁ h).answer_own

end

/-! ## The end of a hold -/

/-- The hold of `b` has ended in `e`, before the event closes (R143, R148, R167). -/
structure State.EndsHold (b e : State) : Prop where
  frame : e = { b with hold := .cleared, service := e.service, store := e.store, line := e.line }
  traffic : e.line = b.line.withTraffic e.line
  keeps : b.line.KeepsAnswers e.line
  waits : ∀ p ∈ b.line.pending, p.group = 0x60 → p ∈ e.line.pending
  ended : HoldEnded b e

theorem State.withdrawReset_of_not {s : State} (h : (s.service.reset.isSome && !s.store.carriesReset) = false) :
    s.withdrawReset = s := by
  unfold withdrawReset
  cases hreset : s.service.reset with
  | none => rfl
  | some p =>
    have hcarries : s.store.carriesReset = true := by simpa [hreset] using h
    exact if_pos hcarries

theorem State.withdrawReset_of_withdrawn {s : State} {p : PendingReset} (hreset : s.service.reset = some p)
    (hcarries : s.store.carriesReset = false) :
    s.withdrawReset = { s with
      service := { s.service with reset := none }
      store := { s.store with queue := s.store.queue.filterMap withoutResetCause }
      line := s.line.answer p.asker 0x62 (BitVec.ofNat 8 p.selector) .aborted [] } := by
  unfold withdrawReset
  rw [hreset]
  exact if_neg (by simp [hcarries])

/-- The RESET cause leaves other requests as they are. -/
theorem withoutResetCause_of_not_save {q : StoreRequest} (h : q.isSave = false) : withoutResetCause q = some q := by
  cases q <;> first | rfl | cases h

theorem State.endHold_endsHold {s : State} (h : s.hold.phase = .held) : s.EndsHold s.endHold := by
  have hend : s.endHold = ({ s with hold := .cleared }.withdrawReset).withdrawConfig := if_pos h
  rw [hend, State.withdrawConfig_eq]
  cases hwithdrawn : s.service.reset.isSome && !s.store.carriesReset with
  | false =>
    have hreset : State.withdrawReset { s with hold := .cleared } = { s with hold := .cleared } :=
      State.withdrawReset_of_not hwithdrawn
    rw [hreset]
    refine ⟨rfl, foldl_abortRequest_traffic _ _, foldl_abortRequest_keeps _ _,
      fun p hmem hp => mem_foldl_abortRequest _ hp hmem, ?_⟩
    refine ⟨?_, ?_, fun r p hp hset => ?_, fun r v hmem hwaits => ?_, fun r b hmem hindex hwaits => ?_⟩
    · rw [hwithdrawn]
      rfl
    · rw [hwithdrawn]
      rfl
    · exact absurd (hwithdrawn.symm.trans hset) (by decide)
    · exact foldl_abortRequest_answered hmem (fun _ => rfl) (.waits hwaits)
    · exact foldl_abortRequest_answered hmem (fun _ => by rw [hindex]; rfl) (.waits hwaits)
  | true =>
    obtain ⟨hset, hcarries⟩ := Bool.and_eq_true_iff.mp hwithdrawn
    obtain ⟨p, hp⟩ := Option.isSome_iff_exists.mp hset
    have hreset := State.withdrawReset_of_withdrawn (s := { s with hold := .cleared }) hp (by simpa using hcarries)
    rw [hreset]
    have hkept {q : StoreRequest} (hmem : q ∈ s.store.queue) (hq : q.isSave = false) :
        q ∈ s.store.queue.filterMap withoutResetCause :=
      List.mem_filterMap.mpr ⟨q, hmem, withoutResetCause_of_not_save hq⟩
    refine ⟨rfl, Line.traffic_trans (Line.answer_traffic _ _ _ _ _ _) (foldl_abortRequest_traffic _ _),
      (Line.answer_keeps _ _ _ _ _ _).trans (foldl_abortRequest_keeps _ _),
      fun p' hmem hgroup => mem_foldl_abortRequest _ hgroup (Line.mem_answer_of_other _ _ hmem ?_), ?_⟩
    · simp [PendingAnswer.isFor, hgroup]
    refine ⟨?_, ?_, fun r p' hp' _ hasker hindex hwaits => ?_, fun r v hmem hwaits => ?_, fun r b hmem hindex hwaits => ?_⟩
    · rw [hwithdrawn]
      rfl
    · rw [hwithdrawn]
      rfl
    · obtain rfl : p = p' := Option.some.inj (hp.symm.trans hp')
      rw [← hasker] at hwaits
      rw [← hasker, ← hindex]
      exact foldl_abortRequest_keeps _ _ _ _ _ _ (Line.answered_answer _ _ _ _ _ hwaits)
    · exact foldl_abortRequest_answered (hkept hmem rfl) (fun _ => rfl) (Line.Aborts.answer (.waits hwaits) _ _ _)
    · exact foldl_abortRequest_answered (hkept hmem rfl) (fun _ => by rw [hindex]; rfl)
        (Line.Aborts.answer (.waits hwaits) _ _ _)

/-- What ended the hold of a state of the event has ended that of the event. -/
theorem State.EndsHold.holdEnded {b e s x : State} (h : b.EndsHold e) (hservice : b.service = s.service)
    (hstore : b.store = s.store) (hpending : ∀ p ∈ s.line.pending, p ∈ b.line.pending) (hxservice : x.service = e.service)
    (hxstore : x.store = e.store) (hkeeps : e.line.KeepsAnswers x.line) : HoldEnded s x := by
  obtain ⟨hserviceEnd, hstoreEnd, hreset, hprogram, herase⟩ := h.ended
  rw [HoldEnded, hxservice, hxstore, ← hservice, ← hstore]
  exact ⟨hserviceEnd, hstoreEnd,
    fun r p hp hset hasker hindex hwaits => hkeeps _ _ _ _ (hreset r p hp hset hasker hindex (hpending _ hwaits)),
    fun r v hmem hwaits => hkeeps _ _ _ _ (hprogram r v hmem (hpending _ hwaits)),
    fun r d hmem hindex hwaits => hkeeps _ _ _ _ (herase r d hmem hindex (hpending _ hwaits))⟩

/-- The close of an event that differs from `b` in the traffic of the line and in what is handed over. -/
theorem State.close_eq_withTraffic {b f : State} (hf : f = { b with line := f.line, handed := f.handed })
    (hl : f.line = b.line.withTraffic f.line) (s : State) : State.close s f = b.withTraffic (State.close s f) := by
  have hsame (x : State) : f.withTraffic x = b.withTraffic x := by
    have hline : f.line.withTraffic x.line = b.line.withTraffic x.line := by rw [hl, Line.withTraffic_withTraffic]
    rw [State.withTraffic, hline]
    exact congrArg (fun y : State => { y with
      line := b.line.withTraffic x.line, display := y.display.settle y.displayView, handed := .nothing }) hf
  exact (State.close_traffic s f).trans (hsame _)

/-- The close of an event that ended the hold of `b` and changed beside it the line's traffic only. -/
theorem State.EndsHold.close {b e f : State} (h : b.EndsHold e) (hf : f = { e with line := f.line })
    (hl : f.line = e.line.withTraffic f.line) (s : State) :
    let x := State.close s f
    x = State.withTraffic { b with hold := .cleared, service := x.service, store := x.store } x := by
  intro x
  have hservice : x.service = e.service := (State.close_service s f).trans (by rw [hf])
  have hstore : x.store = e.store := (State.close_store s f).trans (by rw [hf])
  have hframe : f = { b with hold := .cleared, service := e.service, store := e.store, line := f.line } :=
    hf.trans (congrArg (fun y : State => { y with line := f.line }) h.frame)
  rw [hservice, hstore]
  exact State.close_eq_withTraffic (b := { b with hold := .cleared, service := e.service, store := e.store })
    (hframe.trans (by rw [hframe])) (Line.traffic_trans h.traffic hl) s

/-! ## The commands -/

/-- Settles O48: the end of the hold, then the fault's report. -/
theorem holdExpires : Obligations.HoldExpires := by
  intro t s hdue hphase
  have hends : (s.stamped t).EndsHold (s.stamped t).endHold := State.endHold_endsHold hphase
  have hexec : exec (.holdTimerExpiry t) s = .next (State.close s ((s.stamped t).endHold.reportFault .holdExpired)) :=
    (show exec (.holdTimerExpiry t) s = execHoldTimerExpiry t s from rfl).trans (State.expiry_of_due _ hdue)
  have hframe := hends.frame
  refine ⟨_, hexec, ?_, ?_, ?_, ?_, ?_, ?_, ?_, hends.holdEnded rfl rfl (fun _ h => h) (by simp) (by simp) ?_⟩
  · rw [State.close_hold, State.reportFault_hold, hframe]
    rfl
  · rw [State.close_faults, State.reportFault_faults, hframe]
    rfl
  · rw [State.close_slots, State.reportFault_slots, hframe]
    rfl
  · rw [State.close_integ, State.reportFault_integ, hframe]
    rfl
  · rw [State.close_gauges, State.reportFault_gauges, hframe]
    rfl
  · rw [State.close_trip, State.reportFault_trip, hframe]
    rfl
  · rw [State.close_key, State.reportFault_key, hframe]
    rfl
  · exact (State.reportFault_keeps _ _).trans (State.close_keeps _ _)

/-- Settles O30: the release ends the hold and is answered, a stranger's is not, and the latch is set. -/
theorem holdCommandsMoveTheHold : Obligations.HoldCommandsMoveTheHold := by
  refine ⟨fun t r s hhears hphase hstation => ?_, fun t r s hhears hplain hstranger => ?_, fun t r s hhears hphase hstation => ?_⟩
  · have hholder : (s.heard t 0x60 r).hold.isHolder r.asker = true := State.heard_holder_of hphase hstation
    have hends : (s.heard t 0x60 r).EndsHold (s.heard t 0x60 r).endHold :=
      State.endHold_endsHold ((Hold.isHolder_iff _ _).mp hholder).1
    let f := (s.heard t 0x60 r).endHold.answer r.asker 0x60 r.index .done
    have hexec : exec (.holdRelease t r) s = .next (State.close s f) := by
      refine (State.request_heard s t "HOLD_RELEASE" 0x60 r _ hhears).trans ?_
      rw [State.unlessStranger_of_holder _ hholder, if_pos hholder]
    have hwaits := hends.waits _ (s.heard_waiting t 0x60 r) rfl
    have hkeeps : (s.heard t 0x60 r).endHold.line.KeepsAnswers (State.close s f).line :=
      (State.answer_keeps _ _ _ _ _ _).trans (State.close_keeps s f)
    refine ⟨_, hexec, State.close_keeps s f r _ _ _ (Line.answered_answer _ r _ _ _ hwaits),
      hends.close (f := f) rfl (Line.answer_traffic _ _ _ _ _ _) s,
      hends.holdEnded (State.heard_service _ _ _ _) (State.heard_store _ _ _ _) (fun p hp => ?_) (by simp [f]) (by simp [f]) hkeeps⟩
    exact List.mem_append_left _ (by rw [State.accept_pendingList]; exact hp)
  · have hstranger' : (s.heard t 0x60 r).hold.isHolder r.asker = false := by
      rw [State.heard_isHolder]
      exact (Hold.isHolder_eq_false_iff _ _).mpr hstranger
    rw [show exec (.holdRelease t r) s = _ from State.request_heard s t "HOLD_RELEASE" 0x60 r _ hhears,
      State.unlessStranger_of_plain _ hplain, if_neg (by rw [hstranger']; exact Bool.false_ne_true)]
    exact answersWith_heard _ _
  · rw [show exec (.writeEnable t r) s = _ from State.request_heard s t "WRITE_ENABLE" 0x61 r _ hhears,
      State.ifHolder_of_holder _ (State.heard_holder_of hphase hstation)]
    exact answersWith_answer (s.heard_waiting t 0x61 r)

/-- The service-enable level that has held, taken (R189). -/
theorem exec_svcEnChangeTaken_of_due {t : Stamp} {s : State} (hstarted : s.key.started = true)
    (hdue : isDue t s.key.svcTimer = true) :
    exec (.svcEnChangeTaken t) s = .next (State.close s
      (let e : State := { s with now := t, key := { s.key with svcEn := s.key.pins.svcEn, svcTimer := none } }
       if s.key.svcEn && !s.key.pins.svcEn then e.dropEnable else e)) := by
  refine (show exec (.svcEnChangeTaken t) s = execSvcEnChangeTaken t s from rfl).trans ?_
  rw [execSvcEnChangeTaken, State.event_eq, if_pos]
  · rfl
  · rw [Bool.and_eq_true]
    exact ⟨hstarted, hdue⟩

/-- Settles O13: the fall of the level by the phase of the hold. -/
theorem serviceEnableIsTaken : Obligations.ServiceEnableIsTaken := by
  intro t s hstarted hdue e
  have hexec := exec_svcEnChangeTaken_of_due hstarted hdue
  have hfalls (hlevel : s.key.svcEn = true) (hpin : s.key.pins.svcEn = false) :
      exec (.svcEnChangeTaken t) s = .next (State.close s e.dropEnable) := by
    rw [hexec]
    dsimp only
    rw [if_pos (by rw [hlevel, hpin]; rfl)]
  refine ⟨fun h => ?_, fun hlevel hpin hheld => ?_, fun hlevel hpin hopening => ?_⟩
  · rw [hexec]
    dsimp only
    split
    next hfall =>
      have hnone : s.hold.phase = .none := by
        obtain hlow | hhigh | hnone := h
        · simp [hlow] at hfall
        · simp [hhigh] at hfall
        · exact hnone
      have hdrop : e.dropEnable = e := by
        unfold State.dropEnable
        rw [show e.hold.phase = .none from hnone]
      exact congrArg (fun y => Host.Outcome.next (State.close s y)) hdrop
    next => rfl
  · have hdrop : e.dropEnable = e.endHold := by
      unfold State.dropEnable
      rw [show e.hold.phase = .held from hheld]
    have hends : e.EndsHold e.endHold := State.endHold_endsHold hheld
    refine ⟨_, hfalls hlevel hpin, ?_, ?_⟩
    · rw [hdrop]
      exact hends.close rfl rfl s
    · rw [hdrop]
      exact hends.holdEnded rfl rfl (fun _ h => h) (State.close_service _ _) (State.close_store _ _) (State.close_keeps _ _)
  · rw [hfalls hlevel hpin]
    unfold State.dropEnable
    rw [show e.hold.phase = .opening from hopening]

end Sys2Proof.Machine
end

section
/-! What the store makes of its queue when it serves (R159), and the answers of delayed reads (O51). -/

namespace Sys2Proof.Machine

/-! ## Serving -/

/-- What the store can make of its queue (R159): it rests, resumes a suspended erase, starts a request that has left the queue, or
refuses a configuration program and goes on. -/
inductive State.Served : State → State → Prop
  | rests (s : State) : Served s s
  | resumes (s : State) (job : EraseJob) (hop : s.store.op = .idle) :
    Served s { s with store := s.store.resume s.now job }
  | starts (s : State) (q : StoreRequest) (st : Store) (hop : s.store.op = .idle) (hq : q ∈ s.store.queue)
    (hstart : Store.start s q { s.store with queue := s.store.queue.erase q } = some st) : Served s { s with store := st }
  | refuses (s e : State) (asker : Station) (address : Byte) (value : Word) (hop : s.store.op = .idle)
    (h : Served ((State.clearLatch { s with store := { s.store with
        queue := s.store.queue.erase (.program asker address value) } }).answer asker 0x64 address .failed) e) : Served s e

theorem Store.chosen_mem {st : Store} {low draining : Bool} {q : StoreRequest} (h : st.chosen low draining = some q) :
    q ∈ st.queue := by
  unfold chosen at h
  dsimp only at h
  split at h
  next hfound => exact Option.some.inj h ▸ List.mem_of_find?_eq_some hfound
  next =>
    split at h
    next hfound => exact Option.some.inj h ▸ List.mem_of_find?_eq_some hfound
    next =>
      split at h
      · cases h
      · split at h
        next hfound => exact Option.some.inj h ▸ List.mem_of_find?_eq_some hfound
        next =>
          split at h
          · cases h
          · exact List.mem_of_find?_eq_some h

/-- Only a configuration program can be refused (R150). -/
theorem Store.start_eq_none {s : State} {q : StoreRequest} {st : Store} (h : Store.start s q st = none) :
    ∃ asker address value, q = .program asker address value := by
  cases q with
  | program asker address value => exact ⟨asker, address, value, rfl⟩
  | commit => cases h
  | save => cases h
  | erase => cases h
  | read => cases h

theorem serveUpTo_served (fuel : Nat) (s : State) : s.Served (serveUpTo fuel s) := by
  induction fuel generalizing s with
  | zero => exact .rests s
  | succ fuel ih =>
    unfold serveUpTo
    split
    next => exact .rests s
    next hop =>
      have hidle : s.store.op = .idle := not_not.mp hop
      split
      next q hchosen =>
        dsimp only
        split
        next st hstart => exact .starts s q st hidle (Store.chosen_mem hchosen) hstart
        next hrefused =>
          obtain ⟨asker, address, value, rfl⟩ := Store.start_eq_none hrefused
          exact .refuses s _ asker address value hidle (ih _)
      next =>
        split
        next job _ => exact .resumes s job hidle
        next => exact .rests s

theorem State.serve_served (s : State) : s.Served s.serve := serveUpTo_served _ s

namespace State.Served

variable {s e : State}

theorem of_busy (h : s.Served e) (hop : s.store.op ≠ .idle) : e = s := by
  cases h with
  | rests => rfl
  | resumes _ _ hidle => exact absurd hidle hop
  | starts _ _ _ hidle => exact absurd hidle hop
  | refuses _ _ _ _ _ hidle => exact absurd hidle hop

/-- Serving moves the store, the latch, and the traffic of the line. -/
theorem frame (h : s.Served e) :
    e = { s with hold := { s.hold with latch := e.hold.latch }, store := e.store, line := e.line } := by
  induction h with
  | rests => rfl
  | resumes => rfl
  | starts => rfl
  | refuses s e asker address value _ _ ih => exact ih

theorem traffic (h : s.Served e) : e.line = s.line.withTraffic e.line := by
  induction h with
  | rests => rfl
  | resumes => rfl
  | starts => rfl
  | refuses s e asker address value _ _ ih => exact Line.traffic_trans (Line.answer_traffic _ _ _ _ _ _) ih

theorem keeps (h : s.Served e) : s.line.KeepsAnswers e.line := by
  induction h with
  | rests => exact .refl _
  | resumes => exact .refl _
  | starts => exact .refl _
  | refuses s e asker address value _ _ ih => exact (Line.answer_keeps _ _ _ _ _ s.line).trans ih

theorem latch (h : s.Served e) : e.hold.latch = s.hold.latch ∨ e.hold.latch = false := by
  induction h with
  | rests => exact .inl rfl
  | resumes => exact .inl rfl
  | starts => exact .inl rfl
  | refuses s e asker address value _ _ ih => exact .inr (ih.elim (fun h => h.trans rfl) id)

theorem hold (h : s.Served e) : e.hold = { s.hold with latch := e.hold.latch } := by
  have hframe := congrArg State.hold h.frame
  exact hframe

/-- A latch that is clear stays. -/
theorem hold_of_clear (h : s.Served e) (hlatch : s.hold.latch = false) : e.hold = s.hold := by
  have hclear : e.hold.latch = s.hold.latch := h.latch.elim id fun he => he.trans hlatch.symm
  rw [h.hold, hclear]

/-- A request that starts programs nothing yet. -/
theorem start_memory {q : StoreRequest} {st st' : Store} (hstart : Store.start s q st = some st') :
    st'.array = st.array ∧ st'.odo = st.odo ∧ st'.save = st.save ∧ st'.conditions = st.conditions ∧ st'.queue = st.queue ∧
      st'.suspended = st.suspended := by
  unfold Store.start at hstart
  split at hstart
  case h_3 =>
    dsimp only at hstart
    split at hstart
    · cases hstart
      exact ⟨rfl, rfl, rfl, rfl, rfl, rfl⟩
    · cases hstart
  all_goals
    cases hstart
    exact ⟨rfl, rfl, rfl, rfl, rfl, rfl⟩

/-- Serving programs nothing yet, and moves no ring. -/
theorem memory (h : s.Served e) : e.store.array = s.store.array ∧ e.store.odo = s.store.odo ∧ e.store.save = s.store.save ∧
    e.store.conditions = s.store.conditions := by
  induction h with
  | rests => exact ⟨rfl, rfl, rfl, rfl⟩
  | resumes => exact ⟨rfl, rfl, rfl, rfl⟩
  | starts s q st _ _ hstart =>
    obtain ⟨harray, hodo, hsave, hconditions, -, -⟩ := start_memory hstart
    exact ⟨harray, hodo, hsave, hconditions⟩
  | refuses s e asker address value _ _ ih => exact ih

theorem sublist (h : s.Served e) : e.store.queue.Sublist s.store.queue := by
  induction h with
  | rests => exact .refl _
  | resumes => exact .refl _
  | starts s q st _ _ hstart =>
    obtain ⟨-, -, -, -, hqueue, -⟩ := start_memory hstart
    show st.queue.Sublist _
    rw [hqueue]
    exact List.erase_sublist
  | refuses s e asker address value _ _ ih => exact ih.trans List.erase_sublist

/-- A record in progress that serves a request of its ring has just begun (R161, R162). -/
theorem commit (h : s.Served e) {urgent again forRestart : Bool} (hq : .commit urgent again forRestart ∈ s.store.queue) :
    .commit urgent again forRestart ∈ e.store.queue ∨ (s.store.op = .idle ∧ e.store.opTimer = some (s.now + 4) ∧
      e.store.op = .record .odo (.commit urgent again forRestart) (odoRecord s.integ.tenths) 0 false s.integ.tenths) := by
  induction h with
  | rests => exact .inl hq
  | resumes => exact .inl hq
  | starts s q st hop hmem hstart =>
    by_cases hself : q = .commit urgent again forRestart
    · subst hself
      cases hstart
      exact .inr ⟨hop, rfl, rfl⟩
    · obtain ⟨-, -, -, -, hqueue, -⟩ := start_memory hstart
      refine .inl ?_
      show _ ∈ st.queue
      rw [hqueue]
      exact (List.mem_erase_of_ne (Ne.symm hself)).mpr hq
  | refuses s e asker address value hop _ ih =>
    obtain hstays | ⟨-, htimer, hbegun⟩ := ih ((List.mem_erase_of_ne (by simp)).mpr hq)
    · exact .inl hstays
    · exact .inr ⟨hop, htimer, hbegun⟩

theorem save (h : s.Served e) {keyOff reset again carried forRestart : Bool}
    (hq : .save keyOff reset again carried forRestart ∈ s.store.queue) :
    .save keyOff reset again carried forRestart ∈ e.store.queue ∨ (s.store.op = .idle ∧ e.store.opTimer = some (s.now + 4) ∧
      ∃ w, e.store.op = .record .save (.save keyOff reset again (carried || s.service.reset.isSome) forRestart) w 0 false
        s.integ.tenths) := by
  induction h with
  | rests => exact .inl hq
  | resumes => exact .inl hq
  | starts s q st hop hmem hstart =>
    by_cases hself : q = .save keyOff reset again carried forRestart
    · subst hself
      cases hstart
      exact .inr ⟨hop, rfl, _, rfl⟩
    · obtain ⟨-, -, -, -, hqueue, -⟩ := start_memory hstart
      refine .inl ?_
      show _ ∈ st.queue
      rw [hqueue]
      exact (List.mem_erase_of_ne (Ne.symm hself)).mpr hq
  | refuses s e asker address value hop _ ih =>
    obtain hstays | ⟨-, htimer, hbegun⟩ := ih ((List.mem_erase_of_ne (by simp)).mpr hq)
    · exact .inl hstays
    · exact .inr ⟨hop, htimer, hbegun⟩

end State.Served

/-! ## Delayed reads -/

/-- An answer is one of its four value bytes. -/
theorem Answered.of_fourBytes {l : Line} {r : Request} {g : Byte} {st : Status} {v v' : List Byte} (h : Answered l r g st v)
    (hv : fourBytes v = fourBytes v') : Answered l r g st v' := by
  unfold Answered replyData at h ⊢
  rwa [hv] at h

section

variable {s : State} {r : Request} {claim : Claim}

/-- The hold after a delayed read has been answered (R142). -/
theorem State.settleRead_hold (s : State) (asker : Station) (address : Byte) (claim : Claim) (value : Option Word) :
    (s.settleRead asker address claim value).hold =
      match claim, value with
      | .claiming, some _ => { phase := .held, station := asker, timer := some (s.now + 30000), latch := false }
      | .claiming, none => .cleared
      | _, _ => s.hold := by
  cases claim <;> cases value <;> rfl

theorem State.settleRead_keepsTraffic (s : State) (asker : Station) (address : Byte) (claim : Claim) (value : Option Word) :
    (s.settleRead asker address claim value).line = s.line.withTraffic (s.settleRead asker address claim value).line := by
  cases claim <;> cases value <;> exact Line.answer_traffic _ _ _ _ _ _

theorem State.settleRead_answered (hwaits : (⟨r.asker, 0x52, r.index, .waiting⟩ : PendingAnswer) ∈ s.line.pending)
    (value : Option Word) :
    (claim ≠ .dropped → (∀ w, value = some w → Answered (s.settleRead r.asker r.index claim value).line r 0x52 .done
        (bytesOf 2 w.toNat)) ∧
      (value = none → Answered (s.settleRead r.asker r.index claim value).line r 0x52 .failed [])) ∧
    (claim = .dropped → Answered (s.settleRead r.asker r.index claim value).line r 0x52 .locked []) := by
  refine ⟨fun hclaim => ⟨fun w hw => ?_, fun hnone => ?_⟩, fun hdropped => ?_⟩
  · subst hw
    cases claim with
    | plain => exact Line.answered_answer _ _ _ _ _ hwaits
    | claiming => exact Line.answered_answer _ _ _ _ _ hwaits
    | dropped => exact absurd rfl hclaim
  · subst hnone
    cases claim with
    | plain => exact Line.answered_answer _ _ _ _ _ hwaits
    | claiming => exact Line.answered_answer _ _ _ _ _ hwaits
    | dropped => exact absurd rfl hclaim
  · subst hdropped
    exact Line.answered_answer _ _ _ _ _ hwaits

end

/-- Whether a queued request is a read of a key that has waited its limit (R168). -/
def overdueRead (now : Stamp) (asker : Station) (address : Byte) : StoreRequest → Bool
  | .read a b _ limit => a = asker && b = address && isDue now limit
  | _ => false

theorem exec_readTimeout_of_found {t : Stamp} {s : State} {asker : Station} {address : Byte} {claim : Claim} {limit : Timer}
    (h : s.store.queue.find? (overdueRead t asker address) = some (.read asker address claim limit)) :
    exec (.readTimeout t asker address) s = .next (State.close s (State.settleRead { s with
      now := t, store := { s.store with queue := s.store.queue.erase (.read asker address claim limit) } }
      asker address claim none)) := by
  have hexec : exec (.readTimeout t asker address) s = .next (State.close s
      (match s.store.queue.find? (overdueRead t asker address) with
      | some (.read a b claim limit) => State.settleRead { s with
          now := t, store := { s.store with queue := s.store.queue.erase (.read a b claim limit) } } a b claim none
      | _ => s.stamped t)) := rfl
  rw [hexec, h]

/-- Settles O51: the answer of the read, which the store's next operation and the close keep. -/
theorem readsAreAnswered : Obligations.ReadsAreAnswered := by
  refine ⟨fun t s r claim hdue hop hwaits => ?_, fun t s r claim limit l₁ l₂ hqueue hdue hfirst hwaits => ?_⟩
  · intro w bytes
    let b : State := { s with now := t, store := s.store.ended }
    let a := b.settleRead r.asker r.index claim (some w)
    have hexec : exec (.readCompletion t) s = .next (State.close s a.serve) := by
      refine ((show exec (.readCompletion t) s = execReadCompletion t s from rfl).trans (State.expiry_of_due _ hdue)).trans ?_
      rw [show (s.stamped t).store.op = .reading r.asker r.index claim from hop]
      rfl
    have hserved := a.serve_served
    obtain ⟨hanswered, hlocked⟩ := State.settleRead_answered (s := b) (r := r) (claim := claim) hwaits (some w)
    have hkeeps : a.line.KeepsAnswers (State.close s a.serve).line := hserved.keeps.trans (State.close_keeps _ _)
    have hhold : a.hold = _ := State.settleRead_hold b r.asker r.index claim (some w)
    refine ⟨_, hexec, ?_, ?_, fun hclaim => ?_, fun hdropped => hkeeps _ _ _ _ (hlocked hdropped), fun hclaim => ?_,
      fun hclaim => ?_⟩
    · rw [State.close_store, hserved.memory.1]
      simp [a, b, Store.ended]
    · simp [a, b]
    · refine hkeeps _ _ _ _ (((hanswered hclaim).1 w rfl).of_fourBytes ?_)
      rw [bytesOf_two]
      rfl
    · rw [State.close_hold, hserved.hold, hhold]
      cases claim with
      | plain => rfl
      | dropped => rfl
      | claiming => exact absurd rfl hclaim
    · subst hclaim
      rw [State.close_hold, hserved.hold_of_clear (by rw [hhold]), hhold]
  · have hfound : s.store.queue.find? (overdueRead t r.asker r.index) = some (.read r.asker r.index claim limit) := by
      rw [hqueue, List.find?_append, List.find?_eq_none.mpr, Option.none_or, List.find?_cons]
      · simp [overdueRead, hdue]
      · intro q hq
        unfold overdueRead
        split
        next a b c k =>
          have hne := hfirst _ hq c k
          intro hmatch
          simp only [Bool.and_eq_true, decide_eq_true_eq] at hmatch
          obtain ⟨⟨rfl, rfl⟩, -⟩ := hmatch
          exact hne rfl
        next => exact Bool.false_ne_true
    have herase : s.store.queue.erase (.read r.asker r.index claim limit) = l₁ ++ l₂ := by
      rw [hqueue, List.erase_append_right _ fun hmem => hfirst _ hmem _ _ rfl, List.erase_cons_head]
    let b : State := { s with now := t, store := { s.store with queue := l₁ ++ l₂ } }
    have hexec : exec (.readTimeout t r.asker r.index) s =
        .next (State.close s (b.settleRead r.asker r.index claim none)) := by
      rw [exec_readTimeout_of_found hfound, herase]
    obtain ⟨hanswered, hlocked⟩ := State.settleRead_answered (s := b) (r := r) (claim := claim) hwaits none
    refine ⟨_, hexec, ?_, fun hclaim => State.close_keeps _ _ _ _ _ _ ((hanswered hclaim).2 rfl),
      fun hdropped => State.close_keeps _ _ _ _ _ _ (hlocked hdropped), ?_⟩
    · simp [b]
    · rw [State.close_hold, State.settleRead_hold]
      cases claim <;> rfl

end Sys2Proof.Machine
end

section
/-! The key-off save, and the commands that ask for records: SERVICE_RESET and RESTART (O31, O35). -/

namespace Sys2Proof.Machine

/-! ## Requests that join the queue -/

namespace Store

variable (st : Store)

/-- A commit stands in the queue. -/
def hasCommit : Prop := ∃ urgent again forRestart, .commit urgent again forRestart ∈ st.queue

/-- A save record stands in the queue. -/
def hasSave : Prop := ∃ keyOff reset again carried forRestart, .save keyOff reset again carried forRestart ∈ st.queue

theorem any_isCommit_iff : st.queue.any (·.isCommit) = true ↔ st.hasCommit := by
  rw [List.any_eq_true]
  constructor
  · rintro ⟨q, hq, hcommit⟩
    cases q with
    | commit u a f => exact ⟨u, a, f, hq⟩
    | _ => cases hcommit
  · rintro ⟨u, a, f, hq⟩
    exact ⟨_, hq, rfl⟩

theorem any_isSave_iff : st.queue.any (·.isSave) = true ↔ st.hasSave := by
  rw [List.any_eq_true]
  constructor
  · rintro ⟨q, hq, hsave⟩
    cases q with
    | save k x a c f => exact ⟨k, x, a, c, f, hq⟩
    | _ => cases hsave
  · rintro ⟨k, x, a, c, f, hq⟩
    exact ⟨_, hq, rfl⟩

/-- A commit asked for stands in the queue, as it was asked for. -/
theorem joinCommit_has (urgent forRestart : Bool) :
    ∃ u a f, .commit u a f ∈ (st.joinCommit urgent forRestart).queue ∧ (urgent = true → u = true) := by
  unfold joinCommit
  split
  next hany =>
    obtain ⟨u, a, f, hq⟩ := st.any_isCommit_iff.mp hany
    exact ⟨u || urgent, a, f || forRestart, List.mem_map.mpr ⟨_, hq, rfl⟩, fun h => by simp [h]⟩
  next => exact ⟨urgent, false, forRestart, List.mem_append_right _ List.mem_cons_self, id⟩

/-- A save record asked for stands in the queue, with the causes it was asked for. -/
theorem joinSave_has (keyOff reset forRestart : Bool) :
    ∃ k x a c f, .save k x a c f ∈ (st.joinSave keyOff reset forRestart).queue ∧ (reset = true → x = true) := by
  unfold joinSave
  split
  next hany =>
    obtain ⟨k, x, a, c, f, hq⟩ := st.any_isSave_iff.mp hany
    exact ⟨k || keyOff, x || reset, a, c, f || forRestart, List.mem_map.mpr ⟨_, hq, rfl⟩, fun h => by simp [h]⟩
  next => exact ⟨keyOff, reset, false, false, forRestart, List.mem_append_right _ List.mem_cons_self, id⟩

theorem joinSave_hasCommit {keyOff reset forRestart : Bool} (h : st.hasCommit) :
    (st.joinSave keyOff reset forRestart).hasCommit := by
  obtain ⟨u, a, f, hq⟩ := h
  unfold joinSave
  split
  · exact ⟨u, a, f, List.mem_map.mpr ⟨_, hq, rfl⟩⟩
  · exact ⟨u, a, f, List.mem_append_left _ hq⟩

/-- What joining leaves of the store: all but the queue. -/
theorem joinCommit_frame (urgent forRestart : Bool) :
    st.joinCommit urgent forRestart = { st with queue := (st.joinCommit urgent forRestart).queue } := by
  unfold joinCommit
  split <;> rfl

theorem joinSave_frame (keyOff reset forRestart : Bool) :
    st.joinSave keyOff reset forRestart = { st with queue := (st.joinSave keyOff reset forRestart).queue } := by
  unfold joinSave
  split <;> rfl

/-- What a suspension leaves of the store: the queue, the rings and the array; and the operation, where it is no erase. -/
theorem suspendFor_frame (now : Stamp) (target : BlockId) (st : Store) :
    st.suspendFor now target = { st with
      op := (st.suspendFor now target).op, opTimer := (st.suspendFor now target).opTimer
      suspended := (st.suspendFor now target).suspended } ∧
    ((st.suspendFor now target).op = st.op ∨ ((st.suspendFor now target).op = .idle ∧ ∃ job since, st.op = .erasing job since)) := by
  unfold suspendFor
  split
  next job since hop =>
    split
    · exact ⟨rfl, .inl rfl⟩
    · exact ⟨rfl, .inr ⟨rfl, job, since, hop⟩⟩
  next => exact ⟨rfl, .inl rfl⟩

/-- No record was in progress where a suspension leaves the store idle. -/
theorem op_of_suspendFor_idle {now : Stamp} {target : BlockId} {st : Store} (h : (st.suspendFor now target).op = .idle) :
    st.op = .idle ∨ ∃ job since, st.op = .erasing job since := by
  obtain ⟨-, hsame | ⟨-, herase⟩⟩ := suspendFor_frame now target st
  · exact .inl (hsame.symm.trans h)
  · exact .inr herase

end Store

/-! ## The key-off save -/

/-- A record has started where an idle store, or one with an erase in flight, stood before. -/
theorem Store.not_record_of_idle {op : StoreOp} (h : op = .idle ∨ ∃ job since, op = .erasing job since)
    (r : Ring) (q : StoreRequest) (w : List Word) (n : Nat) (ab : Bool) (d : Nat) : op ≠ .record r q w n ab d := by
  obtain rfl | ⟨job, since, rfl⟩ := h <;> simp

/-- A key-off save asked for in `s` stands in `x`: each record queued, or newly begun, and none before a commit (R164). -/
structure Store.KeyOffSaved (x : Store) (t : Stamp) (s : State) : Prop where
  odo : s.store.odo.failed = false → x.queue.any (·.isCommit) = true ∨ ∃ q, x.NewlyBegun t .odo q s
  save : s.store.save.failed = false → x.queue.any (·.isSave) = true ∨ ∃ q, x.NewlyBegun t .save q s
  order : x.queue.Pairwise fun a b => ¬ (a.isSave = true ∧ b.isCommit = true)

namespace Store

variable (st : Store)

theorem joinKeyOff_frame (forRestart : Bool) :
    st.joinKeyOff forRestart = { st with queue := (st.joinKeyOff forRestart).queue } := by
  unfold joinKeyOff
  dsimp only
  rw [st.joinCommit_frame]
  (repeat' split) <;> first | rfl | (rw [Store.joinSave_frame])

theorem joinKeyOff_hasCommit {forRestart : Bool} (h : st.odo.failed = false) : (st.joinKeyOff forRestart).hasCommit := by
  obtain ⟨u, a, f, hq, -⟩ := st.joinCommit_has false forRestart
  have hjoined : Store.hasCommit (if st.odo.failed then st else st.joinCommit false forRestart) := by
    rw [if_neg (by simp [h])]
    exact ⟨u, a, f, hq⟩
  have hboth : ∀ y : Store, y.hasCommit →
      Store.hasCommit (if y.save.failed then y else y.joinSave true false forRestart) := by
    intro y hy
    split
    · exact hy
    · exact y.joinSave_hasCommit hy
  obtain ⟨u, a, f, hq⟩ := hboth _ hjoined
  exact ⟨u, a, f, mem_savesBehindCommit.mpr hq⟩

theorem joinKeyOff_hasSave {forRestart : Bool} (h : st.save.failed = false) : (st.joinKeyOff forRestart).hasSave := by
  have hsave : ∀ y : Store, y.save.failed = false →
      Store.hasSave (if y.save.failed then y else y.joinSave true false forRestart) := by
    intro y hy
    obtain ⟨k, x, a, c, f, hq, -⟩ := y.joinSave_has true false forRestart
    rw [if_neg (by simp [hy])]
    exact ⟨k, x, a, c, f, hq⟩
  have hring : (if st.odo.failed then st else st.joinCommit false forRestart).save.failed = false := by
    split
    · exact h
    · rw [st.joinCommit_frame]
      exact h
  obtain ⟨k, x, a, c, f, hq⟩ := hsave _ hring
  exact ⟨k, x, a, c, f, mem_savesBehindCommit.mpr hq⟩

theorem joinKeyOff_order (forRestart : Bool) :
    (st.joinKeyOff forRestart).queue.Pairwise fun a b => ¬ (a.isSave = true ∧ b.isCommit = true) :=
  savesBehindCommit_pairwise _

theorem suspendForKeyOff_frame (now : Stamp) :
    (st.suspendForKeyOff now).queue = st.queue ∧
    ((st.suspendForKeyOff now).op = .idle → st.op = .idle ∨ ∃ job since, st.op = .erasing job since) := by
  have hone (y : Store) (failed : Bool) (b : BlockId) :
      (if failed then y else y.suspendFor now b).queue = y.queue ∧
      ((if failed then y else y.suspendFor now b).op = .idle → y.op = .idle ∨ ∃ job since, y.op = .erasing job since) := by
    cases failed
    · refine ⟨?_, op_of_suspendFor_idle⟩
      rw [if_neg Bool.false_ne_true, (suspendFor_frame now b y).1]
    · exact ⟨rfl, .inl⟩
  let y := if st.odo.failed then st else st.suspendFor now st.odo.current
  obtain ⟨hqueue, hop⟩ := hone st st.odo.failed st.odo.current
  obtain ⟨hqueue', hop'⟩ := hone y y.save.failed y.save.current
  refine ⟨hqueue'.trans hqueue, fun h => ?_⟩
  obtain hidle | herase := hop' h
  · exact hop hidle
  · by_cases hfailed : st.odo.failed = true
    · exact .inr (by rwa [show y = st from if_pos hfailed] at herase)
    · obtain hsame | ⟨hidle, -⟩ := (suspendFor_frame now st.odo.current st).2
      · exact .inr (by rwa [show y.op = st.op by rw [show y = _ from if_neg hfailed, hsame]] at herase)
      · obtain ⟨job, since, herase⟩ := herase
        exact absurd ((show y.op = .idle by rw [show y = _ from if_neg hfailed, hidle]).symm.trans herase) (by simp)

end Store

/-- A key-off save that has joined stands once the store has served. -/
theorem State.serve_keyOffSaved {s y : State} {t : Stamp} {forRestart : Bool} (hstore : y.store = s.store.joinKeyOff forRestart)
    (hnow : y.now = t) (htenths : y.integ.tenths = s.integ.tenths) :
    Store.KeyOffSaved (State.serve { y with store := y.store.suspendForKeyOff y.now }).store t s := by
  have hserved := State.serve_served { y with store := y.store.suspendForKeyOff y.now }
  obtain ⟨hqueue, hop⟩ := y.store.suspendForKeyOff_frame y.now
  have hbefore (h : (y.store.suspendForKeyOff y.now).op = .idle) (r : Ring) (q : StoreRequest) (w : List Word) (n : Nat)
      (ab : Bool) (d : Nat) : s.store.op ≠ .record r q w n ab d := by
    refine Store.not_record_of_idle ?_ r q w n ab d
    have hstood := hop h
    rwa [hstore, s.store.joinKeyOff_frame] at hstood
  refine ⟨fun hodo => ?_, fun hsave => ?_, ?_⟩
  · obtain ⟨u, a, f, hq⟩ := s.store.joinKeyOff_hasCommit (forRestart := forRestart) hodo
    rw [Store.any_isCommit_iff]
    obtain hstays | ⟨hidle, htimer, hbegun⟩ := hserved.commit (urgent := u) (again := a) (forRestart := f) (by
      show _ ∈ (y.store.suspendForKeyOff y.now).queue
      rwa [hqueue, hstore])
    · exact .inl ⟨u, a, f, hstays⟩
    · refine .inr ⟨.commit u a f, hbefore hidle, ?_, odoRecord y.integ.tenths, ?_, fun _ => by rw [htenths]⟩
      · rw [htimer, ← hnow]
      · rw [hbegun, ← htenths]
  · obtain ⟨k, x, a, c, f, hq⟩ := s.store.joinKeyOff_hasSave (forRestart := forRestart) hsave
    rw [Store.any_isSave_iff]
    obtain hstays | ⟨hidle, htimer, w, hbegun⟩ := hserved.save (keyOff := k) (reset := x) (again := a) (carried := c)
      (forRestart := f) (by
        show _ ∈ (y.store.suspendForKeyOff y.now).queue
        rwa [hqueue, hstore])
    · exact .inl ⟨k, x, a, c, f, hstays⟩
    · refine .inr ⟨.save k x a (c || y.service.reset.isSome) f, hbefore hidle, ?_, w, ?_, fun h => nomatch h⟩
      · rw [htimer, ← hnow]
      · rw [hbegun, ← htenths]
  · refine List.Pairwise.sublist hserved.sublist ?_
    show (y.store.suspendForKeyOff y.now).queue.Pairwise _
    rw [hqueue, hstore]
    exact Store.joinKeyOff_order _ _

/-! ## SERVICE_RESET -/

section

variable {s x : State} {t : Stamp} {r : Request}

/-- A reset asked for while the save ring is FAILED fails at once (R157). -/
theorem State.requestSave_of_failed {p : PendingReset} (hreset : x.service.reset = some p) (hfailed : x.store.save.failed = true) :
    x.requestSave false true false =
      (State.clearLatch { x with service := { x.service with reset := none } }).answer p.asker 0x62
        (BitVec.ofNat 8 p.selector) .failed := by
  have hsettle : x.requestSave false true false = x.settleReset false := if_pos hfailed
  have hsame : serviceState { x with service := { x.service with reset := none } } = serviceState x := rfl
  rw [hsettle, State.settleReset, hreset]
  dsimp only
  rw [if_neg Bool.false_ne_true, if_neg Bool.false_ne_true, State.withService_of_same hsame]

/-- A save record asked for stands in the queue or has begun, with its cause; where a reset is pending the begun one carries it. -/
theorem State.arrive_save (target : BlockId) {keyOff again carried forRestart : Bool} (hpending : x.service.reset.isSome = true)
    (hq : .save keyOff true again carried forRestart ∈ x.store.queue) :
    .save keyOff true again carried forRestart ∈ (x.arrive target).store.queue ∨
      ∃ w, (x.arrive target).store.op = .record .save (.save keyOff true again true forRestart) w 0 false x.integ.tenths := by
  have hqueue : (x.store.suspendFor x.now target).queue = x.store.queue := by rw [(Store.suspendFor_frame x.now target x.store).1]
  obtain hstays | ⟨-, -, w, hbegun⟩ :=
    (State.serve_served { x with store := x.store.suspendFor x.now target }).save (hqueue ▸ hq)
  · exact .inl hstays
  · refine .inr ⟨w, hbegun.trans ?_⟩
    rw [show (State.service { x with store := x.store.suspendFor x.now target }).reset.isSome = true from hpending, Bool.or_true]

/-- Settles O31: the checks in their order, and the save record that the reset asks for. -/
theorem serviceResetIsTaken : Obligations.ServiceResetIsTaken := by
  intro t r s hhears hphase hstation h o good
  have hholder : h.hold.isHolder r.asker = true := State.heard_holder_of hphase hstation
  have ho : o = .next (State.close s (if !h.primary then h.answer r.asker 0x62 r.index .notNow
      else h.ifHolder r 0x62 r.index fun s => s.takeReset r r.index)) := by
    rw [show o = _ from State.request_heard s t "SERVICE_RESET" 0x62 r _ hhears, State.unlessStranger_of_holder _ hholder]
  refine ⟨fun hmirror => ?_, fun hprimary => ?_⟩
  · rw [ho, if_pos (by simp [h, hmirror])]
    exact answersWith_heard _ _
  rw [ho, if_neg (by simp [h, hprimary]), State.ifHolder_of_holder _ hholder, State.takeReset, show h.hold.latch = s.hold.latch from
    State.heard_latch _ _ _ _, show h.service = s.service from State.heard_service _ _ _ _, show h.key.pins = s.key.pins from
    State.heard_pins _ _ _ _]
  refine ⟨fun hbad => ?_, fun hgood hindex => ?_, fun hgood hindex hlatch => ?_, fun hgood hindex hlatch hreset => ?_,
    fun hgood hindex hlatch hreset hlow => ?_, fun hgood hindex hlatch hreset hlow => ?_⟩
  · rw [if_pos hbad]
    exact answersWith_badComplement
  all_goals rw [if_neg (not_not.mpr hgood)]
  · rw [if_pos hindex]
    exact answersWith_heard _ _
  all_goals rw [if_neg (by omega)]
  · rw [if_pos (by simp [hlatch])]
    exact answersWith_refuse _
  all_goals rw [if_neg (by simp [hlatch])]
  · rw [if_pos (Option.isSome_iff_ne_none.mpr hreset)]
    exact answersWith_heard _ _
  all_goals rw [if_neg (by simp [hreset])]
  · rw [if_pos hlow]
    exact answersWith_heard _ _
  rw [if_neg (by simp [hlow])]
  let p : PendingReset := { asker := r.asker, selector := r.index.toNat }
  let y : State := { h with service := { s.service with reset := some p } }
  refine ⟨fun hfailed => ?_, fun hworks => ?_⟩
  · have hfails : y.requestSave false true false = _ := State.requestSave_of_failed (x := y) (p := p) rfl (by simp [y, h, hfailed])
    refine ⟨_, rfl, State.close_keeps _ _ _ _ _ _ ?_, ?_, ?_, ?_⟩
    · rw [hfails, show BitVec.ofNat 8 p.selector = r.index by simp [p]]
      exact Line.answered_answer _ _ _ _ _ (s.heard_waiting t 0x62 r)
    · rw [State.close_service, hfails]
      show { s.service with reset := none } = s.service
      rw [← hreset]
    · rw [State.close_hold, hfails]
      rfl
    · rw [State.close_store, hfails]
      exact s.heard_store t 0x62 r
  · let z : State := { y with store := y.store.joinSave false true false }
    let f := z.arrive y.store.save.current
    have hfrom : y.requestSave false true false = f := if_neg (by simp [y, h, hworks])
    have hserved : State.Served { z with store := z.store.suspendFor z.now y.store.save.current } f := State.serve_served _
    refine ⟨State.close s f, congrArg (fun y => Host.Outcome.next (State.close s y)) hfrom, ?_, ?_⟩
    · rw [State.close_store, State.close_hold]
      refine State.close_eq_withTraffic (b := { y with store := f.store, hold := { h.hold with latch := f.hold.latch } }) ?_
        hserved.traffic s
      have hhanded := congrArg State.handed hserved.frame
      rw [show f.handed = h.handed from hhanded]
      exact hserved.frame
    · rw [State.close_store]
      obtain ⟨k, c, a, ca, fr, hq, hcause⟩ := y.store.joinSave_has false true false
      obtain rfl := hcause rfl
      obtain hstays | ⟨w, hbegun⟩ := State.arrive_save (x := z) y.store.save.current rfl hq
      · exact .inl ⟨k, a, fr, by cases ca <;> simp [f, hstays]⟩
      · exact .inr ⟨k, a, fr, w, 0, false, _, hbegun⟩

end

/-! ## RESTART -/

/-- Whether a queued request outlasts the drain of a RESTART: commits and save records do (R195). -/
def outlastsDrain (q : StoreRequest) : Bool := q.isCommit || q.isSave

/-- The store runs out from `b` on: the hold has ended, and only commits and save records stay queued (R195). -/
structure State.Drains (w : RestartWait) (b e : State) : Prop where
  frame : e = { b with
    hold := .cleared, store := { b.store with queue := b.store.queue.filter outlastsDrain }
    key := { b.key with restart := some { w with draining := true } }, line := e.line }
  keeps : b.line.KeepsAnswers e.line

/-- The read of a queue's entry answered FAILED at the start of the drain (R195). -/
def failRead (s : State) (q : StoreRequest) : State :=
  match q with
  | .read asker address claim _ => s.settleRead asker address claim none
  | _ => s

/-- With no hold, the failed reads move the line alone. -/
theorem foldl_failRead (xs : List StoreRequest) {s : State} (hhold : s.hold = .cleared) :
    xs.foldl failRead s = { s with line := (xs.foldl failRead s).line } ∧
      s.line.KeepsAnswers (xs.foldl failRead s).line := by
  have hone (x : State) (hx : x.hold = .cleared) (q : StoreRequest) :
      failRead x q = { x with line := (failRead x q).line } ∧ x.line.KeepsAnswers (failRead x q).line := by
    unfold failRead
    split
    next asker address claim _ =>
      cases claim with
      | plain => exact ⟨rfl, State.answer_keeps _ _ _ _ _ _⟩
      | dropped => exact ⟨rfl, State.answer_keeps _ _ _ _ _ _⟩
      | claiming =>
        have hback : ({ x with hold := .cleared } : State) = x := by rw [← hx]
        refine ⟨?_, State.answer_keeps _ _ _ _ _ _⟩
        show (State.answer { x with hold := .cleared } _ _ _ _ _) = _
        rw [hback]
        rfl
    next => exact ⟨rfl, .refl _⟩
  induction xs generalizing s with
  | nil => exact ⟨rfl, .refl _⟩
  | cons q xs ih =>
    obtain ⟨hframe, hkeeps⟩ := hone s hhold q
    have hhold' : (failRead s q).hold = .cleared := by
      rw [hframe]
      exact hhold
    obtain ⟨hrest, hkeeps'⟩ := ih hhold'
    refine ⟨?_, hkeeps.trans hkeeps'⟩
    rw [List.foldl_cons, hrest]
    exact congrArg (fun y : State => { y with line := (xs.foldl failRead (failRead s q)).line }) hframe

/-- What is left of the queue at the drain. -/
theorem filter_outlastsDrain (q : List StoreRequest) :
    ((q.filter outlastsHold).filter outlastsHold).filter (fun r => match r with | .read .. => false | .erase .. => false | _ => true) =
      q.filter outlastsDrain := by
  rw [List.filter_filter, List.filter_filter]
  refine List.filter_congr fun r _ => ?_
  cases r with
  | erase owner block => cases owner <;> rfl
  | _ => rfl

/-- The hold ended with no reset pending, and the configuration operations withdrawn (R167, R195). -/
theorem State.endHold_withdrawConfig {b : State} (hphase : b.hold.phase = .held) (hreset : b.service.reset = none) :
    b.endHold.withdrawConfig = { b with
      hold := .cleared, store := { b.store with queue := (b.store.queue.filter outlastsHold).filter outlastsHold }
      line := b.endHold.withdrawConfig.line } ∧
    b.line.KeepsAnswers b.endHold.withdrawConfig.line := by
  have hends : b.EndsHold b.endHold := State.endHold_endsHold hphase
  obtain ⟨hservice, hstore, -, -, -⟩ := hends.ended
  rw [hreset] at hservice hstore
  have hframe := hends.frame
  rw [show b.endHold.service = b.service from hservice,
    show b.endHold.store = { b.store with queue := b.store.queue.filter outlastsHold } from hstore] at hframe
  rw [State.withdrawConfig_eq]
  refine ⟨?_, hends.keeps.trans (foldl_abortRequest_keeps _ _)⟩
  rw [hframe]

theorem State.beginDrain_drains {b : State} (w : RestartWait) (hphase : b.hold.phase = .held) (hreset : b.service.reset = none) :
    b.Drains w (b.beginDrain w) := by
  obtain ⟨hended, hkeeps⟩ := State.endHold_withdrawConfig hphase hreset
  let e := b.endHold.withdrawConfig
  let d : State := { e with
    store := { e.store with queue := e.store.queue.filter fun r => match r with | .read .. => false | .erase .. => false | _ => true }
    key := { e.key with restart := some { w with draining := true } } }
  have hhold : d.hold = .cleared := by
    have hcleared := congrArg State.hold hended
    exact hcleared
  have hdrain : b.beginDrain w = e.store.queue.foldl failRead d := by
    have hopen : (if e.hold.phase = .opening then
        { e with hold := .cleared, store := e.store.reclaim fun c => if c = .claiming then .plain else c } else e) = e :=
      if_neg (by rw [show e.hold = .cleared from hhold]; exact fun h => nomatch h)
    unfold State.beginDrain
    dsimp only
    rw [show b.endHold.withdrawConfig = e from rfl, hopen]
    rfl
  have hd : d = { b with
      hold := .cleared, store := { b.store with queue := b.store.queue.filter outlastsDrain }
      key := { b.key with restart := some { w with draining := true } }, line := e.line } := by
    have hqueue : e.store.queue.filter (fun r => match r with | .read .. => false | .erase .. => false | _ => true) =
        b.store.queue.filter outlastsDrain := by
      rw [show e.store.queue = (b.store.queue.filter outlastsHold).filter outlastsHold from congrArg (fun y : State => y.store.queue) hended]
      exact filter_outlastsDrain _
    rw [← hqueue]
    exact congrArg (fun y : State => { y with
      store := { y.store with queue := e.store.queue.filter fun r => match r with | .read .. => false | .erase .. => false | _ => true }
      key := { y.key with restart := some { w with draining := true } } }) hended
  obtain ⟨hlast, hanswers⟩ := foldl_failRead e.store.queue hhold
  rw [hdrain]
  refine ⟨?_, hkeeps.trans hanswers⟩
  rw [hlast]
  exact congrArg (fun y : State => { y with line := (e.store.queue.foldl failRead d).line }) hd

/-- What a RESTART taken on `b` has come to before the event closes: its wait stands for the records of the rings that work, and
the hold ends, the store running out, where there is none (R195). -/
structure State.Restarts (odo save : Bool) (b e : State) : Prop where
  frame : e = { b with hold := e.hold, store := e.store, key := { b.key with restart := e.key.restart }, line := e.line }
  keeps : b.line.KeepsAnswers e.line
  restart : e.key.restart = some { commitOpen := odo, saveOpen := save, draining := !(odo || save) }
  waits : (odo || save) = true → e.hold.phase = .held ∧ e.hold.station = b.hold.station
  drains : (odo || save) = false → e.hold = .cleared ∧ ∀ q ∈ e.store.queue, q.isCommit = true ∨ q.isSave = true

theorem outlastsDrain_of_mem {xs : List StoreRequest} {q : StoreRequest} (h : q ∈ xs.filter outlastsDrain) :
    q.isCommit = true ∨ q.isSave = true :=
  Bool.or_eq_true_iff.mp (List.mem_filter.mp h).2

theorem State.Drains.restarts {b e : State} {w : RestartWait} (h : b.Drains w e) (hopen : w.commitOpen = false ∧ w.saveOpen = false) :
    b.Restarts false false e := by
  obtain ⟨hframe, hkeeps⟩ := h
  obtain ⟨hcommit, hsave⟩ := hopen
  refine ⟨?_, hkeeps, ?_, (fun h => nomatch h), fun _ => ⟨?_, fun q hq => ?_⟩⟩
  · rw [hframe]
  · rw [hframe, hcommit, hsave]
    rfl
  · rw [hframe]
  · rw [hframe] at hq
    exact outlastsDrain_of_mem hq

/-- The store serves once the wait stands; with the store running out no latch is left to clear. -/
theorem State.Restarts.served {odo save : Bool} {b e f : State} {st : Store} (h : b.Restarts odo save e)
    (hqueue : st.queue = e.store.queue) (hserved : State.Served { e with store := st } f) : b.Restarts odo save f := by
  obtain ⟨hframe, hkeeps, hrestart, hwaits, hdrains⟩ := h
  have hmoved := hserved.frame
  have hhold := hserved.hold
  have hkey : f.key = e.key := by
    have hsame := congrArg State.key hmoved
    exact hsame
  refine ⟨?_, hkeeps.trans hserved.keeps, by rw [hkey, hrestart], fun h => ?_, fun h => ⟨?_, fun q hq => ?_⟩⟩
  · rw [hkey, hhold]
    refine hmoved.trans ?_
    exact congrArg (fun y : State => { y with
      hold := { e.hold with latch := f.hold.latch }, store := f.store, line := f.line }) hframe
  · rw [hhold]
    exact hwaits h
  · refine (hserved.hold_of_clear ?_).trans (hdrains h).1
    show e.hold.latch = false
    rw [(hdrains h).1]
    rfl
  · refine (hdrains h).2 q ?_
    rw [← hqueue]
    exact hserved.sublist.subset hq

/-- The key-off save of a RESTART: the records of the rings that work are asked for, and those of the FAILED ones count as failed
at once (R157, R195). -/
theorem State.keyOffSave_restarts {b : State} {w : RestartWait} (hphase : b.hold.phase = .held) (hreset : b.service.reset = none)
    (hwait : b.key.restart = some w) (hw : w = { commitOpen := true, saveOpen := true, draining := false }) :
    b.Restarts (!b.store.odo.failed) (!b.store.save.failed) (b.keyOffSave true) ∧
      ∀ s : State, s.store = b.store → s.integ.tenths = b.integ.tenths → (b.keyOffSave true).store.KeyOffSaved b.now s := by
  let j : State := { b with store := b.store.joinKeyOff true }
  let c := j.closeRestart b.store.odo.failed b.store.save.failed
  let w' : RestartWait := { commitOpen := !b.store.odo.failed, saveOpen := !b.store.save.failed, draining := false }
  have hsave : b.keyOffSave true = State.serve { c with store := c.store.suspendForKeyOff c.now } := by
    have hrings : j.store.odo.failed = b.store.odo.failed ∧ j.store.save.failed = b.store.save.failed := by
      show (b.store.joinKeyOff true).odo.failed = _ ∧ (b.store.joinKeyOff true).save.failed = _
      rw [b.store.joinKeyOff_frame]
      exact ⟨rfl, rfl⟩
    unfold State.keyOffSave
    dsimp only
    rw [if_pos rfl, show (b.store.joinKeyOff true).odo.failed = _ from hrings.1,
      show (b.store.joinKeyOff true).save.failed = _ from hrings.2]
  have hclose : c = if w'.commitOpen = false ∧ w'.saveOpen = false then j.beginDrain w' else
      { j with key := { j.key with restart := some w' } } := by
    show j.closeRestart _ _ = _
    unfold State.closeRestart
    rw [show j.key.restart = some w from hwait, hw]
    simp [w']
  have hserved := State.serve_served { c with store := c.store.suspendForKeyOff c.now }
  have hqueue := (c.store.suspendForKeyOff_frame c.now).1
  rw [hsave]
  by_cases hboth : w'.commitOpen = false ∧ w'.saveOpen = false
  · obtain ⟨hodo, hsaved⟩ := hboth
    have hdrains : j.Drains w' c := by
      rw [hclose, if_pos ⟨hodo, hsaved⟩]
      exact State.beginDrain_drains w' hphase hreset
    have hj : j.Restarts false false c := hdrains.restarts ⟨hodo, hsaved⟩
    have hb : b.Restarts false false c := ⟨hj.frame.trans rfl, hj.keeps, hj.restart, hj.waits, hj.drains⟩
    rw [show (!b.store.odo.failed) = false from hodo, show (!b.store.save.failed) = false from hsaved]
    refine ⟨hb.served hqueue hserved, fun s hstore _ => ⟨fun h => ?_, fun h => ?_, ?_⟩⟩
    · rw [hstore] at h
      exact absurd hodo (by simp [w', h])
    · rw [hstore] at h
      exact absurd hsaved (by simp [w', h])
    · refine List.Pairwise.sublist hserved.sublist ?_
      show (c.store.suspendForKeyOff c.now).queue.Pairwise _
      rw [hqueue, hdrains.frame]
      exact List.Pairwise.sublist List.filter_sublist (b.store.joinKeyOff_order true)
  · have hc : c = { j with key := { j.key with restart := some w' } } := by rw [hclose, if_neg hboth]
    have hsome : (w'.commitOpen || w'.saveOpen) = true := by
      rw [← Bool.not_eq_false, Bool.or_eq_false_iff]
      exact hboth
    have hb : b.Restarts w'.commitOpen w'.saveOpen c := by
      rw [hc]
      refine ⟨rfl, .refl _, ?_, fun _ => ⟨hphase, rfl⟩, fun h => absurd h (by rw [hsome]; decide)⟩
      rw [hsome]
      rfl
    refine ⟨hb.served hqueue hserved, fun s hstore htenths => ?_⟩
    refine State.serve_keyOffSaved (forRestart := true) ?_ ?_ ?_
    · rw [hc, hstore]
    · rw [hc]
    · rw [hc, htenths]

/-- Settles O35: the answer, then the key-off save of the rings that work or the drain. -/
theorem restartIsTaken : Obligations.RestartIsTaken := by
  intro t r s hhears hphase hstation o odo save
  let h := s.heard t 0x67 r
  let b := h.answer r.asker 0x67 r.index .done
  have ho : o = .next (State.close s (if h.key.restart.isSome || h.service.reset.isSome then h.answer r.asker 0x67 r.index .busy
      else b.beginRestart)) := by
    rw [show o = _ from State.request_heard s t "RESTART" 0x67 r _ hhears,
      State.ifHolder_of_holder _ (State.heard_holder_of hphase hstation)]
  rw [show h.key.restart = _ from State.heard_restart _ _ _ _, show h.service = _ from State.heard_service _ _ _ _] at ho
  refine ⟨fun hbusy => ?_, fun hrestart hreset => ?_⟩
  · rw [ho, if_pos (by simpa [Option.isSome_iff_ne_none] using hbusy)]
    exact answersWith_heard _ _
  rw [if_neg (by simp [hrestart, hreset])] at ho
  have hbphase : b.hold.phase = .held := by simp [b, h, hphase]
  have hbreset : b.service.reset = none := by simp [b, h, hreset]
  have hrestarts : b.Restarts odo save b.beginRestart ∧ (s.primary = true → b.beginRestart.store.KeyOffSaved t s) := by
    unfold State.beginRestart
    by_cases hprimary : s.primary = true
    · rw [if_pos (show b.primary = true from (s.heard_primary t 0x67 r).trans hprimary)]
      let w : RestartWait := { commitOpen := true, saveOpen := true, draining := false }
      let c : State := { b with key := { b.key with restart := some w } }
      obtain ⟨hends, hsaved⟩ := State.keyOffSave_restarts (b := c) hbphase hbreset rfl rfl
      have hstore : b.store = s.store := s.heard_store t 0x67 r
      rw [show c.store = s.store from hstore] at hends
      have hodo : odo = !s.store.odo.failed := by simp [odo, hprimary]
      have hsave : save = !s.store.save.failed := by simp [save, hprimary]
      rw [hodo, hsave]
      refine ⟨⟨hends.frame, hends.keeps, hends.restart, hends.waits, hends.drains⟩, fun _ => ?_⟩
      have hnow : c.now = t := s.heard_now t 0x67 r
      rw [← hnow]
      exact hsaved s hstore.symm (by rw [show c.integ = s.integ from s.heard_integ t 0x67 r])
    · have hmirror : s.primary = false := Bool.eq_false_iff.mpr hprimary
      rw [if_neg (show ¬ b.primary = true from fun hb => hprimary ((s.heard_primary t 0x67 r).symm.trans hb))]
      have hodo : odo = false := by simp [odo, hmirror]
      have hsave : save = false := by simp [save, hmirror]
      rw [hodo, hsave]
      exact ⟨(State.beginDrain_drains _ hbphase hbreset).restarts ⟨rfl, rfl⟩, fun h => absurd h hprimary⟩
  obtain ⟨⟨hframe, hkeeps, hwait, hwaits, hdrains⟩, hsaved⟩ := hrestarts
  have hanswered : Answered b.line r 0x67 .done [] := Line.answered_answer _ _ _ _ _ (s.heard_waiting t 0x67 r)
  refine ⟨_, ho, State.close_keeps _ _ _ _ _ _ (hkeeps _ _ _ _ hanswered), ?_⟩
  rw [State.close_key, State.close_slots, State.close_integ, State.close_gauges, State.close_trip, State.close_service,
    State.close_hold, State.close_store]
  have hstation' : b.hold.station = r.asker := by simp [b, h, hstation]
  refine ⟨?_, ?_, ?_, ?_, ?_, ?_, ?_, hwait, fun h => hstation' ▸ hwaits h, fun h => (hsaved ?_).odo ?_,
    fun h => (hsaved ?_).save ?_, fun h => (hsaved h).order, hdrains⟩
  all_goals first
    | (rw [hframe]; simp [b, h])
    | (simp only [odo, save, Bool.and_eq_true, Bool.not_eq_true'] at h; simp [h])

end Sys2Proof.Machine
end

section
/-! A change of key state taken by the blocks (R189), to OFF and to ACC or RUN (O11, O12). -/

namespace Sys2Proof.Machine

/-! ## What the message line does to its queue -/

namespace Display

/-- A queue whose first shown entry may have had its duration started (R125). -/
def Started (now : Stamp) (q q' : List Message) : Prop := q' = q ∨ ∃ id, q' = updateId q id (startDuration now)

theorem switch_started (now : Stamp) (d : Display) : Started now d.queue (d.switch now).queue := by
  unfold switch
  split
  next m _ => exact .inr ⟨m.id, beginShow_queue _ _ _⟩
  next => exact .inl rfl

theorem compare_started (now : Stamp) (d : Display) : Started now d.queue (d.compare now).queue := by
  unfold compare
  split
  · exact .inl rfl
  · split
    · exact switch_started now d
    · split
      · exact .inl (keepRotation_queue _ _)
      · split
        · exact .inl (keepRotation_queue _ _)
        · exact switch_started now d

theorem queueChanged_started (v : DisplayView) (d : Display) : Started v.now d.queue (d.queueChanged v).queue := by
  unfold queueChanged
  dsimp only
  split
  · have hstarted := compare_started v.now (d.workOutMode v)
    rwa [workOutMode_queue] at hstarted
  · exact .inl (workOutMode_queue _ _)

theorem settle_started (v : DisplayView) (d : Display) : Started v.now d.queue (d.settle v).queue := by
  unfold settle
  split
  · exact switch_started _ _
  · split <;> exact .inl rfl

/-- A queue of PERSISTENT entries stays one. -/
theorem Started.persistent {now : Stamp} {q q' : List Message} (h : Started now q q') (hq : ∀ m ∈ q, m.duration = none) :
    ∀ m ∈ q', m.duration = none := by
  obtain rfl | ⟨id, rfl⟩ := h
  · exact hq
  · intro m hm
    obtain ⟨x, hx, rfl⟩ := List.mem_map.mp hm
    split
    · rw [(startDuration_key now x).2.2]
      exact hq x hx
    · exact hq x hx

/-- At OFF no TIMED entry stays (R126). -/
theorem keyChange_persistent (v : DisplayView) (d : Display) : ∀ m ∈ (d.keyChange v true).queue, m.duration = none := by
  refine (queueChanged_started v _).persistent fun m hm => ?_
  exact Option.isNone_iff_eq_none.mp (List.mem_filter.mp hm).2

theorem keyChange_ids (v : DisplayView) (d : Display) :
    (d.keyChange v false).queue.map (·.id) = d.queue.map (·.id) := queueChanged_ids _ _

/-- A post finds its id in the queue, or the queue full (R118 to R120). -/
theorem post_ids (v : DisplayView) (p : Post) (d : Display) :
    p.id ∈ (d.post v p).queue.map (·.id) ∨ 8 ≤ ((d.post v p).queue.map (·.id)).length := by
  have hinserted (q : List Message) (m : Message) : m.id ∈ (insertMessage q m).map (·.id) :=
    List.mem_map.mpr ⟨m, by simp [insertMessage], rfl⟩
  unfold post
  dsimp only
  split
  next hhas =>
    obtain ⟨m, hm, hid⟩ := List.any_eq_true.mp hhas
    refine .inl ?_
    rw [queueChanged_ids]
    refine List.mem_map.mpr ⟨_, List.mem_map.mpr ⟨m, hm, rfl⟩, ?_⟩
    have hid : m.id = p.id := of_decide_eq_true hid
    rw [if_pos hid, (refreshMessage_key v.now p m).1, hid]
  next =>
    split
    · rw [queueChanged_ids]
      exact .inl (hinserted _ _)
    next hfull =>
      split
      · split
        · rw [queueChanged_ids]
          exact .inl (hinserted _ _)
        · exact .inr (by rw [List.length_map]; omega)
      next hnone =>
        rw [List.getLast?_eq_none_iff.mp hnone] at hfull
        exact absurd hfull (by simp)

/-- A TIMED post to an empty queue, the display being neither in MESSAGE mode nor DARK, is shown when the event settles (R116, R122,
R125). -/
theorem settle_keyChange_post {d : Display} {v v' v'' : DisplayView} {p : Post} {secs : Nat} (hqueue : d.queue = [])
    (hmode : d.mode ≠ .message) (hsecs : p.duration = some secs) (hv : v.empty ≠ .dark) (hv' : v'.empty ≠ .dark) :
    let x := ((d.post v p).keyChange v' false).settle v''
    x.mode = .message ∧ x.shown = some p.id ∧ x.line = messageLine p.id ∧
      x.queue = [{ id := p.id, priority := p.priority, stamp := v.now, duration := some secs
                   timer := startTimer v''.now (1000 * secs), owners := [p.poster] }] := by
  let m : Message := { id := p.id, priority := p.priority, stamp := v.now, duration := some secs, timer := none, owners := [p.poster] }
  let e : Display := { d.leaveMessage with queue := [m], mode := .message, refresh := none }
  have hposted : d.post v p = e := by
    unfold post
    rw [hqueue, hsecs]
    show ({ d with queue := [m] } : Display).queueChanged v = e
    have hwanted : wantedMode v { d with queue := [m] } = .message := if_neg hv
    unfold queueChanged workOutMode
    dsimp only
    rw [hwanted, if_neg (Ne.symm hmode)]
    rfl
  have hkept : e.keyChange v' false = e := by
    have hwanted : e.wantedMode v' = .message := if_neg hv'
    show e.queueChanged v' = e
    unfold queueChanged workOutMode
    dsimp only
    rw [hwanted]
    rfl
  intro x
  have hx : x = e.beginShow v''.now m.id := by
    show ((d.post v p).keyChange v' false).settle v'' = _
    rw [hposted, hkept]
    rfl
  have hbegun : (e.beginShow v''.now m.id).Begun v''.now m.id _ := beginShow_begun (d := e) (m := m) v''.now List.mem_cons_self
  rw [hx]
  refine ⟨beginShow_mode _ _ _, hbegun.shown, hbegun.line, ?_⟩
  rw [beginShow_queue]
  show [if m.id = m.id then startDuration v''.now m else m] = _
  rw [if_pos rfl]
  rfl

end Display

/-! ## Warnings without messages -/

section

variable {s : State} (hmessages : ∀ e : EntryId, s.image.warnings[e].message = 0)
include hmessages

theorem Alerts.activate_display (e : EntryId) (fromPending : Bool) (a : Alerts) :
    (a.activate s e fromPending).display = a.display := by
  unfold Alerts.activate Alerts.tell
  dsimp only
  rw [if_pos (hmessages e)]
  (repeat' split) <;> rfl

theorem Alerts.conditionTrue_display (e : EntryId) (a : Alerts) : (a.conditionTrue s e).display = a.display := by
  unfold Alerts.conditionTrue
  dsimp only
  split
  · rfl
  · split
    · rw [Alerts.activate_display hmessages]
      rfl
    · rfl

theorem Alerts.conditionFalse_display (e : EntryId) (a : Alerts) : (a.conditionFalse s e).display = a.display := by
  have hwithdrawn : (a.withdrawBoth s e).display = a.display := if_pos (hmessages e)
  unfold Alerts.conditionFalse
  dsimp only
  split
  · rfl
  · rfl
  · exact hwithdrawn

theorem evalEntry_display (a : Alerts) (e : EntryId) : (evalEntry s a e).display = a.display := by
  unfold evalEntry
  dsimp only
  split
  · rfl
  · split
    · rfl
    · split
      · exact (Alerts.conditionTrue_display hmessages e _).trans rfl
      · exact (Alerts.conditionFalse_display hmessages e _).trans rfl

/-- The evaluation of warnings without messages leaves the display. -/
theorem State.evalAll_display : s.evalAll.display = s.display :=
  foldl_keeps (fun a : Alerts => a.display) _ (evalEntry_display hmessages) _ s.alerts

end

/-! ## The blocks before the store -/

/-- A key change taken by the blocks that stand before the store in R189's table, the key record having been set. -/
def State.blocksTakeKey (before : KeyState) (firstRun : Bool) (s : State) : State :=
  (((((s.gaugesTakeKey before).warningsTakeKey firstRun).serviceTakesKey before firstRun).tripTakesKey before).integTakesKey
    before).displayTakesKey

/-- The key record of a change of key state (R189). -/
def KeyMonitor.taken (k : KeyMonitor) (after : KeyState) : KeyMonitor :=
  { k with key := after, runSeen := decide (after ≠ .off) && (k.runSeen || decide (after = .run)) }

theorem State.takeKey_eq (s : State) (after : KeyState) : s.takeKey after =
    (State.storeTakesKey (State.blocksTakeKey s.key.key (decide (after = .run) && !s.key.runSeen)
      { s with key := s.key.taken after })).lineTakesKey s.key.key := rfl

/-- The service record after a key change: its timer runs with the key at RUN (R136). -/
def State.keyService (before : KeyState) (s : State) : Service :=
  if s.primary then { s.service with
      secTimer := if s.key.key = .run then (if before = .run then s.service.secTimer else startTimer s.now 1000) else none }
  else s.service

namespace State

variable (s : State) (before : KeyState) (firstRun : Bool)

theorem gaugesTakeKey_frame : s.gaugesTakeKey before = { s with gauges := (s.gaugesTakeKey before).gauges } := by
  unfold gaugesTakeKey
  (repeat' split) <;> rfl

theorem warningsTakeKey_frame : s.warningsTakeKey firstRun = { s with
    monitor := (s.warningsTakeKey firstRun).monitor, chime := (s.warningsTakeKey firstRun).chime
    display := (s.warningsTakeKey firstRun).display, handed := (s.warningsTakeKey firstRun).handed } := by
  unfold warningsTakeKey
  dsimp only
  (repeat' split) <;> rfl

theorem warningsTakeKey_display : (s.warningsTakeKey firstRun).display = s.evalAll.display := by
  unfold warningsTakeKey
  dsimp only
  (repeat' split) <;> rfl

/-- What the blocks before the store make of a key change: each its own part, and the display the announcement's too. -/
theorem blocksTakeKey_frame : s.blocksTakeKey before firstRun = { s with
    gauges := (s.gaugesTakeKey before).gauges
    monitor := ((s.gaugesTakeKey before).warningsTakeKey firstRun).monitor
    chime := ((s.gaugesTakeKey before).warningsTakeKey firstRun).chime
    display := (s.blocksTakeKey before firstRun).display
    handed := ((s.gaugesTakeKey before).warningsTakeKey firstRun).handed
    service := s.keyService before
    trip := (s.tripTakesKey before).trip
    integ := (s.integTakesKey before).integ } := by
  have hservice (x : State) : x.serviceTakesKey before firstRun = { x with
      service := x.keyService before
      display := (x.serviceTakesKey before firstRun).display } := by
    unfold serviceTakesKey announce keyService
    dsimp only
    by_cases hprimary : x.primary = true
    · rw [if_pos hprimary, if_pos hprimary]
      (repeat' split) <;> rfl
    · rw [if_neg hprimary, if_neg hprimary]
  have htrip (x : State) : x.tripTakesKey before = { x with trip := (x.tripTakesKey before).trip } := by
    unfold tripTakesKey
    (repeat' split) <;> rfl
  have hinteg (x : State) : x.integTakesKey before = { x with integ := (x.integTakesKey before).integ } := by
    unfold integTakesKey
    split <;> rfl
  have htripOf (x y : State) (hp : x.primary = y.primary) (hk : x.key = y.key) (hn : x.now = y.now) (hi : x.image = y.image)
      (ht : x.trip = y.trip) : (x.tripTakesKey before).trip = (y.tripTakesKey before).trip := by
    unfold tripTakesKey
    rw [hp, hk, hn, hi, ht]
    (repeat' split) <;> first | rfl | exact ht
  have hintegOf (x y : State) (hk : x.key = y.key) (hi : x.integ = y.integ) :
      (x.integTakesKey before).integ = (y.integTakesKey before).integ := by
    unfold integTakesKey keyOn
    rw [hk, hi]
    split <;> first | rfl | exact hi
  let g := s.gaugesTakeKey before
  let m := g.warningsTakeKey firstRun
  let v := m.serviceTakesKey before firstRun
  let t := v.tripTakesKey before
  let i := t.integTakesKey before
  have hm : m = { s with
      gauges := g.gauges, monitor := m.monitor, chime := m.chime, display := m.display, handed := m.handed } :=
    (warningsTakeKey_frame g firstRun).trans (congrArg (fun y : State => { y with
      monitor := m.monitor, chime := m.chime, display := m.display, handed := m.handed }) (s.gaugesTakeKey_frame before))
  have hv : v = _ := (hservice m).trans (congrArg (fun y : State => { y with
    service := y.keyService before, display := v.display }) hm)
  have ht : t = { v with trip := (s.tripTakesKey before).trip } := by
    rw [← htripOf v s (by rw [hv]; rfl) (by rw [hv]) (by rw [hv]) (by rw [hv]) (by rw [hv])]
    exact htrip v
  have hi : i = { t with integ := (s.integTakesKey before).integ } := by
    rw [← hintegOf t s (by rw [ht, hv]) (by rw [ht, hv])]
    exact hinteg t
  have hlast := hi.trans ((congrArg (fun y : State => { y with integ := (s.integTakesKey before).integ }) ht).trans
    (congrArg (fun y : State => { y with trip := (s.tripTakesKey before).trip, integ := (s.integTakesKey before).integ }) hv))
  exact congrArg (fun y : State => { y with display := i.display.keyChange i.displayView (!i.keyOn) }) hlast

/-- The display takes the key change after the announcement's post (R126, R139). -/
theorem blocksTakeKey_display : ∃ v : DisplayView, v.empty = s.displayView.empty ∧
    (s.blocksTakeKey before firstRun).display =
      (((s.gaugesTakeKey before).warningsTakeKey firstRun).serviceTakesKey before firstRun).display.keyChange v (!s.keyOn) := by
  let x := (((s.gaugesTakeKey before).warningsTakeKey firstRun).serviceTakesKey before firstRun)
  let i := (x.tripTakesKey before).integTakesKey before
  have hframe : i.displayTakesKey = _ := s.blocksTakeKey_frame before firstRun
  have hkey := congrArg State.key hframe
  have hdisplay : i.display = x.display := by
    show ((x.tripTakesKey before).integTakesKey before).display = _
    unfold integTakesKey tripTakesKey
    (repeat' split) <;> rfl
  refine ⟨i.displayView, ?_, ?_⟩
  · show (if !i.awake || !i.key.started then DisplayMode.dark else if i.key.key = .off then .blank else .page) = _
    unfold awake
    rw [show i.key = s.key from hkey]
    rfl
  · show i.display.keyChange i.displayView (!i.keyOn) = _
    unfold keyOn
    rw [show i.key = s.key from hkey, hdisplay]

/-- The announcement is posted on the first RUN since OFF, in PRIMARY role with a service state (R139). -/
theorem serviceTakesKey_display {x : State} {id : Nat} (hprimary : x.primary = true) (hid : announcement x = some id) :
    ∃ v : DisplayView, v.empty = x.displayView.empty ∧ v.now = x.now ∧
      (x.serviceTakesKey before true).display = x.display.post v { id, priority := 2, duration := some 4, poster := .service } := by
  let y : State := { x with service := x.keyService before }
  have hposted : x.serviceTakesKey before true = y.announce := by
    show _ = State.announce { x with service := x.keyService before }
    unfold serviceTakesKey keyService
    dsimp only
    rw [if_pos hprimary, if_pos rfl, if_pos hprimary]
  have hy : announcement y = some id := by
    have hsame : announcement y = announcement x := by
      have hservice : y.service = { x.service with secTimer := y.service.secTimer } := by
        show x.keyService before = { x.service with secTimer := (x.keyService before).secTimer }
        unfold keyService
        split <;> rfl
      unfold announcement serviceState distState daysState wearState
      rw [hservice]
      rfl
    rw [hsame, hid]
  refine ⟨y.displayView, rfl, rfl, ?_⟩
  rw [hposted, announce, hy]

end State

/-! ## To OFF -/

theorem Monitor.endBulbCheck_timer (image : Image) (m : Monitor) : (m.endBulbCheck image).bulbTimer = none := by
  unfold Monitor.endBulbCheck Monitor.relight
  split <;> rfl

/-- The bulb check ends at OFF (R97). -/
theorem State.warningsTakeKey_of_off {x : State} (hoff : x.keyOn = false) :
    (x.warningsTakeKey false).monitor.bulbTimer = none := by
  have hsame : x.evalAll.keyOn = false := by
    unfold State.keyOn
    rw [State.evalAll_key]
    exact hoff
  unfold State.warningsTakeKey
  dsimp only
  rw [if_neg Bool.false_ne_true, if_pos (by rw [hsame]; rfl)]
  exact Monitor.endBulbCheck_timer _ _

/-- All lamps light at the first RUN since OFF (R97). -/
theorem State.warningsTakeKey_of_firstRun (x : State) :
    (x.warningsTakeKey true).monitor.lamps = 0xFF ∧ (x.warningsTakeKey true).monitor.bulbTimer = some (x.now + 3000) :=
  ⟨rfl, rfl⟩

/-- The key-off save leaves all but the hold's latch, the store and the line (R164). -/
theorem State.storeTakesKey_frame (s : State) : s.storeTakesKey = { s with
    hold := { s.hold with latch := s.storeTakesKey.hold.latch }, store := s.storeTakesKey.store
    line := s.storeTakesKey.line } := by
  unfold State.storeTakesKey
  split
  · exact (State.serve_served { s with store := (s.store.joinKeyOff false).suspendForKeyOff s.now }).frame
  · rfl

theorem State.storeTakesKey_of_on {s : State} (h : s.keyOn = true) : s.storeTakesKey = s := if_neg (by simp [h])

/-- The key-off save that a change to OFF asks for stands (R164). -/
theorem State.storeTakesKey_keyOffSaved {s y : State} {t : Stamp} (hprimary : y.primary = true) (hoff : y.keyOn = false)
    (hstore : y.store = s.store) (hnow : y.now = t) (htenths : y.integ.tenths = s.integ.tenths) :
    y.storeTakesKey.store.KeyOffSaved t s := by
  rw [State.storeTakesKey, if_pos (by simp [hprimary, hoff])]
  exact State.serve_keyOffSaved (y := { y with store := y.store.joinKeyOff false }) (forRestart := false)
    (by rw [hstore]) hnow htenths

/-- Settles O11: the table of R189 block by block, with the store's and the line's parts last. -/
theorem keyOffStopsTheTimers : Obligations.KeyOffStopsTheTimers := by
  intro t s hstarted hdue hoff
  let s₁ : State := { s with now := t, key := ({ s.key with keyTimer := none } : KeyMonitor).taken .off }
  let firstRun := decide (KeyState.off = .run) && !s.key.runSeen
  let b := s₁.blocksTakeKey s.key.key firstRun
  let c := b.storeTakesKey
  let e := c.onLine fun l => { l with statusTimer := none, standing := [] }
  have hb : b = _ := s₁.blocksTakeKey_frame s.key.key firstRun
  have hc : c = _ := b.storeTakesKey_frame
  have hbkey : b.key = s₁.key := by rw [hb]
  have hckey : c.key = s₁.key := by rw [hc, hbkey]
  have hexec : exec (.keyStateChange t) s = .next (State.close s e) := by
    rw [exec_keyStateChange_of_due hstarted hdue, hoff, State.takeKey_eq]
    have hline : c.lineTakesKey s.key.key = e := if_pos (by
      unfold State.keyOn
      rw [hckey]
      rfl)
    exact congrArg (fun y => Host.Outcome.next (State.close s y)) hline
  have hprimary : b.primary = s.primary := by
    rw [hb]
    rfl
  have hkeyOff : s₁.keyOn = false := rfl
  have hbulb : (State.warningsTakeKey (s₁.gaugesTakeKey s.key.key) firstRun).monitor.bulbTimer = none :=
    State.warningsTakeKey_of_off (by
      unfold State.keyOn
      rw [State.gaugesTakeKey_key]
      rfl)
  have hline := State.close_line s e
  have hstanding : (State.close s e).line.standing.map StandingAsk.key = [] := State.close_keys s e
  have hinteg : (s₁.integTakesKey s.key.key).integ = s.integ := by
    unfold State.integTakesKey
    rw [hkeyOff, Bool.and_false, if_neg Bool.false_ne_true]
  have htrip : (s₁.tripTakesKey s.key.key).trip =
      if s.primary = true then { s.trip with tripTimer := none, window := none } else s.trip := by
    unfold State.tripTakesKey
    rw [show s₁.primary = s.primary from rfl, if_neg (show ¬ s₁.key.key = .run from fun h => nomatch h)]
    split <;> rfl
  have hpersistent : ∀ m ∈ e.display.queue, m.duration = none := by
    obtain ⟨v, -, hdisplay⟩ := s₁.blocksTakeKey_display s.key.key firstRun
    rw [show e.display = c.display from rfl, hc]
    show ∀ m ∈ (s₁.blocksTakeKey s.key.key firstRun).display.queue, _
    rw [hdisplay, hkeyOff]
    exact Display.keyChange_persistent _ _
  refine ⟨_, hexec, ?_⟩
  rw [State.close_key, State.close_slots, State.close_image, State.close_faults, State.close_integ, State.close_trip,
    State.close_service, State.close_monitor, State.close_store, State.close_display]
  refine ⟨?_, ?_, ?_, ?_, ?_, ?_, ?_, ?_, ?_, ?_, fun h => ?_, ?_, ?_, ?_, List.map_eq_nil_iff.mp hstanding, fun h => ?_, fun h => ?_⟩
  · rw [show e.key = c.key from rfl, hckey]
    rfl
  · rw [show e.key = c.key from rfl, hckey]
    rfl
  · rw [show e.key = c.key from rfl, hckey]
    rfl
  · rw [show e.key = c.key from rfl, hckey]
    rfl
  · rw [show e.slots = c.slots from rfl, hc, hb]
  · rw [show e.image = c.image from rfl, hc, hb]
  · rw [show e.faults = c.faults from rfl, hc, hb]
  · rw [show e.integ = c.integ from rfl, hc, hb, hinteg]
  · rw [show e.trip = c.trip from rfl, hc, hb, htrip]
    split <;> rfl
  · rw [show e.trip = c.trip from rfl, hc, hb, htrip]
    split <;> rfl
  · rw [show e.trip = c.trip from rfl, show e.service = c.service from rfl, hc, hb, htrip, if_pos h]
    refine ⟨rfl, rfl, ?_⟩
    show (s₁.keyService s.key.key).secTimer = none
    unfold State.keyService
    rw [if_pos (by exact h)]
    rfl
  · rw [show e.monitor = c.monitor from rfl, hc, hb]
    exact hbulb
  · exact (Display.settle_started _ _).persistent hpersistent
  · rw [hline]
    rfl
  · rw [show e.store = b.storeTakesKey.store from rfl, State.storeTakesKey, if_neg (by simp [hprimary, h]), hb]
  · have hsaved : c.store.KeyOffSaved t s :=
      State.storeTakesKey_keyOffSaved (hprimary.trans h) (by unfold State.keyOn; rw [hbkey]; rfl) (by rw [hb]) (by rw [hb])
        (by rw [hb, hinteg])
    exact ⟨hsaved.odo, hsaved.save, hsaved.order⟩

/-! ## To ACC or RUN -/

section

variable {s : State} {before after : KeyState}

theorem State.lineTakesKey_of_on {x : State} (hon : x.keyOn = true) : x.lineTakesKey before = { x with
    line := if before = .off then { x.line with statusTimer := startTimer x.now 500 } else x.line } := by
  unfold State.lineTakesKey
  rw [hon, if_neg (by decide)]
  split <;> rfl

/-- A key change to ACC or RUN, whole (R189). -/
theorem State.takeKey_of_on (hafter : after ≠ .off) :
    let y : State := { s with key := s.key.taken after }
    let firstRun := decide (after = .run) && !s.key.runSeen
    let m := (y.gaugesTakeKey s.key.key).warningsTakeKey firstRun
    s.takeKey after = { y with
      gauges := (y.gaugesTakeKey s.key.key).gauges, monitor := m.monitor, chime := m.chime
      display := (y.blocksTakeKey s.key.key firstRun).display, handed := m.handed, service := y.keyService s.key.key
      trip := (y.tripTakesKey s.key.key).trip, integ := (y.integTakesKey s.key.key).integ
      line := if s.key.key = .off then { s.line with statusTimer := startTimer s.now 500 } else s.line } := by
  intro y firstRun m
  have hframe := y.blocksTakeKey_frame s.key.key firstRun
  have hon : (y.blocksTakeKey s.key.key firstRun).keyOn = true := by
    unfold State.keyOn
    rw [hframe]
    exact decide_eq_true hafter
  rw [State.takeKey_eq, show ({ s with key := s.key.taken after } : State) = y from rfl, State.storeTakesKey_of_on hon,
    State.lineTakesKey_of_on hon]
  exact congrArg (fun x : State => { x with
    line := if s.key.key = KeyState.off then { x.line with statusTimer := startTimer x.now 500 } else x.line }) hframe

theorem State.integTakesKey_of_on {x : State} (hon : x.keyOn = true) :
    (x.integTakesKey before).integ = { x.integ with armed := x.integ.armed || decide (before = .off) } := by
  unfold State.integTakesKey
  rw [hon, Bool.and_true]
  split
  next hoff => rw [hoff, Bool.or_true]
  next hoff => rw [Bool.eq_false_iff.mpr hoff, Bool.or_false]

theorem State.tripTakesKey_trip (x : State) : (x.tripTakesKey before).trip =
    if x.primary = true then
      (if x.key.key ≠ .run then { x.trip with tripTimer := none, window := none }
      else if before = .run then x.trip
      else { x.trip with
        tripTimer := some (x.now + 1000), window := if x.image.params.tripBAuto then some (x.now + 10000) else none })
    else x.trip := by
  unfold State.tripTakesKey
  rw [ite_not]
  (repeat' split) <;> rfl

/-- The departure of the channels, one by one (R61). -/
theorem State.gaugesTakeKey_of_on {x : State} (hon : x.keyOn = true) (i : Fin 6) :
    (x.gaugesTakeKey before).gauges.channels[i] =
      if x.image.gauges[i].enabled = true ∧ before = .off then
        (if x.gauges.channels[i].state = .parked then
          { x.gauges.channels[i] with
            filter := 0, state := if x.image.params.sweep then GaugeState.sweepUp else .tracking }
        else if x.gauges.channels[i].state = .returning then
          { x.gauges.channels[i] with filter := 16 * x.gauges.channels[i].position, state := .tracking }
        else x.gauges.channels[i])
      else x.gauges.channels[i] := by
  unfold State.gaugesTakeKey
  rw [hon, if_neg (by decide)]
  by_cases hoff : before = .off
  · rw [if_pos hoff]
    cases henabled : x.image.gauges[i].enabled with
    | false => rw [State.mapChannels_of_disabled _ henabled, if_neg (by simp)]
    | true =>
      rw [State.mapChannels_of_enabled _ henabled, if_pos ⟨rfl, hoff⟩]
      unfold Channel.keyLeavesOff
      cases hstate : x.gauges.channels[i].state <;> rfl
  · rw [if_neg hoff, if_neg fun h => hoff h.2]

end

/-- An id is in the queue, or the queue is full, also when the display has settled. -/
theorem hasId_of_ids {q q' : List Message} {id : Nat} (hids : q'.map (·.id) = q.map (·.id))
    (h : id ∈ q.map (·.id) ∨ 8 ≤ (q.map (·.id)).length) : hasId q' id = true ∨ 8 ≤ q'.length := by
  rw [← hids] at h
  obtain hmem | hfull := h
  · obtain ⟨m, hm, hid⟩ := List.mem_map.mp hmem
    exact .inl (List.any_eq_true.mpr ⟨m, hm, decide_eq_true hid⟩)
  · exact .inr (by rwa [List.length_map] at hfull)

/-- Settles O12: the parts of the key change, and the announcement through the display's post, key change and settling. -/
theorem keyOnStartsTheTimers : Obligations.KeyOnStartsTheTimers := by
  intro t s hstarted hdue hon
  let s₀ : State := { s with now := t, key := { s.key with keyTimer := none } }
  let key := derivedKey s.key.pins
  let y : State := { s₀ with key := s₀.key.taken key }
  let firstRun := decide (key = .run) && !s.key.runSeen
  let m := (y.gaugesTakeKey s.key.key).warningsTakeKey firstRun
  let e := s₀.takeKey key
  have hexec : exec (.keyStateChange t) s = .next (State.close s e) := exec_keyStateChange_of_due hstarted hdue
  have he : e = _ := State.takeKey_of_on (s := s₀) hon
  have hyon : y.keyOn = true := decide_eq_true hon
  have hline := State.close_line s e
  refine ⟨_, hexec, ?_⟩
  rw [State.close_key, State.close_slots, State.close_image, State.close_faults, State.close_store, State.close_hold,
    State.close_integ, State.close_trip, State.close_service, State.close_monitor, State.close_gauges, State.close_display]
  refine ⟨?_, ?_, ?_, ?_, ?_, ?_, ?_, fun hprimary => ⟨?_, ?_, ?_⟩, fun hmirror => ⟨?_, ?_⟩, ?_, fun hrun hfirst => ?_, fun i => ?_,
    fun hrun hfirst hprimary hstate => ?_⟩
  · rw [he]
    show s₀.key.taken key = _
    unfold KeyMonitor.taken
    rw [decide_eq_true hon, Bool.true_and]
  · rw [he]
  · rw [he]
  · rw [he]
  · rw [he]
  · rw [he]
  · rw [he]
    exact State.integTakesKey_of_on hyon
  · rw [he]
    refine (State.tripTakesKey_trip y).trans ?_
    rw [if_pos (by exact hprimary)]
    rfl
  · rw [he]
    show (y.keyService s.key.key).secTimer = _
    rw [State.keyService, if_pos (by exact hprimary), ite_not]
    rfl
  · rw [he]
    show y.keyService s.key.key = { s.service with secTimer := (y.keyService s.key.key).secTimer }
    rw [State.keyService, if_pos (by exact hprimary)]
  · rw [he]
    refine (State.tripTakesKey_trip y).trans (if_neg ?_)
    rw [show y.primary = s.primary from rfl, hmirror]
    decide
  · rw [he]
    refine if_neg ?_
    rw [show y.primary = s.primary from rfl, hmirror]
    decide
  · rw [hline]
    show e.line.statusTimer = _
    rw [he]
    show (if s.key.key = .off then _ else _ : Line).statusTimer = _
    split <;> rfl
  · have hfirstRun : firstRun = true := by simp [firstRun, key, hrun, hfirst]
    rw [he]
    show m.monitor.lamps = _ ∧ m.monitor.bulbTimer = _
    have hm : m = (y.gaugesTakeKey s.key.key).warningsTakeKey true := by rw [← hfirstRun]
    obtain ⟨hlamps, hbulb⟩ := State.warningsTakeKey_of_firstRun (y.gaugesTakeKey s.key.key)
    rw [hm]
    refine ⟨hlamps, hbulb.trans ?_⟩
    rw [y.gaugesTakeKey_frame]
  · rw [he]
    exact State.gaugesTakeKey_of_on hyon i
  · intro counter id
    have hfirstRun : firstRun = true := by simp [firstRun, key, hrun, hfirst]
    let g := y.gaugesTakeKey s.key.key
    have hg : g = _ := y.gaugesTakeKey_frame s.key.key
    have hm : m = _ := (g.warningsTakeKey_frame firstRun).trans (congrArg (fun x : State => { x with
      monitor := m.monitor, chime := m.chime, display := m.display, handed := m.handed }) hg)
    have hid : announcement m = some id := by
      have hsame : announcement m = announcement s := by
        rw [hm]
        rfl
      rw [hsame]
      exact if_neg hstate
    have hview : m.displayView.empty = y.displayView.empty := by
      rw [hm]
      rfl
    obtain ⟨v, hempty, hnow, hposted⟩ := State.serviceTakesKey_display (before := s.key.key) (x := m) (id := id) (by
      rw [hm]
      exact hprimary) hid
    obtain ⟨v', hempty', hchanged⟩ := y.blocksTakeKey_display s.key.key firstRun
    let p : Post := { id, priority := 2, duration := some 4, poster := .service }
    have hdisplay : e.display = (m.display.post v p).keyChange v' false := by
      rw [he]
      show (y.blocksTakeKey s.key.key firstRun).display = _
      rw [hchanged, hyon, ← hposted]
      show (State.serviceTakesKey m s.key.key firstRun).display.keyChange v' false = _
      rw [hfirstRun]
    rw [hdisplay]
    refine ⟨?_, fun hawake hqueue hmode hmessages => ?_⟩
    · exact hasId_of_ids ((Display.settle_ids _ _).trans (Display.keyChange_ids _ _)) (Display.post_ids v p m.display)
    · have hlit : y.displayView.empty ≠ .dark := by
        show (if !s.awake || !s.key.started then DisplayMode.dark else if key = .off then .blank else .page) ≠ _
        rw [hawake, hstarted, if_neg (by decide), if_neg hon]
        decide
      have hsame : m.display = s.display := by
        rw [show m.display = g.evalAll.display from State.warningsTakeKey_display _ _,
          State.evalAll_display (by rw [hg]; exact hmessages), hg]
      have hshown := Display.settle_keyChange_post (d := m.display) (v := v) (v' := v') (v'' := e.displayView) (p := p) (secs := 4)
        (by rw [hsame, hqueue]) (by rw [hsame]; exact hmode) rfl (by rw [hempty, hview]; exact hlit) (by rw [hempty']; exact hlit)
      obtain ⟨hxmode, hxshown, hxline, hxqueue⟩ := hshown
      refine ⟨hxmode, hxshown, hxline, hxqueue.trans ?_⟩
      have hvnow : v.now = t := by
        rw [hnow, hm]
      have henow : e.displayView.now = t := by
        show e.now = t
        rw [he]
      rw [hvnow, henow]
      rfl

end Sys2Proof.Machine
end

section
/-! The supply-low line, sleep and wake (O14, O15). -/

namespace Sys2Proof.Machine

/-! ## The supply-low line -/

/-- A queue's request as an urgent commit. -/
theorem Store.any_isUrgent_of_mem {st : Store} {a f : Bool} (h : .commit true a f ∈ st.queue) :
    st.queue.any (·.isUrgent) = true := List.any_eq_true.mpr ⟨_, h, rfl⟩

namespace Store

variable (st : Store)

theorem makeUrgent_frame : st.makeUrgent = { st with queue := st.makeUrgent.queue } := by
  unfold makeUrgent
  split
  · rfl
  · rw [st.joinCommit_frame]

theorem makeUrgent_has (hodo : st.odo.failed = false) : ∃ a f, .commit true a f ∈ st.makeUrgent.queue := by
  obtain ⟨u, a, f, hq, hurgent⟩ := st.joinCommit_has true false
  obtain rfl := hurgent rfl
  exact ⟨a, f, by rwa [makeUrgent, if_neg (by simp [hodo])]⟩

/-- A commit absorbed leaves the record of its ring in progress (R163). -/
theorem absorbCommit_record {st : Store} {q : StoreRequest} {w : List Word} {n : Nat} {ab : Bool} {d : Nat}
    (hop : st.op = .record .odo q w n ab d) : ∃ q', st.absorbCommit.op = .record .odo q' w n ab d := by
  unfold absorbCommit
  dsimp only
  rw [hop]
  split
  next hmatch =>
    obtain ⟨rfl, -, rfl, rfl, rfl, rfl⟩ := StoreOp.record.inj hmatch
    exact ⟨_, rfl⟩
  next => exact ⟨q, rfl⟩

end Store

/-- What an active supply-low line makes of the store of `s` (R163): the urgent commit, and the record given up. -/
structure State.SupplyFails (s e : State) : Prop where
  frame : e = { s with hold := { s.hold with latch := e.hold.latch }, store := e.store, line := e.line }
  traffic : e.line = s.line.withTraffic e.line
  urgent : s.store.odo.failed = false →
    (∃ q w n, e.store.op = .record .odo q w n false s.integ.tenths) ∨ e.store.queue.any (·.isUrgent) = true
  abandons : ∀ r q w n ab d, s.store.op = .record r q w n ab d → ¬ (r = .odo ∧ ab = false ∧ d = s.integ.tenths) →
    e.store.op = .record r q w n true d

theorem State.supplyFailing_fails (s : State) : s.SupplyFails s.supplyFailing := by
  have hop : s.store.makeUrgent.op = s.store.op := by rw [s.store.makeUrgent_frame]
  have hurgent (hodo : s.store.odo.failed = false) : s.store.makeUrgent.queue.any (·.isUrgent) = true := by
    obtain ⟨a, f, hq⟩ := s.store.makeUrgent_has hodo
    exact Store.any_isUrgent_of_mem hq
  unfold State.supplyFailing
  dsimp only
  split
  next q w n d hrecord =>
    have hrecord : s.store.op = .record .odo q w n false d := hop.symm.trans hrecord
    by_cases hlive : d = s.integ.tenths
    · rw [if_pos hlive]
      refine ⟨rfl, rfl, fun _ => .inl ?_, fun r q' w' n' ab d' hop' hnot => ?_⟩
      · obtain ⟨q', hq'⟩ := Store.absorbCommit_record (hop.trans hrecord)
        exact ⟨q', w, n, hlive ▸ hq'⟩
      · obtain ⟨rfl, rfl, rfl, rfl, rfl, rfl⟩ := StoreOp.record.inj (hrecord.symm.trans hop')
        exact absurd ⟨rfl, rfl, hlive⟩ hnot
    · rw [if_neg hlive, hop, hrecord]
      refine ⟨rfl, rfl, fun hodo => .inr (hurgent hodo), fun r q' w' n' ab d' hop' _ => ?_⟩
      obtain ⟨rfl, rfl, rfl, rfl, rfl, rfl⟩ := StoreOp.record.inj (hrecord.symm.trans hop')
      rfl
  next r q w n ab d _ hrecord =>
    have hrecord : s.store.op = .record r q w n ab d := hop.symm.trans hrecord
    refine ⟨rfl, rfl, fun hodo => .inr (hurgent hodo), fun r' q' w' n' ab' d' hop' _ => ?_⟩
    obtain ⟨rfl, rfl, rfl, rfl, rfl, rfl⟩ := StoreOp.record.inj (hrecord.symm.trans hop')
    rfl
  next _ hother =>
    let st := if s.store.makeUrgent.odo.failed then s.store.makeUrgent else
      s.store.makeUrgent.suspendFor s.now s.store.makeUrgent.odo.current
    have hserved := State.serve_served { s with store := st }
    refine ⟨hserved.frame, hserved.traffic, fun hodo => ?_, fun r q w n ab d hrecord _ =>
      absurd (hop.trans hrecord) (hother r q w n ab d)⟩
    obtain ⟨a, f, hq⟩ := s.store.makeUrgent_has hodo
    have hqueue : st.queue = s.store.makeUrgent.queue := by
      show (if _ then _ else _ : Store).queue = _
      split
      · rfl
      · rw [(Store.suspendFor_frame _ _ _).1]
    obtain hstays | ⟨-, -, hbegun⟩ := hserved.commit (hqueue ▸ hq)
    · exact .inr (Store.any_isUrgent_of_mem hstays)
    · exact .inl ⟨_, _, _, hbegun⟩

theorem Store.chosen_save {st : Store} {k x a c f : Bool} (hqueue : st.queue = [.save k x a c f]) (hop : st.op = .idle)
    (hsuspended : st.suspended = none) : st.chosen false false = some (.save k x a c f) := by
  have hfree : st.eraseBegun st.save.current = false := Store.eraseBegun_eq_false hop (by simp [hsuspended])
  simp [Store.chosen, hqueue, StoreRequest.isUrgent, StoreRequest.isProgram, Store.target, Store.eraseStands, hfree]

/-- Settles O14: the failing supply's part of the store where it applies, and the store served when it is back. -/
theorem supplyLowMovesTheStore : Obligations.SupplyLowMovesTheStore := by
  refine ⟨fun t s => ?_, fun t s => ?_⟩
  · let e : State := { s with now := t, key := { s.key with pins := { s.key.pins with supplyLow := true } } }
    by_cases happlies : (!s.key.pins.supplyLow && s.primary && s.awake && s.key.started) = true
    · have hexec : exec (.supplyLowActive t) s = .next (State.close s e.supplyFailing) := by
        show Host.Outcome.next (State.close s (if !s.key.pins.supplyLow && s.primary && s.awake && s.key.started then _ else _)) = _
        rw [if_pos happlies]
      obtain ⟨hframe, htraffic, hurgent, habandons⟩ := e.supplyFailing_fails
      simp only [Bool.and_eq_true, Bool.not_eq_true'] at happlies
      obtain ⟨⟨⟨hlow, hprimary⟩, hawake⟩, hstarted⟩ := happlies
      refine ⟨_, hexec, ?_, fun hnot => ?_, fun _ _ _ _ => ?_⟩
      · rw [State.close_store, State.close_hold]
        refine State.close_eq_withTraffic (b := { e with
          store := e.supplyFailing.store, hold := { s.hold with latch := e.supplyFailing.hold.latch } }) ?_ htraffic s
        have hhanded := congrArg State.handed hframe
        rw [show e.supplyFailing.handed = e.handed from hhanded]
        exact hframe
      · simp [hlow, hprimary, hawake, hstarted] at hnot
      · rw [State.close_store]
        exact ⟨hurgent, habandons⟩
    · have hexec : exec (.supplyLowActive t) s = .next (State.close s e) := by
        show Host.Outcome.next (State.close s (if !s.key.pins.supplyLow && s.primary && s.awake && s.key.started then _ else _)) = _
        rw [if_neg happlies]
      refine ⟨_, hexec, ?_, fun _ => ⟨State.close_store _ _, State.close_hold _ _⟩, fun hlow hprimary hawake hstarted => ?_⟩
      · rw [State.close_store, State.close_hold]
        exact State.close_traffic s e
      · simp [hlow, hprimary, hawake, hstarted] at happlies
  · intro e
    refine ⟨rfl, fun hbusy => (State.serve_served e).of_busy hbusy, fun hop hqueue hsuspended hdraining => ?_⟩
    refine State.serve_of_chosen (s := e) (r := .save true false false false false) hop ?_ ?_
    · rw [show e.draining = false from hdraining]
      exact Store.chosen_save hqueue hop hsuspended
    · show Store.start e _ { s.store with queue := s.store.queue.erase _ } = _
      rw [hqueue, List.erase_cons_head]
      rfl

/-! ## Sleep and wake -/

theorem Display.workOutMode_mode (v : DisplayView) (d : Display) : (d.workOutMode v).mode = d.wantedMode v := by
  unfold workOutMode
  dsimp only
  split
  next h => exact h.symm
  next => split <;> exact Eq.symm ‹_›

theorem watchStatus_of_no_standing {s : State} (h : s.line.standing = []) (b : List Byte) : watchStatus s b = s := by
  unfold watchStatus State.onLine
  dsimp only
  rw [h]
  rfl

/-- An event that leaves the part ASLEEP with no registration and no READY answer leaves nothing to do on the line. -/
theorem State.close_line_of_asleep {b e : State} (hasleep : e.awake = false) (hstanding : e.line.standing = [])
    (hready : ∀ p ∈ e.line.pending, ∀ st v, p.stage ≠ .ready st v) : (State.close b e).line = e.line := by
  have hstatus : State.statusOnChange b e.settleDisplay = e.settleDisplay := if_neg (by
    rw [show e.settleDisplay.awake = false from hasleep]
    simp)
  have hjoin : e.settleDisplay.onLine Line.joinReady = e.settleDisplay :=
    congrArg (fun l => { e.settleDisplay with line := l }) (Line.joinReady_of_no_ready hready)
  have hchanges : watchChanges e.settleDisplay = e.settleDisplay := by
    refine List.foldlRecOn (motive := fun x => x = e.settleDisplay) _ _ rfl fun x hx bytes _ => ?_
    rw [hx]
    exact watchStatus_of_no_standing (s := e.settleDisplay) hstanding bytes
  unfold State.close
  dsimp only
  rw [hstatus, hjoin, hchanges, watchStanding_of_no_report b e.settleDisplay (by
      rw [show e.settleDisplay.line.standing = [] from hstanding]
      exact fun _ h => nomatch h),
    retryStandings_of_none _ { e.settleDisplay with handed := .nothing } (by
      rw [show e.settleDisplay.line.standing = [] from hstanding]
      exact fun _ h => nomatch h)]
  rfl

theorem Monitor.relight_of_live {image : Image} {m : Monitor} (h : m.lampsLive = true) : m.relight image =
    { m with lamps := if m.bulbTimer = none then lampsFrom image m.active else m.lamps } := by
  unfold Monitor.relight
  by_cases hbulb : m.bulbTimer = none
  · rw [if_pos (by simp [h, hbulb]), if_pos hbulb]
  · rw [if_neg (by simp [h, hbulb]), if_neg hbulb]

/-- The part woken (R191). -/
theorem State.wake_eq (s : State) : s.wake = { s with
    key := { s.key with
      mode := .awake, quiet := some (s.now + 5000), svcEn := s.key.pins.svcEn, svcTimer := none
      keyTimer := if derivedKey s.key.pins = s.key.key then none else some (s.now + 20) }
    gauges := { s.gauges with updateTimer := some (s.now + 20) }
    integ := { s.integ with fuelTimer := some (s.now + 1000) }
    monitor := { s.monitor with
      lampsLive := true
      lamps := if s.monitor.bulbTimer = none then lampsFrom s.image s.monitor.active else s.monitor.lamps }
    line := { s.line with idle := false, receiver := .woken }
    display := s.wake.display } := by
  unfold State.wake
  rw [Monitor.relight_of_live rfl]
  rfl

/-- The display's mode after a wake (R116). -/
theorem State.wake_mode (s : State) : s.wake.display.mode =
    if s.key.started = false then .dark else if s.display.queue ≠ [] then .message else if s.key.key = .off then .blank else .page := by
  have hmode : s.wake.display.mode = _ := Display.workOutMode_mode _ _
  rw [hmode, Display.wantedMode]
  show (if (if !s.key.started then DisplayMode.dark else if s.key.key = .off then .blank else .page) = .dark then DisplayMode.dark
    else if s.display.queue.isEmpty then (if !s.key.started then DisplayMode.dark else if s.key.key = .off then .blank else .page)
    else .message) = _
  cases s.key.started with
  | false => rfl
  | true =>
    by_cases hoff : s.key.key = .off
    · cases s.display.queue <;> simp [hoff]
    · cases s.display.queue <;> simp [hoff]

/-- The close of an event whose state differs from `b` in the display. -/
theorem State.close_eq_besides {b f : State} (hf : f = { b with display := f.display }) (s : State) :
    State.close s f = b.besides (State.close s f) := by
  refine (State.close_traffic s f).trans ?_
  unfold State.withTraffic State.besides
  rw [State.close_display]
  generalize f.display.settle f.displayView = d
  generalize (State.close s f).line = l
  rw [hf]

/-- Settles O15: the conditions of sleep, each block's part of sleep and wake, and a close with nothing left to do. -/
theorem wakeAndSleep : Obligations.WakeAndSleep := by
  refine ⟨fun t s hready => ?_, fun t s hnot => ?_, fun t s hawake => ?_, fun c pins stuck s hasleep hcommand => ?_⟩
  · let e := (s.stamped t).sleep
    have hexec : exec (.enterAsleep t) s = .next (State.close s e) := by
      show Host.Outcome.next (State.close s (if sleepReady s then e else s.stamped t)) = _
      rw [if_pos hready]
    refine ⟨_, hexec, State.close_key _ _, fun i => ?_, State.close_integ _ _, State.close_gauges _ _, State.close_trip _ _,
      State.close_monitor _ _, State.close_faults _ _, State.close_service _ _, State.close_store _ _, State.close_hold _ _, ?_,
      State.close_chime _ _, ?_, ?_, ?_, ?_, ?_, fun hpending => ?_⟩
    · exact (congrArg (fun v : Vector Slot 19 => v[i]) (State.close_slots s e)).trans (by simp [e, State.sleep, State.stamped, Slot.asleep])
    · rw [State.close_display, Display.settle_mode]
      exact Display.workOutMode_mode _ _
    · exact List.map_eq_nil_iff.mp (State.close_keys s e)
    · rw [State.close_line]
      rfl
    · rw [State.close_line]
      rfl
    · rw [State.close_line]
      rfl
    · rw [State.close_line]
      rfl
    · have hline : (State.close s e).line = e.line := State.close_line_of_asleep rfl rfl hpending
      rw [hline]
      exact ⟨rfl, rfl⟩
  · show Host.Outcome.next (State.close s (if sleepReady s then _ else s.stamped t)) = _
    rw [if_neg (by simp [hnot])]
  · show Host.Outcome.next (State.close s (if s.awake then _ else _)) = _
    rw [if_pos hawake]
    rfl
  · let y : State := { s with now := c.stamp, key := { s.key with pins }, line := { s.line with stuck } }
    have hexec : exec c s = .next (State.close s y.wake) := by
      obtain ⟨hc, rfl, rfl⟩ | ⟨acc, run, hc, hon, rfl, rfl⟩ := hcommand
      · rw [hc]
        show Host.Outcome.next (State.close s (if s.awake then _ else _)) = _
        rw [hasleep]
        rfl
      · rw [hc]
        show Host.Outcome.next (State.close s (if s.awake then _ else if acc || run then _ else _)) = _
        rw [hasleep, hon]
        rfl
    refine ⟨_, hexec, ?_, ?_⟩
    · exact State.close_eq_besides (b := { y with
        key := { s.key with
          pins, mode := .awake, quiet := some (c.stamp + 5000), svcEn := pins.svcEn, svcTimer := none
          keyTimer := if derivedKey pins = s.key.key then none else some (c.stamp + 20) }
        gauges := { s.gauges with updateTimer := some (c.stamp + 20) }
        integ := { s.integ with fuelTimer := some (c.stamp + 1000) }
        monitor := { s.monitor with
          lampsLive := true
          lamps := if s.monitor.bulbTimer = none then lampsFrom s.image s.monitor.active else s.monitor.lamps }
        line := { s.line with idle := false, stuck, receiver := .woken } }) y.wake_eq s
    · rw [State.close_display, Display.settle_mode, State.wake_mode]

end Sys2Proof.Machine
end

section
/-! The ends of the store's operations: the outcomes of requests, FAILED rings, and the configuration's words and erases (O50). -/

namespace Sys2Proof.Machine

/-! ## Outcomes -/

/-- What the outcome of a request, reported to those who asked for it, leaves of the store and of the reset (R148, R195): the
array, the rings, an idle operation, and the ring of every queued request. -/
structure State.Settles (s e : State) : Prop where
  array : e.store.array = s.store.array
  odo : e.store.odo = s.store.odo
  save : e.store.save = s.store.save
  conditions : e.store.conditions = s.store.conditions
  suspended : e.store.suspended = s.store.suspended
  idle : s.store.op = .idle → e.store.op = .idle
  belongs : ∀ r : Ring, (∀ q ∈ s.store.queue, q.belongsTo r = false) → ∀ q ∈ e.store.queue, q.belongsTo r = false
  counters : e.service.dist = s.service.dist ∧ e.service.days = s.service.days ∧ e.service.wear = s.service.wear
  reset : s.service.reset = none → e.service.reset = none

namespace State.Settles

variable {s e f : State}

theorem of_same (hstore : e.store = s.store) (hservice : e.service = s.service) : s.Settles e where
  array := by rw [hstore]
  odo := by rw [hstore]
  save := by rw [hstore]
  conditions := by rw [hstore]
  suspended := by rw [hstore]
  idle := by rw [hstore]; exact id
  belongs r h := by rw [hstore]; exact h
  counters := by rw [hservice]; exact ⟨rfl, rfl, rfl⟩
  reset := by rw [hservice]; exact id

theorem refl (s : State) : s.Settles s := of_same rfl rfl

theorem trans (h : s.Settles e) (k : e.Settles f) : s.Settles f where
  array := k.array.trans h.array
  odo := k.odo.trans h.odo
  save := k.save.trans h.save
  conditions := k.conditions.trans h.conditions
  suspended := k.suspended.trans h.suspended
  idle hs := k.idle (h.idle hs)
  belongs r hs := k.belongs r (h.belongs r hs)
  counters := ⟨k.counters.1.trans h.counters.1, k.counters.2.1.trans h.counters.2.1, k.counters.2.2.trans h.counters.2.2⟩
  reset hs := k.reset (h.reset hs)

theorem ite {c : Prop} [Decidable c] (h : c → s.Settles e) (k : ¬ c → s.Settles f) : s.Settles (if c then e else f) := by
  split
  next hc => exact h hc
  next hc => exact k hc

theorem answer (s : State) (a : Station) (g i : Byte) (st : Status) (v : List Byte) : s.Settles (s.answer a g i st v) :=
  of_same rfl rfl

/-- A queue whose requests stand in for some of another. -/
theorem withQueue (s : State) (queue : List StoreRequest)
    (h : ∀ q ∈ queue, ∃ q' ∈ s.store.queue, ∀ r, q.belongsTo r = q'.belongsTo r) :
    s.Settles { s with store := { s.store with queue } } where
  array := rfl
  odo := rfl
  save := rfl
  conditions := rfl
  suspended := rfl
  idle := id
  belongs r hs q hq := by
    obtain ⟨q', hq', hsame⟩ := h q hq
    rw [hsame r]
    exact hs q' hq'
  counters := ⟨rfl, rfl, rfl⟩
  reset := id

theorem filterQueue (s : State) (p : StoreRequest → Bool) : s.Settles { s with store := { s.store with queue := s.store.queue.filter p } } :=
  withQueue s _ fun q hq => ⟨q, List.mem_of_mem_filter hq, fun _ => rfl⟩

theorem reclaim (s : State) (f : Claim → Claim) : s.Settles { s with store := s.store.reclaim f } where
  array := rfl
  odo := rfl
  save := rfl
  conditions := rfl
  suspended := rfl
  idle hop := by
    show (match s.store.op with
      | .reading asker address claim => .reading asker address (f claim)
      | op => op) = StoreOp.idle
    rw [hop]
  belongs r hs q hq := by
    obtain ⟨x, hx, rfl⟩ := List.mem_map.mp hq
    have hkept := hs x hx
    cases x <;> exact hkept
  counters := ⟨rfl, rfl, rfl⟩
  reset := id

theorem clearHold (s : State) : s.Settles { s with hold := .cleared } := of_same rfl rfl

theorem filterWithKey (s : State) (p : StoreRequest → Bool) (k : KeyMonitor) :
    s.Settles { s with store := { s.store with queue := s.store.queue.filter p }, key := k } :=
  (filterQueue s p).trans (of_same rfl rfl)

theorem withdrawReset (s : State) : s.Settles s.withdrawReset := by
  cases hwithdrawn : s.service.reset.isSome && !s.store.carriesReset with
  | false => rw [State.withdrawReset_of_not hwithdrawn]; exact refl s
  | true =>
    obtain ⟨hset, hcarries⟩ := Bool.and_eq_true_iff.mp hwithdrawn
    obtain ⟨p, hp⟩ := Option.isSome_iff_exists.mp hset
    rw [State.withdrawReset_of_withdrawn hp (by simpa using hcarries)]
    have hqueue := withQueue s (s.store.queue.filterMap withoutResetCause) fun q hq => by
      obtain ⟨x, hx, hcause⟩ := List.mem_filterMap.mp hq
      refine ⟨x, hx, fun r => ?_⟩
      unfold withoutResetCause at hcause
      split at hcause <;> cases hcause <;> rfl
    exact { hqueue with counters := ⟨rfl, rfl, rfl⟩, reset := fun _ => rfl }

theorem withdrawConfig (s : State) : s.Settles s.withdrawConfig := by
  rw [State.withdrawConfig_eq]
  exact (filterQueue s outlastsHold).trans (of_same rfl rfl)

theorem endHold (s : State) : s.Settles s.endHold :=
  ite (fun _ => (clearHold s).trans ((withdrawReset _).trans (withdrawConfig _))) fun _ => refl s

theorem settleRead (s : State) (asker : Station) (address : Byte) (claim : Claim) (value : Option Word) :
    s.Settles (s.settleRead asker address claim value) := by
  cases claim <;> cases value <;> exact of_same rfl rfl

theorem foldl {α : Type} {f : State → α → State} (h : ∀ (s : State) (a : α), s.Settles (f s a)) (xs : List α) (s : State) :
    s.Settles (xs.foldl f s) := by
  induction xs generalizing s with
  | nil => exact refl s
  | cons a xs ih => exact (h s a).trans (ih _)

theorem beginDrain (w : RestartWait) (s : State) : s.Settles (s.beginDrain w) := by
  unfold State.beginDrain
  extract_lets ended declaimed
  have hended : s.Settles ended := (endHold s).trans (withdrawConfig _)
  have hdeclaimed : ended.Settles declaimed :=
    ite (fun _ => (clearHold ended).trans (reclaim _ _)) fun _ => refl ended
  refine (hended.trans hdeclaimed).trans ((filterWithKey declaimed _ _).trans (foldl (fun s q => ?_) _ _))
  split
  · exact settleRead _ _ _ _ _
  · exact refl s

theorem closeRestart (s : State) (commit save : Bool) : s.Settles (s.closeRestart commit save) := by
  unfold State.closeRestart
  split
  · exact refl s
  · exact ite (fun _ => beginDrain _ _) fun _ => of_same rfl rfl

theorem settleReset_false (s : State) : s.Settles (s.settleReset false) := by
  unfold State.settleReset
  split
  · exact refl s
  next p hreset =>
    dsimp only
    rw [if_neg Bool.false_ne_true, if_neg Bool.false_ne_true, State.withService_of_same (by rfl)]
    have hcleared : s.Settles { s with service := { s.service with reset := none } } :=
      { of_same (s := s) (e := s) rfl rfl with counters := ⟨rfl, rfl, rfl⟩, reset := fun _ => rfl }
    exact hcleared.trans (of_same rfl rfl)

theorem recordOutcome_false (s : State) (q : StoreRequest) : s.Settles (s.recordOutcome q false) := by
  cases q with
  | commit urgent again forRestart => exact ite (fun _ => closeRestart _ _ _) fun _ => refl s
  | save keyOff reset again carried forRestart =>
    have hsettled : s.Settles (if carried then s.settleReset false else s) := ite (fun _ => settleReset_false _) fun _ => refl s
    exact hsettled.trans (ite (fun _ => closeRestart _ _ _) fun _ => refl _)
  | program | erase | read => exact refl s

theorem requestFailed (s : State) (q : StoreRequest) : s.Settles (s.requestFailed q) := by
  unfold State.requestFailed
  split <;> exact recordOutcome_false _ _

theorem ring (h : s.Settles e) (r : Ring) : e.store.ring r = s.store.ring r := by
  cases r
  · exact h.odo
  · exact h.save

end State.Settles

/-! ## FAILED rings -/

/-- The store with a ring FAILED (R157): its requests have left, and a suspended erase of it is dropped with its block. -/
theorem Store.withFailedRing_eq (st : Store) (r : Ring) (free : Nat) :
    let x := { st.withRing r { st.ring r with failed := true } with queue := st.queue.filter fun q => !q.belongsTo r }
    st.withFailedRing r free = x ∨ ∃ job, st.suspended = some job ∧
      st.withFailedRing r free = { x with suspended := none, array := scrambleBlock st.array job.block free } := by
  intro x
  have hsuspended : x.suspended = st.suspended := Store.withRing_suspended _ _ _
  have harray : x.array = st.array := Store.withRing_array _ _ _
  have hmatch : st.withFailedRing r free = match x.suspended with
      | some job => if job.owner = .ring r then
          { x with suspended := none, array := scrambleBlock x.array job.block free } else x
      | none => x := rfl
  rw [hmatch, harray, hsuspended]
  cases hjob : st.suspended with
  | none => exact .inl rfl
  | some job =>
    dsimp only
    split
    · exact .inr ⟨job, rfl, rfl⟩
    · exact .inl rfl

theorem Store.withFailedRing_facts (st : Store) (r : Ring) (free : Nat) :
    ((st.withFailedRing r free).ring r).failed = true ∧ (st.withFailedRing r free).conditions = st.conditions ∧
      (st.withFailedRing r free).op = st.op ∧
      (st.withFailedRing r free).queue = st.queue.filter fun q => !q.belongsTo r := by
  obtain h | ⟨job, -, h⟩ := st.withFailedRing_eq r free <;> rw [h] <;> cases r <;> exact ⟨rfl, rfl, rfl, rfl⟩

/-- What a ring that becomes FAILED leaves of `s` (R157). -/
structure State.RingFails (r : Ring) (s e : State) : Prop where
  failed : (e.store.ring r).failed = true
  array : e.store.array = (s.store.withFailedRing r s.freeIndex).array
  conditions : e.store.conditions = s.store.conditions
  faults : e.faults = s.faults.after .nvFailed
  idle : s.store.op = .idle → e.store.op = .idle
  gone : ∀ q ∈ e.store.queue, q.belongsTo r = false
  reset : s.service.reset = none → e.service.reset = none

theorem State.failRing_fails (s : State) (r : Ring) : s.RingFails r (s.failRing r) := by
  let b : State := { s with store := s.store.withFailedRing r s.freeIndex, freeIndex := s.freeIndex + 64 }
  have hsettles : (b.reportFault .nvFailed).Settles (s.failRing r) := State.Settles.foldl State.Settles.requestFailed _ _
  have hstore : (b.reportFault .nvFailed).store = s.store.withFailedRing r s.freeIndex := State.reportFault_store _ _
  obtain ⟨hfailed, hconditions, hop, hqueue⟩ := s.store.withFailedRing_facts r s.freeIndex
  refine ⟨?_, ?_, ?_, ?_, fun hidle => hsettles.idle ?_, hsettles.belongs r ?_, fun hreset => hsettles.reset ?_⟩
  · rw [hsettles.ring, hstore, hfailed]
  · rw [hsettles.array, hstore]
  · rw [hsettles.conditions, hstore, hconditions]
  · have hkept : (s.failRing r).faults = (b.reportFault .nvFailed).faults :=
      foldl_keeps (fun x : State => x.faults) _ State.requestFailed_faults _ _
    rw [hkept, State.reportFault_faults]
  · rw [hstore, hop, hidle]
  · intro q hq
    rw [hstore, hqueue] at hq
    simpa using (List.mem_filter.mp hq).2
  · rw [State.reportFault_service]
    exact hreset

/-! ## The next good block of a cycle -/

/-- The blocks of a ring's cycle after one of them (R155). -/
def cycleAfter (r : Ring) (b : BlockId) : List BlockId :=
  (List.range ((ringBlocks r).length - 1)).map fun k =>
    (ringBlocks r).getD (((ringBlocks r).idxOf b + 1 + k) % (ringBlocks r).length) b

/-- The cycle after a block, read off the ring's blocks written twice: the other blocks, and then the block itself. -/
theorem cycle_eq (r : Ring) : ∀ b ∈ ringBlocks r, ∃ rest,
    ((ringBlocks r ++ ringBlocks r).dropWhile (· ≠ b)).drop 1 = cycleAfter r b ++ rest ∧
    ∀ x ∈ ringBlocks r, x ≠ b → x ∈ cycleAfter r b := by
  have hcycle : ∀ b ∈ ringBlocks r,
      (((ringBlocks r ++ ringBlocks r).dropWhile (· ≠ b)).drop 1).take ((ringBlocks r).length - 1) = cycleAfter r b ∧
      ∀ x ∈ ringBlocks r, x ≠ b → x ∈ cycleAfter r b := by
    cases r <;> decide
  intro b hb
  obtain ⟨htake, hother⟩ := hcycle b hb
  refine ⟨(((ringBlocks r ++ ringBlocks r).dropWhile (· ≠ b)).drop 1).drop ((ringBlocks r).length - 1), ?_, hother⟩
  rw [← htake, List.take_append_drop]

/-- With another good block in the ring, the next good one is the first of the cycle. -/
theorem Store.nextGood_of_good {st : Store} {r : Ring} {b : BlockId} (hb : b ∈ ringBlocks r)
    (hgood : ∃ x ∈ ringBlocks r, x ≠ b ∧ st.conditions[x] ≠ .bad) :
    (((ringBlocks r ++ ringBlocks r).dropWhile (· ≠ b)).drop 1).find? (fun x => decide (st.conditions[x] ≠ .bad)) =
      some (st.nextGood r b) := by
  obtain ⟨rest, hcycle, hother⟩ := cycle_eq r b hb
  obtain ⟨x, hx, hne, hxgood⟩ := hgood
  have hfound : ((cycleAfter r b).find? fun x => decide (st.conditions[x] ≠ .bad)).isSome := by
    rw [List.find?_isSome]
    exact ⟨x, hother x hx hne, decide_eq_true hxgood⟩
  obtain ⟨c, hc⟩ := Option.isSome_iff_exists.mp hfound
  have hnext : st.nextGood r b = c := by
    show ((cycleAfter r b).find? fun x => decide (st.conditions[x] ≠ .bad)).getD b = c
    rw [hc, Option.getD_some]
  rw [hcycle, List.find?_append, hc, hnext]
  rfl

/-- Two blocks of a list that pass a test, one of them at least beside a block that does not. -/
theorem exists_other_of_countP {xs : List BlockId} {p : BlockId → Bool} {b : BlockId} (hcount : 2 ≤ xs.countP p) (hb : p b = false) :
    ∃ x ∈ xs, x ≠ b ∧ p x = true := by
  obtain ⟨x, hx, hpx⟩ := List.countP_pos_iff.mp (by omega : 0 < xs.countP p)
  refine ⟨x, hx, fun h => ?_, hpx⟩
  rw [h, hb] at hpx
  exact Bool.false_ne_true hpx

/-! ## A block made BAD -/

section

variable {s : State} {r : Ring} {b : BlockId}

/-- The store with a block made BAD, and the occurrence reported (R156). -/
def State.withBad (s : State) (b : BlockId) : State :=
  { s with store := { s.store.ended with conditions := s.store.conditions.set b .bad } }.reportFault .nvWear

/-- Whether a block is good after another was made BAD (R156). -/
def goodBeside (s : State) (b x : BlockId) : Bool := decide ((s.store.conditions.set b .bad)[x] ≠ .bad)

theorem State.blockMadeBad_of_few (h : (ringBlocks r).countP (goodBeside s b) < 2) :
    s.blockMadeBad r b = (s.withBad b).failRing r := if_pos h

theorem State.blockMadeBad_of_enough (h : 2 ≤ (ringBlocks r).countP (goodBeside s b)) :
    let st : Store := { s.store.ended with conditions := s.store.conditions.set b .bad }
    ∃ q, s.blockMadeBad r b = { s.withBad b with store := { (if (s.store.ring r).current = b then
        st.withRing r { s.store.ring r with current := st.nextGood r b, next := 0 } else st) with queue := q } } := by
  intro st
  have hstore : (s.withBad b).store = st := State.reportFault_store _ _
  have hring : st.ring r = s.store.ring r := by cases r <;> rfl
  let moved := st.withRing r { s.store.ring r with current := st.nextGood r b, next := 0 }
  let current : Store := if (s.store.ring r).current = b then moved.wantBlank r (st.nextGood r b) else st
  have hbad : s.blockMadeBad r b = { s.withBad b with store := current.lookAhead r } := by
    refine (if_neg (show ¬ (ringBlocks r).countP (goodBeside s b) < 2 by omega)).trans ?_
    show ({ s.withBad b with store := Store.lookAhead r (if ((s.withBad b).store.ring r).current = b then
      Store.wantBlank r ((s.withBad b).store.nextGood r b) ((s.withBad b).store.withRing r { (s.withBad b).store.ring r with
        current := (s.withBad b).store.nextGood r b, next := 0 }) else (s.withBad b).store) } : State) = _
    rw [hstore, hring]
  obtain ⟨q, hq, -⟩ := Store.lookAhead_eq r current
  refine ⟨current.queue ++ q, ?_⟩
  rw [hbad, hq]
  unfold current
  split
  · obtain h | h := Store.wantBlank_eq r (st.nextGood r b) moved <;> rw [h]
  · rfl

end

/-! ## The completions of the configuration and of erases -/

/-- An NV_WEAR occurrence in the record (R98). -/
theorem wear_recorded (f : FaultRecord) : (f.after .nvWear).latched.getLsbD 3 = true ∧
    faultCount (f.after .nvWear) .nvWear = min 255 (faultCount f .nvWear + 1) :=
  ⟨(latched_after f .nvWear 3).trans rfl, (faultCount_after f .nvWear .nvWear).trans (if_pos rfl)⟩

/-- The array, the hold and the faults after the store has served with the latch clear. -/
theorem State.serve_clear {s : State} (hlatch : s.hold.latch = false) : s.serve.store.array = s.store.array ∧ s.serve.hold = s.hold ∧
    s.serve.faults = s.faults ∧ s.line.KeepsAnswers s.serve.line :=
  ⟨s.serve_served.memory.1, s.serve_served.hold_of_clear hlatch, State.serve_faults s, s.serve_served.keeps⟩

/-- Settles O50: the branches of each completion, then what serving and the close keep. -/
theorem configWritesComplete : Obligations.ConfigWritesComplete := by
  refine ⟨fun t stuck s r value hdue hop hwaits => ?_, fun t residue s job since hdue hop => ?_⟩
  · intro result
    let b : State := { s with
      now := t, store := { s.store.ended with array := writeWord s.store.array r.index.toNat result } }
    let a : State := if result = value then b.answer r.asker 0x64 r.index .done
      else (b.answer r.asker 0x64 r.index .failed).reportFault .nvWear
    have hexec : exec (.wordProgramCompletion t stuck) s = .next (State.close s a.clearLatch.serve) := by
      refine ((show exec (.wordProgramCompletion t stuck) s = execWordProgramCompletion t stuck s from rfl).trans
        (State.expiry_of_due _ hdue)).trans ?_
      rw [show (s.stamped t).store.op = .word r.asker r.index value from hop]
      rfl
    obtain ⟨harray, hhold, hfaults, hkeeps⟩ := State.serve_clear (s := a.clearLatch) rfl
    have hkept : a.line.KeepsAnswers (State.close s a.clearLatch.serve).line := hkeeps.trans (State.close_keeps _ _)
    refine ⟨_, hexec, ?_, ?_, fun hsound => ?_, fun hworn => ?_⟩
    · rw [State.close_store, harray]
      show a.store.array = b.store.array
      unfold a
      split
      · rfl
      · rw [State.reportFault_store]
        rfl
    · rw [State.close_hold, hhold]
      show { a.hold with latch := false } = { b.hold with latch := false }
      unfold a
      split
      · rfl
      · rw [State.reportFault_hold]
        rfl
    · have ha : a = b.answer r.asker 0x64 r.index .done := if_pos hsound
      rw [State.close_faults, hfaults]
      exact ⟨hkept _ _ _ _ (ha ▸ Line.answered_answer _ _ _ _ _ hwaits), by rw [ha]; rfl⟩
    · have ha : a = (b.answer r.asker 0x64 r.index .failed).reportFault .nvWear := if_neg hworn
      rw [State.close_faults, hfaults]
      refine ⟨hkept _ _ _ _ (ha ▸ State.reportFault_keeps _ _ _ _ _ _ (Line.answered_answer _ _ _ _ _ hwaits)), ?_⟩
      show a.faults = _
      rw [ha, State.reportFault_faults]
      rfl
  · intro array o
    let y : State := { s with now := t, store := { s.store with array } }
    have hexec : o = .next (State.close s (State.attemptDone { s with now := t } job residue)) := by
      refine ((show o = execEraseAttemptEnd t residue s from rfl).trans (State.expiry_of_due _ hdue)).trans ?_
      rw [show (s.stamped t).store.op = .erasing job since from hop]
      rfl
    refine ⟨fun hresidue hmore => ?_, fun r b howner hblock hindex hwaits => ?_, fun ring howner hblank => ?_,
      fun ring howner hresidue hlast => ?_, fun hnone a => ?_⟩
    · rw [hexec, State.attemptDone]
      dsimp only
      rw [if_neg (by simp [hresidue, array]), if_pos hmore]
      rfl
    · subst hblock
      refine ⟨fun hblank => ?_, fun hresidue hlast => ?_⟩
      · let a : State := { y with store := y.store.ended }
        have hdone : State.attemptDone { s with now := t } job residue =
            (a.answer r.asker 0x63 r.index .done).clearLatch.serve := by
          unfold State.attemptDone
          dsimp only
          rw [if_pos hblank, howner, hindex]
        obtain ⟨harray, hhold, hfaults, hkeeps⟩ := State.serve_clear (s := (a.answer r.asker 0x63 r.index .done).clearLatch) rfl
        refine ⟨_, hexec, ?_, ?_, ?_, ?_⟩
        · rw [hdone]
          exact (hkeeps.trans (State.close_keeps _ _)) _ _ _ _ (Line.answered_answer _ _ _ _ _ hwaits)
        · rw [State.close_hold, hdone, hhold]
          rfl
        · rw [State.close_store, hdone, harray]
          rfl
        · rw [State.close_faults, hdone, hfaults]
          rfl
      · let a : State := { y with store := y.store.ended }
        let f := ((a.answer r.asker 0x63 r.index .failed).reportFault .nvWear).clearLatch
        have hdone : State.attemptDone { s with now := t } job residue = f.serve := by
          unfold State.attemptDone
          dsimp only
          rw [if_neg (by simp [hresidue, array]), if_neg (by omega), howner, ← hindex]
        obtain ⟨harray, hhold, hfaults, hkeeps⟩ := State.serve_clear (s := f) rfl
        refine ⟨_, hexec, ?_, ?_, ?_, ?_⟩
        · rw [hdone]
          exact (hkeeps.trans (State.close_keeps _ _)) _ _ _ _
            (State.reportFault_keeps _ _ _ _ _ _ (Line.answered_answer _ _ _ _ _ hwaits))
        · rw [State.close_hold, hdone, hhold]
          show { (State.reportFault _ _).hold with latch := false } = _
          rw [State.reportFault_hold]
          rfl
        · rw [State.close_store, hdone, harray]
          show (State.reportFault _ _).store.array = _
          rw [State.reportFault_store]
          rfl
        · rw [State.close_faults, hdone, hfaults]
          exact State.reportFault_faults _ _
    · let st : Store := { y.store.ended with conditions := s.store.conditions.set job.block .blank }
      have hdone : State.attemptDone { s with now := t } job residue = State.serve { y with store := st.lookAhead ring } := by
        unfold State.attemptDone
        dsimp only
        rw [if_pos hblank, howner]
      obtain ⟨q, hq, -⟩ := Store.lookAhead_eq ring st
      obtain ⟨harray, -, -, hconditions⟩ := (State.serve_served { y with store := st.lookAhead ring }).memory
      refine ⟨_, hexec, ?_, ?_, ?_⟩
      · rw [State.close_store, hdone, harray]
        show (st.lookAhead ring).array = _
        rw [hq]
        rfl
      · rw [State.close_store, hdone, hconditions]
        show (st.lookAhead ring).conditions = _
        rw [hq]
      · rw [State.close_faults, hdone, State.serve_faults]
    · intro conditions good blocks
      have hdone : State.attemptDone { s with now := t } job residue = (y.blockMadeBad ring job.block).serve := by
        unfold State.attemptDone
        dsimp only
        rw [if_neg (by simp [hresidue, array]), if_neg (by omega), howner]
      let x := State.close s (y.blockMadeBad ring job.block).serve
      obtain ⟨-, hodo, hsave, hconditions⟩ := (State.serve_served (y.blockMadeBad ring job.block)).memory
      have hxconditions : x.store.conditions = (y.blockMadeBad ring job.block).store.conditions := by
        rw [State.close_store, hconditions]
      have hxfaults : x.faults = (y.blockMadeBad ring job.block).faults := by rw [State.close_faults, State.serve_faults]
      have hxring : x.store.ring ring = (y.blockMadeBad ring job.block).store.ring ring := by
        rw [State.close_store]
        cases ring
        · exact hodo
        · exact hsave
      have hxqueue : ∀ q ∈ x.store.queue, q ∈ (y.blockMadeBad ring job.block).store.queue := by
        rw [State.close_store]
        exact fun q hq => (State.serve_served _).sublist.subset hq
      have hworn : (y.withBad job.block).faults = s.faults.after .nvWear := State.reportFault_faults _ _
      have hwithBad : (y.withBad job.block).store = { y.store.ended with conditions } := State.reportFault_store _ _
      refine ⟨x, by rw [hexec, hdone], ?_⟩
      obtain hfew | henough : blocks.countP good < 2 ∨ 2 ≤ blocks.countP good := by omega
      · have hbad : y.blockMadeBad ring job.block = (y.withBad job.block).failRing ring := State.blockMadeBad_of_few hfew
        have hfails := (y.withBad job.block).failRing_fails ring
        rw [← hbad] at hfails
        have hfaults : x.faults = (s.faults.after .nvWear).after .nvFailed := by rw [hxfaults, hfails.faults, hworn]
        obtain ⟨hlatched, hcount⟩ := wear_recorded s.faults
        refine ⟨?_, ?_, ?_, fun _ => ⟨?_, hfaults, fun q hq => hfails.gone q (hxqueue q hq)⟩, fun h => absurd h (by omega)⟩
        · rw [hxconditions, hfails.conditions, hwithBad]
        · rw [hfaults]
          exact (latched_after _ _ _).trans (by rw [show bit _ 3 = true from hlatched, Bool.or_true])
        · rw [hfaults, faultCount_after, if_neg (by decide), hcount]
        · rw [hxring]
          exact hfails.failed
      · obtain ⟨q, hbad⟩ := State.blockMadeBad_of_enough (s := y) (r := ring) (b := job.block) henough
        let st : Store := { y.store.ended with conditions }
        have hfaults : x.faults = s.faults.after .nvWear := by rw [hxfaults, hbad, hworn]
        obtain ⟨hlatched, hcount⟩ := wear_recorded s.faults
        refine ⟨?_, by rw [hfaults, hlatched], by rw [hfaults, hcount], fun h => absurd h (by omega), fun _ =>
          ⟨hfaults, fun hother => ?_, fun hcurrent hmem => ?_⟩⟩
        · rw [hxconditions, hbad]
          show (if _ then _ else _ : Store).conditions = conditions
          split
          · exact Store.withRing_conditions _ _ _
          · rfl
        · rw [hxring, hbad]
          show Store.ring { (if (s.store.ring ring).current = job.block then _ else _ : Store) with queue := q } ring = _
          rw [if_neg hother]
          cases ring <;> rfl
        · have hbroken : good job.block = false := by simp [good, conditions]
          obtain ⟨c, hc, hne, hcgood⟩ := exists_other_of_countP henough hbroken
          refine ⟨_, Store.nextGood_of_good (st := st) hmem ⟨c, hc, hne, of_decide_eq_true hcgood⟩, ?_⟩
          rw [hxring, hbad]
          show Store.ring { (if (s.store.ring ring).current = job.block then _ else _ : Store) with queue := q } ring = _
          rw [if_pos hcurrent]
          cases ring <;> rfl
    · show readWord (eraseBlock s.store.array job.block residue) a = _
      rw [hnone]
      exact readWord_eraseBlock _ _ _

end Sys2Proof.Machine
end

section
/-! The words of a ring record (O49). -/

namespace Sys2Proof.Machine

/-! ## A record's ring -/

/-- What moving a ring to its next slot leaves of the store (R155). -/
structure Store.Advances (r : Ring) (st e : Store) : Prop where
  array : e.array = st.array
  suspended : e.suspended = st.suspended
  op : e.op = st.op
  fails : (e.ring r).fails = (st.ring r).fails
  failed : (e.ring r).failed = (st.ring r).failed
  queue : ∀ q ∈ e.queue, q ∈ st.queue ∨ q.isErase = true

theorem Store.advance_advances (r : Ring) (st : Store) : st.Advances r (st.advance r) := by
  obtain ⟨current, next, q, heq, -, herase⟩ := st.advance_eq r
  rw [heq]
  refine ⟨Store.withRing_array _ _ _, Store.withRing_suspended _ _ _, Store.withRing_op _ _ _, ?_, ?_, fun x hx => ?_⟩
  · cases r <;> rfl
  · cases r <;> rfl
  · obtain hold | hnew := List.mem_append.mp hx
    · exact .inl hold
    · obtain ⟨b, rfl⟩ := herase x hnew
      exact .inr rfl

/-- The words outside a block that is left in no defined state read as before. -/
theorem readWord_scrambleBlock {a : Array16} (b : BlockId) (free : Nat) {j : Nat} (hwf : risesFrom 0 a = true)
    (hj : j / 64 ≠ b.val) : readWord (scrambleBlock a b free) j = readWord a j := by
  have hfold (ns : List Nat) (hns : ∀ n ∈ ns, n < 64) (c : Array16) (hc : risesFrom 0 c = true) :
      readWord (ns.foldl (fun a n => writeWord a (wordAddress b n) (Config.freeWord (free + n))) c) j = readWord c j := by
    induction ns generalizing c with
    | nil => rfl
    | cons n ns ih =>
      have hn : n < 64 := hns n List.mem_cons_self
      have hne : j ≠ wordAddress b n := by
        unfold wordAddress
        omega
      rw [List.foldl_cons, ih (fun m hm => hns m (List.mem_cons_of_mem _ hm)) _ (risesFrom_writeWord c 0 _ _ hc (Nat.zero_le _)),
        readWord_writeWord c 0 _ _ _ hc, if_neg hne]
  exact hfold _ (fun n hn => List.mem_range.mp hn) a hwf

/-! ## The outcome of a record -/

/-- Whether a request carries the pending reset (R148). -/
def StoreRequest.carries (q : StoreRequest) : Prop := ∃ keyOff reset again forRestart, q = .save keyOff reset again true forRestart

namespace State

variable (s : State) (q : StoreRequest) (ok : Bool)

/-- The outcome of a record settles the reset that it carries, and then closes a RESTART's entry (R148, R195). -/
theorem recordOutcome_settles : ∃ m, (m = s ∨ m = s.settleReset ok) ∧ (q.carries → m = s.settleReset ok) ∧
    m.Settles (s.recordOutcome q ok) ∧ (s.key.restart = none → s.recordOutcome q ok = m) := by
  have hclose (m : State) (hm : m.key = s.key) (forRestart a b : Bool) :
      m.Settles (if forRestart then m.closeRestart a b else m) ∧
      (s.key.restart = none → (if forRestart then m.closeRestart a b else m) = m) := by
    refine ⟨Settles.ite (fun _ => Settles.closeRestart _ _ _) fun _ => Settles.refl _, fun hnone => ?_⟩
    have hsame : m.closeRestart a b = m := by
      unfold closeRestart
      rw [hm, hnone]
    rw [hsame, ite_self]
  cases q with
  | commit urgent again forRestart =>
    exact ⟨s, .inl rfl, (fun ⟨_, _, _, _, h⟩ => nomatch h), hclose s rfl forRestart true false⟩
  | save keyOff reset again carried forRestart =>
    cases carried with
    | true => exact ⟨_, .inr rfl, fun _ => rfl, hclose _ (settleReset_key s ok) forRestart false true⟩
    | false => exact ⟨_, .inl rfl, (fun ⟨_, _, _, _, h⟩ => nomatch h), hclose s rfl forRestart false true⟩
  | program | erase | read => exact ⟨s, .inl rfl, (fun ⟨_, _, _, _, h⟩ => nomatch h), Settles.refl s, fun _ => rfl⟩

theorem settleReset_service {p : PendingReset} (hreset : s.service.reset = some p) :
    (s.settleReset ok).service = { (if ok then s.service.zeroed p.selector else s.service) with reset := none } := by
  unfold settleReset
  rw [hreset]
  have hframe := congrArg State.service
    (s.withService_sameBut { (if ok then s.service.zeroed p.selector else s.service) with reset := none }).frame
  exact hframe

theorem settleReset_reset : (s.settleReset ok).service.reset = none := by
  cases hreset : s.service.reset with
  | none =>
    unfold settleReset
    rw [hreset]
    exact hreset
  | some p => rw [settleReset_service s ok hreset]

variable {s q ok}

theorem recordOutcome_reset (hcarries : q.carries) : (s.recordOutcome q ok).service.reset = none := by
  obtain ⟨m, -, hm, hsettles, -⟩ := s.recordOutcome_settles q ok
  refine hsettles.reset ?_
  rw [hm hcarries]
  exact settleReset_reset s ok

/-- What the outcome of a record leaves of the store. -/
theorem recordOutcome_store (s : State) (q : StoreRequest) (ok : Bool) (r : Ring) :
    (s.recordOutcome q ok).store.array = s.store.array ∧ (s.recordOutcome q ok).store.ring r = s.store.ring r ∧
    ((∀ x ∈ s.store.queue, x.belongsTo r = false) → ∀ x ∈ (s.recordOutcome q ok).store.queue, x.belongsTo r = false) ∧
    (s.key.restart = none → (s.recordOutcome q ok).store = s.store) := by
  obtain ⟨m, hm, -, hsettles, hnone⟩ := s.recordOutcome_settles q ok
  have hstore : m.store = s.store := by
    obtain rfl | rfl := hm
    · rfl
    · exact settleReset_store s ok
  rw [← hstore]
  exact ⟨hsettles.array, hsettles.ring r, hsettles.belongs r, fun h => by rw [hnone h]⟩

end State

/-! ## A request at the front of the queue -/

/-- A commit or save record at the front of the queue stays there, or starts. -/
theorem State.Served.front {s e : State} (h : s.Served e) {q : StoreRequest} {rest : List StoreRequest}
    (hq : q.isCommit = true ∨ q.isSave = true) (hqueue : s.store.queue = q :: rest) :
    (∃ rest', e.store.queue = q :: rest') ∨ ∃ (y : State) (st : Store), y.integ = s.integ ∧ Store.start y q st = some e.store := by
  induction h generalizing rest with
  | rests => exact .inl ⟨rest, hqueue⟩
  | resumes => exact .inl ⟨rest, hqueue⟩
  | starts s q' st hop hmem hstart =>
    by_cases hself : q' = q
    · subst hself
      exact .inr ⟨s, _, rfl, hstart⟩
    · obtain ⟨-, -, -, -, hkept, -⟩ := start_memory hstart
      refine .inl ⟨rest.erase q', ?_⟩
      show st.queue = _
      rw [hkept, hqueue]
      exact List.erase_cons_tail (by simpa using fun h => hself h.symm)
  | refuses s e asker address value hop _ ih =>
    have hne : q ≠ .program asker address value := by
      rintro rfl
      obtain h | h := hq <;> cases h
    obtain hstays | ⟨y, st, hinteg, hstart⟩ := ih (rest := rest.erase (.program asker address value)) (by
      show s.store.queue.erase _ = _
      rw [hqueue]
      exact List.erase_cons_tail (by simpa using hne))
    · exact .inl hstays
    · exact .inr ⟨y, st, hinteg, hstart⟩

/-- The record of a ring asked for again (R157). -/
def StoreRequest.retried : StoreRequest → StoreRequest
  | .commit urgent _ forRestart => .commit urgent true forRestart
  | .save keyOff reset _ carried forRestart => .save keyOff reset true carried forRestart
  | q => q

/-- The requests that a ring records: commits and save records (R161, R162). -/
def Ring.records (r : Ring) (q : StoreRequest) : Bool :=
  match r with | .odo => q.isCommit | .save => q.isSave

/-- A record asked for again at the front of the queue stands there once the store has served, or has begun anew. -/
theorem State.serve_retried {s : State} {r : Ring} {q : StoreRequest} {rest : List StoreRequest}
    (hq : r.records q = true) (hqueue : s.store.queue = q.retried :: rest) :
    (∃ rest', s.serve.store.queue = q.retried :: rest') ∨
      ∃ q' w, s.serve.store.op = .record r q' w 0 false s.integ.tenths ∧ q'.isRetry = true := by
  cases r with
  | odo =>
    cases q with
    | commit urgent again forRestart =>
      obtain hstays | ⟨y, st, hinteg, hstart⟩ := s.serve_served.front (.inl rfl) hqueue
      · exact .inl hstays
      · have hop := (congrArg Store.op (Option.some.inj hstart)).symm
        refine .inr ⟨.commit urgent true forRestart, odoRecord y.integ.tenths, ?_, rfl⟩
        rw [← hinteg]
        exact hop
    | _ => cases hq
  | save =>
    cases q with
    | save keyOff reset again carried forRestart =>
      obtain hstays | ⟨y, st, hinteg, hstart⟩ := s.serve_served.front (.inr rfl) hqueue
      · exact .inl hstays
      · have hop := (congrArg Store.op (Option.some.inj hstart)).symm
        refine .inr ⟨.save keyOff reset true (carried || y.service.reset.isSome) forRestart, saveRecord y, ?_, rfl⟩
        rw [← hinteg]
        exact hop
    | _ => cases hq

/-! ## A record given up -/

namespace State

variable (s : State) (r : Ring) (q : StoreRequest) (abandon : Bool)

/-- The store with the fail count of a ring raised and its next slot taken, and the occurrence reported (R157). -/
def gaveUp : State :=
  { s with store := (s.store.ended.withRing r { s.store.ring r with fails := (s.store.ring r).fails + 1 }).advance r }.reportFault .nvWear

theorem verifyFailed_eq : s.verifyFailed r q abandon =
    if 3 ≤ (s.store.ring r).fails + 1 then ((s.gaveUp r).failRing r).recordOutcome q false
    else if abandon then (s.gaveUp r).recordOutcome q false
    else { s.gaveUp r with store := { (s.gaveUp r).store with queue := q.retried :: (s.gaveUp r).store.queue } } := rfl

theorem gaveUp_advances :
    (s.store.ended.withRing r { s.store.ring r with fails := (s.store.ring r).fails + 1 }).Advances r (s.gaveUp r).store := by
  rw [gaveUp, reportFault_store]
  exact Store.advance_advances _ _

theorem gaveUp_store : (s.gaveUp r).store.array = s.store.array ∧ (s.gaveUp r).store.suspended = s.store.suspended ∧
    ((s.gaveUp r).store.ring r).fails = (s.store.ring r).fails + 1 ∧
    ((s.gaveUp r).store.ring r).failed = (s.store.ring r).failed := by
  obtain ⟨harray, hsuspended, -, hfails, hfailed, -⟩ := s.gaveUp_advances r
  refine ⟨harray.trans (Store.withRing_array _ _ _), hsuspended.trans (Store.withRing_suspended _ _ _), ?_, ?_⟩
  · rw [hfails, Store.ring_withRing_same]
  · rw [hfailed, Store.ring_withRing_same]

theorem gaveUp_faults : (s.gaveUp r).faults = s.faults.after .nvWear := by rw [gaveUp, reportFault_faults]

variable {s r q abandon}

/-- Below three failures the ring goes on (R157). -/
theorem verifyFailed_of_few (hfew : (s.store.ring r).fails < 2) :
    (s.verifyFailed r q abandon).faults = s.faults.after .nvWear ∧ (s.verifyFailed r q abandon).store.array = s.store.array ∧
    ((s.verifyFailed r q abandon).store.ring r).fails = (s.store.ring r).fails + 1 ∧
    ((s.verifyFailed r q abandon).store.ring r).failed = (s.store.ring r).failed ∧
    (abandon = false → ∃ rest, (s.verifyFailed r q abandon).store.queue = q.retried :: rest) := by
  obtain ⟨harray, -, hfails, hfailed⟩ := s.gaveUp_store r
  rw [verifyFailed_eq, if_neg (by omega)]
  cases abandon with
  | true =>
    obtain ⟨hkeptArray, hkeptRing, -, -⟩ := recordOutcome_store (s.gaveUp r) q false r
    rw [if_pos rfl, recordOutcome_faults, hkeptArray, hkeptRing]
    exact ⟨s.gaveUp_faults r, harray, hfails, hfailed, fun h => nomatch h⟩
  | false =>
    rw [if_neg Bool.false_ne_true]
    refine ⟨s.gaveUp_faults r, harray, ?_, ?_, fun _ => ⟨_, rfl⟩⟩
    · rw [← hfails]
      cases r <;> rfl
    · rw [← hfailed]
      cases r <;> rfl

/-- At three failures the ring becomes FAILED (R157). -/
theorem verifyFailed_of_many (hmany : 2 ≤ (s.store.ring r).fails) :
    (s.verifyFailed r q abandon).faults = (s.faults.after .nvWear).after .nvFailed ∧
    ((s.verifyFailed r q abandon).store.ring r).failed = true ∧
    ((s.verifyFailed r q abandon).store.array = s.store.array ∨ ∃ job free, s.store.suspended = some job ∧
      (s.verifyFailed r q abandon).store.array = scrambleBlock s.store.array job.block free) ∧
    (∀ x ∈ (s.verifyFailed r q abandon).store.queue, x.belongsTo r = false) ∧
    (q.carries → (s.verifyFailed r q abandon).service.reset = none) := by
  obtain ⟨harray, hsuspended, -, -⟩ := s.gaveUp_store r
  have hfails := (s.gaveUp r).failRing_fails r
  obtain ⟨hkeptArray, hkeptRing, hkeptGone, -⟩ := recordOutcome_store ((s.gaveUp r).failRing r) q false r
  rw [verifyFailed_eq, if_pos (by omega), recordOutcome_faults, hkeptArray, hkeptRing]
  refine ⟨?_, hfails.failed, ?_, hkeptGone hfails.gone, recordOutcome_reset⟩
  · rw [hfails.faults, s.gaveUp_faults r]
  · rw [hfails.array]
    obtain hsame | ⟨job, hjob, hscrambled⟩ := (s.gaveUp r).store.withFailedRing_eq r (s.gaveUp r).freeIndex
    · rw [hsame]
      exact .inl ((Store.withRing_array _ _ _).trans harray)
    · rw [hscrambled]
      exact .inr ⟨job, (s.gaveUp r).freeIndex, hsuspended.symm.trans hjob, by rw [harray]⟩

end State

/-! ## The word that completes -/

section

variable {s : State} {r : Ring} {q : StoreRequest} {words : List Word} {pos tenths : Nat} {stuck : Word}

/-- The store with a word of a record programmed as it reads back (R150). -/
def Store.wordProgrammed (st : Store) (r : Ring) (pos : Nat) (result : Word) : Store :=
  { st with
    array := writeWord st.array (slotAddress r (st.ring r).current (st.ring r).next pos) result
    conditions := st.conditions.set (st.ring r).current .used }

/-- What a word of a record reads back as (R150). -/
def Store.wordResult (st : Store) (r : Ring) (words : List Word) (pos : Nat) (stuck : Word) : Word :=
  readWord st.array (slotAddress r (st.ring r).current (st.ring r).next pos) &&& (nthWord words pos ||| stuck)

theorem State.recordWordDone_eq (abandon : Bool) : s.recordWordDone r q words pos abandon tenths stuck =
    let st := s.store.wordProgrammed r pos (s.store.wordResult r words pos stuck)
    if s.store.wordResult r words pos stuck ≠ nthWord words pos then ({ s with store := st }.verifyFailed r q abandon).serve
    else if abandon then ({ s with store := st.ended.advance r }.recordOutcome q false).serve
    else if pos + 1 < words.length then
      { s with store := st.begun s.now (.record r q words (pos + 1) false tenths) wordMillis }
    else ({ s with store := (st.ended.withRing r { s.store.ring r with fails := 0 }).advance r }.recordOutcome q true).serve := rfl

/-- The ring of a store after a word is the ring before it. -/
theorem Store.wordProgrammed_ring (st : Store) (r r' : Ring) (pos : Nat) (result : Word) :
    (st.wordProgrammed r pos result).ring r' = st.ring r' := by cases r' <;> rfl

theorem Store.ended_ring (st : Store) (r : Ring) : st.ended.ring r = st.ring r := by cases r <;> rfl

theorem State.serve_ring (s : State) (r : Ring) : s.serve.store.ring r = s.store.ring r := by
  obtain ⟨-, hodo, hsave, -⟩ := s.serve_served.memory
  cases r
  · exact hodo
  · exact hsave

end

/-- Settles O49: each branch of the word's completion, then the outcome's, the store's and the close's part. -/
theorem recordWordsAreProgrammed : Obligations.RecordWordsAreProgrammed := by
  intro t stuck s r q words pos tenths abandon hdue hop hlaw _ address value result o again carries
  let y : State := { s with now := t }
  let st := s.store.wordProgrammed r pos result
  have hexec : o = .next (State.close s (y.recordWordDone r q words pos abandon tenths stuck)) := by
    refine ((show o = execWordProgramCompletion t stuck s from rfl).trans (State.expiry_of_due _ hdue)).trans ?_
    rw [show (s.stamped t).store.op = .record r q words pos abandon tenths from hop]
    rfl
  have hsound : s.store.Sound := (storeLaw_iff s).mp hlaw
  have hrises : risesFrom 0 s.store.array = true := ((arrayWf_iff _).mp hsound.array).1
  have hread (a : Nat) (w : Word) : readWord (writeWord s.store.array address w) a =
      if a = address then w else readWord s.store.array a := readWord_writeWord _ 0 _ _ _ hrises
  have hring : st.ring r = s.store.ring r := s.store.wordProgrammed_ring r r pos result
  have hdone : y.recordWordDone r q words pos abandon tenths stuck =
      if result ≠ value then ({ y with store := st }.verifyFailed r q abandon).serve
      else if abandon then ({ y with store := st.ended.advance r }.recordOutcome q false).serve
      else if pos + 1 < words.length then
        { y with store := st.begun t (.record r q words (pos + 1) false tenths) wordMillis }
      else ({ y with store := (st.ended.withRing r { s.store.ring r with fails := 0 }).advance r }.recordOutcome q true).serve :=
    State.recordWordDone_eq abandon
  refine ⟨fun x hx => ?_, fun hgood hgo hmore => ?_, fun hgood hgo hlast => ?_, fun hgood hgiven => ?_, fun hworn => ?_⟩
  · obtain rfl : _ = x := Host.Outcome.next.inj (hexec.symm.trans hx)
    rw [State.close_store]
    exact ((Keeps.recordWordDone (s := y) hop stuck).store hsound).array
  · rw [hexec, hdone]
    rw [if_neg (not_not.mpr hgood), if_neg (by simp [hgo]), if_pos hmore, ← hgood]
    rfl
  · let w : State := { y with store := (st.ended.withRing r { s.store.ring r with fails := 0 }).advance r }
    have hend : y.recordWordDone r q words pos abandon tenths stuck = (w.recordOutcome q true).serve := by
      rw [hdone]
      rw [if_neg (not_not.mpr hgood), if_neg (by simp [hgo]), if_neg (by omega)]
    have hadvances := Store.advance_advances r (st.ended.withRing r { s.store.ring r with fails := 0 })
    obtain ⟨hkeptArray, hkeptRing, -, -⟩ := State.recordOutcome_store w q true r
    rw [hexec, hend]
    refine ⟨_, rfl, ?_, fun a => ?_, ?_, fun hcarries p hp => ?_⟩
    · rw [State.close_store, State.serve_ring, hkeptRing, hadvances.fails, Store.ring_withRing_same]
    · rw [State.close_store, (State.serve_served _).memory.1, hkeptArray, hadvances.array, Store.withRing_array]
      rw [← hgood]
      exact hread a result
    · rw [State.close_faults, State.serve_faults, State.recordOutcome_faults]
    · obtain ⟨m, -, hm, hsettles, -⟩ := w.recordOutcome_settles q true
      have hservice : m.service = { s.service.zeroed p.selector with reset := none } := by
        rw [hm hcarries, State.settleReset_service w true hp]
        rfl
      obtain ⟨hdist, hdays, hwear⟩ := hsettles.counters
      rw [State.close_service, State.serve_service, hdist, hdays, hwear, hservice]
      refine ⟨hsettles.reset (by rw [hservice]), ?_, ?_, ?_⟩ <;> simp [Service.zeroed, names]
  · let w : State := { y with store := st.ended.advance r }
    have hend : y.recordWordDone r q words pos abandon tenths stuck = (w.recordOutcome q false).serve := by
      rw [hdone]
      rw [if_neg (not_not.mpr hgood), if_pos hgiven]
    have hadvances := Store.advance_advances r st.ended
    have hsettles := State.Settles.recordOutcome_false w q
    obtain ⟨hdist, hdays, hwear⟩ := hsettles.counters
    obtain ⟨-, -, -, hnone⟩ := State.recordOutcome_store w q false r
    rw [hexec, hend]
    refine ⟨_, rfl, ?_, fun hrestart q' hq' => ?_, fun a => ?_, ?_, ?_, ?_, ?_, fun hcarries => ?_⟩
    · rw [State.close_store, State.serve_ring, hsettles.ring]
      have hfails : (w.store.ring r).fails = (s.store.ring r).fails := by
        rw [show w.store = st.ended.advance r from rfl, hadvances.fails, Store.ended_ring, hring]
      have hfailed : (w.store.ring r).failed = (s.store.ring r).failed := by
        rw [show w.store = st.ended.advance r from rfl, hadvances.failed, Store.ended_ring, hring]
      rw [← hfails, ← hfailed]
    · rw [State.close_store] at hq'
      have hmem := (State.serve_served _).sublist.subset hq'
      rw [hnone hrestart] at hmem
      exact hadvances.queue q' hmem
    · rw [State.close_store, (State.serve_served _).memory.1, hsettles.array, show w.store = st.ended.advance r from rfl,
        hadvances.array, ← hgood]
      exact hread a result
    · rw [State.close_faults, State.serve_faults, State.recordOutcome_faults]
    · rw [State.close_service, State.serve_service, hdist]
    · rw [State.close_service, State.serve_service, hdays]
    · rw [State.close_service, State.serve_service, hwear]
    · rw [State.close_service, State.serve_service]
      exact State.recordOutcome_reset hcarries
  · let w : State := { y with store := st }
    have hend : y.recordWordDone r q words pos abandon tenths stuck = (w.verifyFailed r q abandon).serve := by
      rw [hdone]
      rw [if_pos hworn]
    have hfails : (w.store.ring r).fails = (s.store.ring r).fails := by rw [show w.store = st from rfl, hring]
    have hfailed : (w.store.ring r).failed = (s.store.ring r).failed := by rw [show w.store = st from rfl, hring]
    obtain ⟨hlatched, hcount⟩ := wear_recorded s.faults
    rw [hexec, hend]
    refine ⟨_, rfl, ?_⟩
    rw [State.close_faults, State.close_store, State.close_service, State.serve_faults, State.serve_service, State.serve_ring,
      (State.serve_served (w.verifyFailed r q abandon)).memory.1]
    obtain hfew | hmany : (s.store.ring r).fails < 2 ∨ 2 ≤ (s.store.ring r).fails := by omega
    · obtain ⟨hfaults, harray, hxfails, hxfailed, hretried⟩ :=
        State.verifyFailed_of_few (s := w) (q := q) (abandon := abandon) (hfails ▸ hfew)
      rw [hfaults]
      refine ⟨hlatched, hcount, fun _ => ⟨hxfails.trans (by rw [hfails]), hxfailed.trans hfailed, fun a => ?_, fun hgo => ?_⟩,
        fun h => absurd h (by omega)⟩
      · rw [harray]
        exact hread a result
      · obtain ⟨rest, hqueue⟩ := hretried hgo
        have hrequest : r.records q = true := by
          have hopSound := hsound.op
          rw [hop] at hopSound
          exact (Bool.and_eq_true_iff.mp hopSound).2
        have hserved := State.serve_retried hrequest hqueue
        rw [State.verifyFailed_integ] at hserved
        exact hserved
    · obtain ⟨hfaults, hxfailed, harray, hgone, hreset⟩ :=
        State.verifyFailed_of_many (s := w) (q := q) (abandon := abandon) (hfails ▸ hmany)
      rw [hfaults]
      refine ⟨?_, ?_, fun h => absurd h (by omega), fun _ => ⟨hxfailed, fun a ha => ?_,
        fun q' hq' => hgone q' ((State.serve_served _).sublist.subset hq'), hreset⟩⟩
      · exact (latched_after _ _ _).trans (by rw [show bit _ 3 = true from hlatched, Bool.or_true])
      · rw [faultCount_after, if_neg (by decide), hcount]
      · obtain hsame | ⟨job, free, hjob, hscrambled⟩ := harray
        · rw [hsame]
          exact hread a result
        · rw [hscrambled, show w.store.array = writeWord s.store.array address result from rfl,
            readWord_scrambleBlock job.block free (risesFrom_writeWord _ 0 _ _ hrises (Nat.zero_le _)) (ha job hjob)]
          exact hread a result

end Sys2Proof.Machine
end

section
/-! What a PUBLISH makes of the slots (R3, R4, R9 to R11, R15): the consumers leave the slots as the Signal Table has set them, and a
slot that one feed alone reaches goes by its arrival. -/

namespace Sys2Proof.Machine

/-! ## What every consumer of an arrival leaves -/

/-- Two states with the same time, image, slots and key record: what no consumer of an arrival moves. -/
structure State.SameSlots (s x : State) : Prop where
  now : x.now = s.now
  image : x.image = s.image
  slots : x.slots = s.slots
  key : x.key = s.key

namespace State.SameSlots

variable {s x y : State}

theorem refl (s : State) : SameSlots s s := ⟨rfl, rfl, rfl, rfl⟩

theorem trans (hx : SameSlots s x) (hy : SameSlots x y) : SameSlots s y :=
  ⟨hy.now.trans hx.now, hy.image.trans hx.image, hy.slots.trans hx.slots, hy.key.trans hx.key⟩

theorem ite {c : Prop} [Decidable c] (hx : c → SameSlots s x) (hy : ¬ c → SameSlots s y) : SameSlots s (if c then x else y) := by
  split
  · exact hx ‹_›
  · exact hy ‹_›

theorem foldl {α : Type} {f : State → α → State} (h : ∀ s a, SameSlots s (f s a)) (l : List α) (s : State) :
    SameSlots s (l.foldl f s) :=
  List.foldlRecOn (motive := SameSlots s) l f (refl s) fun x hx a _ => hx.trans (h x a)

theorem iterate {f : State → State} (h : ∀ s, SameSlots s (f s)) (n : Nat) (s : State) : SameSlots s (f^[n] s) := by
  induction n generalizing s with
  | zero => exact refl s
  | succ n ih => exact (h s).trans (ih (f s))

theorem reportFault (s : State) (k : FaultKind) : SameSlots s (s.reportFault k) := ⟨by simp, by simp, by simp, by simp⟩

theorem refreshRange (s : State) : SameSlots s s.refreshRange := ⟨by simp, by simp, by simp, by simp⟩

theorem withService (s : State) (x : Service) : SameSlots s (s.withService x) := ⟨by simp, by simp, by simp, by simp⟩

theorem withInteg (s : State) (i : Integrator) : SameSlots s { s with integ := i } := ⟨rfl, rfl, rfl, rfl⟩

theorem tenths (n : Nat) (s : State) : SameSlots s (State.tenths n s) := by
  obtain ⟨hnow, himage, hslots, hrest⟩ := State.tenths_frame n s
  exact ⟨hnow, himage, hslots, by simp_all⟩

theorem addDistance (s : State) (d : Nat) : SameSlots s (s.addDistance d) := by
  rw [State.addDistance_eq]
  extract_lets n integ counted
  have hcounted : SameSlots s counted := (withInteg s _).trans (tenths n _)
  exact ite (fun _ => hcounted.trans ⟨rfl, rfl, rfl, rfl⟩) fun _ => hcounted

theorem reportSources (s : State) (l : List Source) : SameSlots s (s.reportSources l) := ⟨rfl, rfl, rfl, rfl⟩

theorem settleDisplay (s : State) : SameSlots s s.settleDisplay := ⟨rfl, rfl, rfl, rfl⟩

theorem ackPress (s : State) : SameSlots s s.ackPress := ⟨rfl, rfl, rfl, rfl⟩

theorem updateBasis (s : State) (before : Nat) : SameSlots s (s.updateBasis before) :=
  ite (fun _ => refl s) fun _ => ite (fun _ => withInteg s _) fun _ => (withInteg s _).trans (refreshRange _)

theorem enterWindow (s : State) (d dt : Nat) : SameSlots s (s.enterWindow d dt) := by
  unfold State.enterWindow
  exact ⟨by simp, by simp, by simp, by simp⟩

theorem takeDistance (s : State) (d dt : Nat) : SameSlots s (s.takeDistance d dt) := by
  refine ite (fun _ => trans (ite (fun _ => ?_) fun _ => refl s) (enterWindow _ d dt)) fun _ => ?_
  · exact (addDistance s d).trans ((updateBasis _ _).trans ⟨rfl, rfl, rfl, rfl⟩)
  · exact (withInteg s _).trans (reportFault _ _)

theorem takeFuel (s : State) (f dt : Nat) : SameSlots s (s.takeFuel f dt) :=
  ite (fun _ => ite (fun _ => ⟨rfl, rfl, rfl, rfl⟩) fun _ => refl s) fun _ =>
    (withInteg s _).trans (reportFault _ _)

theorem tankArrived (s : State) : SameSlots s s.tankArrived :=
  ite (fun _ => ⟨by simp, by simp, by simp, by simp⟩) fun _ => refl s

theorem countDays (s : State) (d : Nat) (kept : Bool) : SameSlots s (s.countDays d kept) :=
  ite (fun _ => ite (fun _ => withService s _) fun _ => reportFault s _) fun _ => refl s

theorem markDay (s : State) (d : Nat) (kept : Bool) : SameSlots s (s.markDay d kept) :=
  ite (fun _ => ⟨rfl, rfl, rfl, rfl⟩) fun _ => refl s

theorem judgeJourney (s : State) : SameSlots s s.judgeJourney :=
  ite (fun _ => ite (fun _ => ⟨rfl, rfl, rfl, rfl⟩) fun _ => ⟨rfl, rfl, rfl, rfl⟩) fun _ => refl s

theorem consume (before : Option Nat) (s : State) (x : Arrival) : SameSlots s (s.consume before x) := by
  unfold State.consume
  split
  · split
    · exact takeDistance _ _ _
    · exact refl s
  · split
    · exact takeFuel _ _ _
    · exact refl s
  · exact tankArrived s
  · refine trans ?_ (judgeJourney _)
    split
    · exact (countDays _ _ _).trans (markDay _ _ _)
    · exact refl s
  · exact ⟨by simp, by simp, by simp, by simp⟩
  · exact refl s

theorem pagePress (s : State) : SameSlots s s.pagePress :=
  ite (fun _ => ⟨rfl, rfl, rfl, rfl⟩) fun _ => refl s

theorem resetPress (s : State) : SameSlots s s.resetPress := by
  refine ite (fun _ => ?_) fun _ => refl s
  split
  · exact ⟨rfl, rfl, rfl, rfl⟩
  · exact ⟨rfl, rfl, rfl, rfl⟩
  · exact refl s

theorem takePresses (s : State) (presses : List Nat) : SameSlots s (s.takePresses presses) :=
  (iterate pagePress _ s).trans ((iterate resetPress _ _).trans (iterate ackPress _ _))

/-- A PUBLISH moves the slots by its feeds and nothing else of what the consumers read. -/
theorem takePublish (s : State) (m : Publish) :
    SameSlots { s with slots := (feeds s.image.subs m).foldl (applyFeed s.now) s.slots } (s.takePublish m) :=
  (foldl (consume _) _ _).trans <| (reportSources _ _).trans <| (settleDisplay _).trans <| foldl (fun s (x : Arrival) => takePresses s x.presses) _ _

end State.SameSlots

/-! ## The feeds of one telegram -/

section

variable {now : Stamp} {i : SlotId}

theorem applyFeed_same {f : Subscription × Nat} (slots : Vector Slot 19) (h : f.1.slot = i) :
    (applyFeed now slots f)[i] = slots[i].afterArrival i f.1 f.2 now := by
  subst h
  exact Vector.getElem_set_self _

theorem applyFeed_other {f : Subscription × Nat} (slots : Vector Slot 19) (h : f.1.slot ≠ i) :
    (applyFeed now slots f)[i] = slots[i] :=
  Vector.getElem_set_ne _ _ fun h' => h (Fin.ext h')

/-- A slot that no feed reaches stays. -/
theorem applyFeeds_of_unfed {fed : List (Subscription × Nat)} (h : ∀ f ∈ fed, f.1.slot ≠ i) (slots : Vector Slot 19) :
    (fed.foldl (applyFeed now) slots)[i] = slots[i] := by
  induction fed generalizing slots with
  | nil => rfl
  | cons f fed ih =>
    obtain ⟨hf, hfed⟩ := List.forall_mem_cons.mp h
    rw [List.foldl_cons, ih hfed, applyFeed_other slots hf]

/-- A slot that one feed alone reaches goes by that feed. -/
theorem applyFeeds_of_fed {f₁ f₂ : List (Subscription × Nat)} {e : Subscription} {v : Nat} (he : e.slot = i)
    (h : ∀ f ∈ f₁ ++ f₂, f.1.slot ≠ i) (slots : Vector Slot 19) :
    ((f₁ ++ (e, v) :: f₂).foldl (applyFeed now) slots)[i] = slots[i].afterArrival i e v now := by
  obtain ⟨hbefore, hafter⟩ := List.forall_mem_append.mp h
  rw [List.foldl_append, List.foldl_cons, applyFeeds_of_unfed hafter, applyFeed_same _ he, applyFeeds_of_unfed hbefore]

end

/-! ## One slot by its arrival -/

section

variable {i : SlotId} {e : Subscription} {v : Nat} {now : Stamp} {sl : Slot}

/-- All ones on a LEVEL slot: no valid reading (R15). -/
theorem Slot.afterArrival_of_noReading (h : noReading i e v = true) :
    sl.afterArrival i e v now =
      { sl with state := .lost, value := 0, acquired := 0, late := none, lost := none, stamp := now } := by
  unfold Slot.afterArrival
  exact if_pos h

theorem Slot.afterArrival_of_reading (h : noReading i e v = false) :
    sl.afterArrival i e v now =
      { sl.store i v with
        state := if sl.continues then .fresh else .acquiring
        acquired := if sl.continues then 2 else 1
        stamp := now
        late := startTimer now (2 * e.period)
        lost := startTimer now (e.k * e.period) } := by
  unfold Slot.afterArrival
  rw [if_neg (by simp [h])]

theorem Slot.continues_iff (sl : Slot) :
    sl.continues = true ↔ sl.state = .fresh ∨ sl.state = .late ∨ (sl.state = .acquiring ∧ sl.acquired ≠ 0) := by
  simp [Slot.continues, or_assoc]

theorem Slot.store_value (h : slotKind i = .level ∨ slotKind i = .bits) : (sl.store i v).value = v := by
  unfold Slot.store
  rcases h with h | h <;> rw [h]

theorem Slot.store_base (h : slotKind i = .count ∨ slotKind i = .presses) :
    (sl.store i v).base = v ∧ (sl.store i v).baseValid = true := by
  unfold Slot.store
  rcases h with h | h <;> rw [h] <;> exact ⟨rfl, rfl⟩

end

/-! ## The command -/

/-- The effect of a PUBLISH on the part (R3, R175, R193). -/
def State.hearPublish (m : Publish) (s : State) : State :=
  if s.receives then
    if (s.accept m.origin false).key.started && m.origin ≠ (s.accept m.origin false).key.station then
      (s.accept m.origin false).takePublish m
    else s.accept m.origin false
  else s

theorem exec_publishReceived {m : Publish} (hfits : m.fits = true) (t : Stamp) (s : State) :
    exec (.publishReceived t m) s = .next (State.close (s.stamped t) (State.hearPublish m (s.stamped t))) :=
  (show exec (.publishReceived t m) s = execPublishReceived t m s from rfl).trans (if_pos hfits)

theorem State.hearPublish_of_taken {m : Publish} {s : State} (hreceives : s.receives = true) (hstarted : s.key.started = true)
    (horigin : m.origin ≠ s.key.station) : s.hearPublish m = (s.accept m.origin false).takePublish m := by
  unfold State.hearPublish
  rw [if_pos hreceives, if_pos (by simp [hstarted, horigin])]

theorem State.hearPublish_of_not_taken {m : Publish} {s : State}
    (h : (s.receives && s.key.started && decide (m.origin ≠ s.key.station)) = false) :
    s.hearPublish m = s ∨ s.hearPublish m = s.accept m.origin false := by
  unfold State.hearPublish
  split
  next hreceives =>
    rw [if_neg]
    · exact .inr rfl
    · simpa [hreceives] using h
  next => exact .inl rfl

/-- Settles O20: the consumers leave the slots, and the slots go feed by feed. -/
theorem publishMovesTheSlots : Obligations.PublishMovesTheSlots := by
  unfold Obligations.PublishMovesTheSlots
  intro t m s hfits
  refine ⟨_, exec_publishReceived hfits t s, ?_, fun h => ?_, fun hreceives hstarted horigin i => ?_⟩
  · rw [State.close_image]
    by_cases h : (s.receives && s.key.started && decide (m.origin ≠ s.key.station)) = false
    · obtain hsame | haccepted := State.hearPublish_of_not_taken (s := s.stamped t) h
      · rw [hsame]; rfl
      · rw [haccepted, State.accept_image]; rfl
    · obtain ⟨⟨hreceives, hstarted⟩, horigin⟩ : (s.receives = true ∧ s.key.started = true) ∧ m.origin ≠ s.key.station := by
        simpa [and_assoc] using h
      rw [State.hearPublish_of_taken (s := s.stamped t) hreceives hstarted horigin, (State.SameSlots.takePublish _ m).image]
      exact State.accept_image _ _ _
  · rw [State.close_slots]
    obtain hsame | haccepted := State.hearPublish_of_not_taken (s := s.stamped t) h
    · rw [hsame]; rfl
    · rw [haccepted, State.accept_slots]; rfl
  · have hslots : (State.close (s.stamped t) (State.hearPublish m (s.stamped t))).slots =
        (feeds s.image.subs m).foldl (applyFeed t) s.slots := by
      rw [State.close_slots, State.hearPublish_of_taken (s := s.stamped t) hreceives hstarted horigin,
        (State.SameSlots.takePublish _ m).slots, State.accept_image, State.accept_slots, State.accept_now]
      rfl
    rw [hslots]
    refine ⟨fun hunfed => applyFeeds_of_unfed hunfed s.slots, fun f₁ f₂ e v hfeeds he hothers => ?_⟩
    rw [hfeeds, applyFeeds_of_fed he hothers]
    refine ⟨fun hlevel hones => ?_, fun hreading => ?_⟩
    · rw [Slot.afterArrival_of_noReading (by simp [noReading, hlevel, hones])]
      exact ⟨rfl, rfl, rfl, rfl⟩
    · rw [Slot.afterArrival_of_reading (by simpa [noReading] using hreading)]
      refine ⟨?_, rfl, rfl, rfl, Slot.store_value, Slot.store_base⟩
      split
      next h =>
        have hcontinues := (Slot.continues_iff _).mpr h
        exact ⟨if_pos hcontinues, if_pos hcontinues⟩
      next h =>
        have hbegins := mt (Slot.continues_iff _).mp h
        exact ⟨if_neg hbegins, if_neg hbegins⟩

end Sys2Proof.Machine
end

section
/-! Warnings (R86 to R95): the tests, the judgement, and what an entry moves when it becomes ACTIVE and when it leaves (O43). -/

namespace Sys2Proof.Machine

/-! ## The arbiter's requests -/

namespace Chime

/-- A grant moves no request. -/
@[simp] theorem settle_requests (now : Stamp) (ttp : Option Nat) (c : Chime) : (c.settle now ttp).requests = c.requests := by
  unfold settle grant startPreempt
  dsimp only
  (repeat' split) <;> rfl

@[simp] theorem place_requests (now : Stamp) (ttp : Option Nat) (e : EntryId) (r : ChimeRequest) (c : Chime) :
    (c.place now ttp e r).requests = c.requests.set e (some r) := by
  unfold place startPreempt
  dsimp only
  split <;> rfl

@[simp] theorem withdraw_requests (e : EntryId) (c : Chime) : (c.withdraw e).requests = c.requests.set e none := by
  unfold withdraw silence
  dsimp only
  (repeat' split) <;> rfl

end Chime

/-! ## The owners of messages -/

/-- No message of an id belongs to an owner. -/
structure Message.Disowned (o : Owner) (id : Nat) (q : List Message) : Prop where
  free : ∀ m ∈ q, m.id = id → o ∉ m.owners

namespace Message.Disowned

variable {o : Owner} {id : Nat} {q q' : List Message}

theorem of_owners {f : Message → Message} (hf : ∀ m, (f m).id = m.id ∧ (f m).owners = m.owners) (h : Disowned o id q) :
    Disowned o id (q.map f) := by
  refine ⟨fun m hm hid => ?_⟩
  obtain ⟨x, hx, rfl⟩ := List.mem_map.mp hm
  rw [(hf x).1] at hid
  rw [(hf x).2]
  exact h.free x hx hid

theorem started {now : Stamp} (h : Disowned o id q) (hq : Display.Started now q q') : Disowned o id q' := by
  obtain rfl | ⟨shown, rfl⟩ := hq
  · exact h
  · refine h.of_owners fun m => ?_
    split
    · exact ⟨(startDuration_key now m).1, by unfold startDuration; split <;> rfl⟩
    · exact ⟨rfl, rfl⟩

/-- A withdrawal leaves its owner no message of the id (R121). -/
theorem withdraw (v : DisplayView) (id : Nat) (o : Owner) (d : Display) : Disowned o id (d.withdraw v id o).queue := by
  unfold Display.withdraw
  split
  next =>
    refine started ⟨fun m hm hid hown => ?_⟩ (Display.queueChanged_started v _)
    obtain ⟨x, -, rfl⟩ := List.mem_map.mp (List.mem_of_mem_filter hm)
    by_cases hx : x.id = id
    · rw [if_pos hx] at hown
      simp at hown
    · rw [if_neg hx] at hid
      exact hx hid
  next hnone =>
    refine ⟨fun m hm hid hown => hnone (List.any_eq_true.mpr ⟨m, hm, by simp [hid, hown]⟩)⟩

end Message.Disowned

/-! ## Lamps -/

/-- Setting the lamps moves nothing else of the monitor. -/
theorem Monitor.relight_facts (image : Image) (m : Monitor) :
    (m.relight image).entries = m.entries ∧ (m.relight image).active = m.active ∧
      (m.relight image).bulbTimer = m.bulbTimer ∧ (m.relight image).lampsLive = m.lampsLive := by
  unfold Monitor.relight
  split <;> exact ⟨rfl, rfl, rfl, rfl⟩

/-! ## Entry to ACTIVE -/

/-- The post of a warning (R90). -/
def WarningDef.posts (d : WarningDef) (e : EntryId) : Post :=
  { id := d.message, priority := if d.chimeClass = .high then 0 else 1, duration := none, poster := .warning e }

namespace Alerts

variable (s : State) (e : EntryId) (a : Alerts)

/-- The monitor's part of an entry to ACTIVE (R90). -/
def activated (fromPending : Bool) (m : Monitor) : Monitor :=
  { m with entries := m.entries.set e { m.entries[e] with
      state := .active, phrases := 0, debounce := none, remind := none
      stamp := if fromPending then s.now else m.entries[e].stamp } }

theorem activate_monitor (fromPending : Bool) :
    (a.activate s e fromPending).monitor =
      if fromPending then
        { activated s e fromPending a.monitor with active := a.monitor.active ++ [e] }.relight s.image
      else activated s e fromPending a.monitor := by
  rcases hpattern : s.image.warnings[e].pattern with _ | p <;> by_cases hmessage : s.image.warnings[e].message = 0 <;>
    simp only [Alerts.activate, hpattern, hmessage, ↓reduceIte] <;> cases fromPending <;> rfl

theorem activate_monitor_facts (fromPending : Bool) :
    (a.activate s e fromPending).monitor.entries = (activated s e fromPending a.monitor).entries ∧
      (a.activate s e fromPending).monitor.active = a.monitor.active ++ (if fromPending then [e] else []) ∧
      (a.activate s e fromPending).monitor.bulbTimer = a.monitor.bulbTimer ∧
      (a.activate s e fromPending).monitor.lampsLive = a.monitor.lampsLive := by
  rw [activate_monitor]
  cases fromPending
  · exact ⟨rfl, (List.append_nil _).symm, rfl, rfl⟩
  · exact Monitor.relight_facts _ _

theorem activate_chime_of_none (fromPending : Bool) (h : s.image.warnings[e].pattern = none) :
    (a.activate s e fromPending).chime = a.chime := by
  by_cases hmessage : s.image.warnings[e].message = 0 <;>
    simp only [Alerts.activate, h, hmessage, ↓reduceIte] <;> cases fromPending <;> rfl

theorem activate_post (fromPending : Bool) (h : s.image.warnings[e].message ≠ 0) :
    (a.activate s e fromPending).display = a.display.post s.displayView (s.image.warnings[e].posts e) := by
  rcases hpattern : s.image.warnings[e].pattern with _ | p <;>
    simp only [Alerts.activate, hpattern, h, ↓reduceIte] <;> cases fromPending <;> rfl

end Alerts

theorem hasId_iff {q : List Message} {id : Nat} : hasId q id = true ↔ id ∈ q.map (·.id) := by
  simp [hasId]

/-- A post that finds room is in the queue (R118, R119). -/
theorem Display.post_hasId (v : DisplayView) (p : Post) {d : Display} (h : d.queue.length < 8) :
    hasId (d.post v p).queue p.id = true := by
  rw [hasId_iff]
  by_cases hhas : hasId d.queue p.id = true
  · have hposted : d.post v p = ({ d with queue := updateId d.queue p.id (refreshMessage v.now p) } : Display).queueChanged v :=
      if_pos hhas
    obtain ⟨m, hm, hid⟩ := List.any_eq_true.mp hhas
    have hid : m.id = p.id := of_decide_eq_true hid
    rw [hposted, queueChanged_ids]
    refine List.mem_map.mpr ⟨_, List.mem_map.mpr ⟨m, hm, rfl⟩, ?_⟩
    rw [if_pos hid, (refreshMessage_key v.now p m).1, hid]
  · unfold post
    dsimp only
    rw [if_neg hhas, if_pos h, queueChanged_ids]
    simp [insertMessage]

/-! ## The tests -/

section

variable (s : State) (t : Test) (h : Nat) (before : Bool) (v : Nat)

theorem testResult_of_above (hkind : t.kind = .above) : testResult s t h before v =
    if t.arg < v then true
    else if (t.arg ≤ h ∧ v = 0) ∨ (h < t.arg ∧ v < t.arg - h) then false else before := by
  have hleft : (if t.arg ≤ h then v = 0 else v < t.arg - h) ↔ (t.arg ≤ h ∧ v = 0) ∨ (h < t.arg ∧ v < t.arg - h) := by
    split <;> omega
  unfold testResult
  simp only [hkind, hleft]

theorem testResult_of_below (hkind : t.kind = .below) : testResult s t h before v =
    if v < t.arg then true
    else if (sourceTop s t.source ≤ t.arg + h ∧ v = sourceTop s t.source) ∨
      (t.arg + h < sourceTop s t.source ∧ t.arg + h < v) then false else before := by
  have hleft : (if sourceTop s t.source ≤ t.arg + h then v = sourceTop s t.source else t.arg + h < v) ↔
      (sourceTop s t.source ≤ t.arg + h ∧ v = sourceTop s t.source) ∨
        (t.arg + h < sourceTop s t.source ∧ t.arg + h < v) := by
    split <;> omega
  unfold testResult
  simp only [hkind, hleft]

end

/-! ## The judgement -/

section

variable {s : State} {d : WarningDef} {w : Warning}

theorem judge_of_masked (h : d.allows s.key.key = false) : judge s d w = (w.result1, w.result2, false) := by
  unfold judge
  simp [h]

/-- Whether a test of an entry reads a source without a usable value. -/
def WarningDef.loses (s : State) (d : WarningDef) : Prop :=
  sourceValue s d.first.source = none ∨ ∃ t, d.second = some t ∧ sourceValue s t.source = none

theorem WarningDef.loses_iff : d.loses s ↔
    ((sourceValue s d.first.source).isNone || (match d.second with
      | some t => (sourceValue s t.source).isNone
      | none => false)) = true := by
  unfold WarningDef.loses
  cases d.second <;> simp

theorem judge_of_held (hallows : d.allows s.key.key = true) (hholds : d.lossHolds = true) (h : d.loses s) :
    judge s d w = (w.result1, w.result2, w.condition) := by
  unfold judge
  rw [if_neg (by simp [hallows])]
  dsimp only
  rw [if_pos]
  rw [hholds, Bool.true_and]
  exact WarningDef.loses_iff.mp h

theorem judge_of_tested (hallows : d.allows s.key.key = true) (h : d.lossHolds = true → ¬ d.loses s) :
    judge s d w = match d.second with
      | none => (testOrFalse s d.first d.hysteresis w.result1, w.result2, testOrFalse s d.first d.hysteresis w.result1)
      | some t => (testOrFalse s d.first d.hysteresis w.result1, testOrFalse s t 0 w.result2,
          testOrFalse s d.first d.hysteresis w.result1 && testOrFalse s t 0 w.result2) := by
  unfold judge
  rw [if_neg (by simp [hallows])]
  dsimp only
  refine (if_neg ?_).trans rfl
  rw [Bool.and_eq_true]
  exact fun ⟨hholds, hloses⟩ => h hholds (WarningDef.loses_iff.mpr hloses)

end

/-! ## The evaluation of one entry -/

section

variable (s : State) (e : EntryId) (a : Alerts)

/-- An entry with its judgement. -/
def Alerts.judged : Warning :=
  let w := a.monitor.entries[e]
  let now := judge s s.image.warnings[e] w
  { w with result1 := now.1, result2 := now.2.1, condition := now.2.2 }

theorem evalEntry_of_disabled (h : s.image.warnings[e].enabled = false) : evalEntry s a e = a := by
  unfold evalEntry
  exact if_pos (by rw [h]; rfl)

theorem evalEntry_of_enabled (h : s.image.warnings[e].enabled = true) : evalEntry s a e =
    if (a.judged s e).condition = a.monitor.entries[e].condition then a.setEntry e (a.judged s e)
    else if (a.judged s e).condition then (a.setEntry e (a.judged s e)).conditionTrue s e
    else (a.setEntry e (a.judged s e)).conditionFalse s e := by
  unfold evalEntry
  exact if_neg (by rw [h]; decide)

theorem Alerts.setEntry_self (w : Warning) : (a.setEntry e w).monitor.entries[e] = w := Vector.getElem_set_self _

theorem Alerts.setEntry_setEntry (w w' : Warning) : (a.setEntry e w).setEntry e w' = a.setEntry e w' := by
  unfold Alerts.setEntry
  simp

end

/-! ## The moves of an entry -/

namespace Alerts

section

variable {s : State} {e : EntryId} {a : Alerts}

theorem conditionTrue_of_on (h : a.monitor.entries[e].state ≠ .inactive) : a.conditionTrue s e = a := if_pos h

theorem conditionTrue_of_debounced (h : a.monitor.entries[e].state = .inactive) (hdebounce : s.image.warnings[e].debounce ≠ 0) :
    a.conditionTrue s e = a.setEntry e { a.monitor.entries[e] with
      state := .pending, debounce := startTimer s.now (100 * s.image.warnings[e].debounce) } :=
  (if_neg (not_not_intro h)).trans (if_neg hdebounce)

theorem conditionTrue_of_instant (h : a.monitor.entries[e].state = .inactive) (hdebounce : s.image.warnings[e].debounce = 0) :
    a.conditionTrue s e = (a.setEntry e { a.monitor.entries[e] with state := .pending }).activate s e true :=
  (if_neg (not_not_intro h)).trans (if_pos hdebounce)

/-- An entry taken to INACTIVE (R92). -/
def inactive (w : Warning) : Warning := { w with state := .inactive, debounce := none, remind := none }

theorem conditionFalse_of_inactive (h : a.monitor.entries[e].state = .inactive) : a.conditionFalse s e = a := by
  unfold conditionFalse
  dsimp only
  rw [h]

theorem conditionFalse_of_pending (h : a.monitor.entries[e].state = .pending) :
    a.conditionFalse s e = a.setEntry e (inactive a.monitor.entries[e]) := by
  unfold conditionFalse
  dsimp only
  rw [h]
  rfl

/-- What leaving the on states makes of the alerts (R92). -/
def offTheList (s : State) (e : EntryId) (a : Alerts) : Alerts :=
  { a with monitor := { a.monitor with active := a.monitor.active.filter (· ≠ e) }.relight s.image }

theorem conditionFalse_of_on (h : a.monitor.entries[e].state ≠ .inactive) (h' : a.monitor.entries[e].state ≠ .pending) :
    a.conditionFalse s e = (a.leaveActive s e (inactive a.monitor.entries[e])).offTheList s e := by
  unfold conditionFalse
  dsimp only
  split
  next hstate => exact absurd hstate h
  next hstate => exact absurd hstate h'
  next => rfl

end

/-- The withdrawal leaves the warning no message (R92, R121). -/
theorem withdrawBoth_disowned (s : State) (e : EntryId) (a : Alerts) :
    ∀ q ∈ (a.withdrawBoth s e).display.queue, q.id = s.image.warnings[e].message → q.id ≠ 0 → Owner.warning e ∉ q.owners := by
  intro q hq hid hne
  have hmessage : s.image.warnings[e].message ≠ 0 := hid ▸ hne
  have hdisplay : (a.withdrawBoth s e).display = a.display.withdraw s.displayView s.image.warnings[e].message (.warning e) :=
    if_neg hmessage
  rw [hdisplay] at hq
  exact (Message.Disowned.withdraw _ _ _ _).free q hq hid

/-! ## Every other entry stays -/

section

variable {s : State} {e j : EntryId} (hj : j ≠ e)
include hj

theorem setEntry_other (w : Warning) (a : Alerts) : (a.setEntry e w).monitor.entries[j] = a.monitor.entries[j] :=
  Vector.getElem_set_ne e.isLt j.isLt fun h => hj (Fin.ext h).symm

theorem conditionTrue_other (a : Alerts) : (a.conditionTrue s e).monitor.entries[j] = a.monitor.entries[j] := by
  by_cases hstate : a.monitor.entries[e].state = .inactive
  · by_cases hdebounce : s.image.warnings[e].debounce = 0
    · rw [conditionTrue_of_instant hstate hdebounce, (activate_monitor_facts s e _ true).1]
      exact (setEntry_other hj _ (a.setEntry e _)).trans (setEntry_other hj _ a)
    · rw [conditionTrue_of_debounced hstate hdebounce, setEntry_other hj]
  · rw [conditionTrue_of_on hstate]

theorem conditionFalse_other (a : Alerts) : (a.conditionFalse s e).monitor.entries[j] = a.monitor.entries[j] := by
  by_cases hoff : a.monitor.entries[e].state = .inactive
  · rw [conditionFalse_of_inactive hoff]
  · by_cases hpending : a.monitor.entries[e].state = .pending
    · rw [conditionFalse_of_pending hpending, setEntry_other hj]
    · rw [conditionFalse_of_on hoff hpending]
      exact (congrArg (fun v : Vector Warning 16 => v[j]) (Monitor.relight_facts _ _).1).trans (setEntry_other hj _ a)

end

/-! ## What is handed over -/

/-- Bytes 3 to 5 of STATUS, read off the alerts. -/
theorem statusTail_withAlerts (s : State) (a : Alerts) : statusTail (s.withAlerts a) =
    [BitVec.ofNat 8 (activeCount a.monitor), match a.chime.holder with | some e => BitVec.ofNat 8 e.val | none => 0xFF,
     BitVec.ofNat 8 (serviceState s)] := by
  unfold statusTail statusBytes
  split <;> rfl

end Alerts

/-- A monitor with one entry's own fields changed. -/
def Monitor.withEntry (m : Monitor) (e : EntryId) (w : Warning) : Monitor := { m with entries := m.entries.set e w }

section

variable {m : Monitor} {e : EntryId} {w : Warning}

theorem Monitor.withEntry_self : (m.withEntry e w).entries[e] = w := Vector.getElem_set_self _

theorem Monitor.withEntry_other {x : EntryId} (hx : x ≠ e) : (m.withEntry e w).entries[x] = m.entries[x] :=
  Vector.getElem_set_ne e.isLt x.isLt fun hval => hx (Fin.ext hval).symm

theorem activeCount_of_same_state (h : w.state = m.entries[e].state) : activeCount (m.withEntry e w) = activeCount m := by
  refine List.countP_congr fun x _ => ?_
  by_cases hx : x = e
  · rw [hx, Monitor.withEntry_self, h]
  · rw [Monitor.withEntry_other hx]

/-- An entry that is not ACTIVE is not counted, on the list or off it. -/
theorem activeCount_of_left (h : w.state ≠ .active) :
    (m.active.filter (· ≠ e)).countP (fun x => (m.withEntry e w).entries[x].state = .active) = activeCount (m.withEntry e w) := by
  rw [List.countP_filter]
  refine List.countP_congr fun x _ => ?_
  by_cases hx : x = e
  · rw [hx, Monitor.withEntry_self]
    simp [h]
  · simp [hx]

/-- An ACTIVE entry of the list that leaves is counted no more. -/
theorem activeCount_lt (hmem : e ∈ m.active) (hactive : m.entries[e].state = .active) (h : w.state ≠ .active) :
    activeCount (m.withEntry e w) < activeCount m := by
  have hle (l : List EntryId) :
      l.countP (fun x => (m.withEntry e w).entries[x].state = .active) ≤ l.countP fun x => m.entries[x].state = .active := by
    refine List.countP_mono_left fun x _ hx => ?_
    by_cases hxe : x = e
    · rw [hxe, Monitor.withEntry_self] at hx
      exact absurd (of_decide_eq_true hx) h
    · rwa [Monitor.withEntry_other hxe] at hx
  obtain ⟨l₁, l₂, hl⟩ := List.append_of_mem hmem
  have hcount : activeCount m = l₁.countP (fun x => m.entries[x].state = .active) +
      (l₂.countP (fun x => m.entries[x].state = .active) + 1) := by
    unfold activeCount
    rw [hl, List.countP_append, List.countP_cons_of_pos (by simpa using hactive)]
  have hcount' : activeCount (m.withEntry e w) = l₁.countP (fun x => (m.withEntry e w).entries[x].state = .active) +
      l₂.countP (fun x => (m.withEntry e w).entries[x].state = .active) := by
    unfold activeCount
    rw [show (m.withEntry e w).active = l₁ ++ e :: l₂ from hl, List.countP_append, List.countP_cons_of_neg]
    rw [Monitor.withEntry_self]
    simpa using h
  have hbefore := hle l₁
  have hafter := hle l₂
  omega

theorem activeCount_le_length (m : Monitor) : activeCount m ≤ m.active.length := List.countP_le_length

end

/-- The holder's departure hands over the release and then the count (R112, R114). -/
theorem Alerts.leaveActive_handed {s : State} {a : Alerts} {e : EntryId} {w : Warning} (hphase : a.chime.phase = .sounding)
    (hholder : a.chime.holder = some e) (hmem : e ∈ a.monitor.active) (hlength : a.monitor.active.length ≤ 16)
    (hactive : a.monitor.entries[e].state = .active) (hw : w.state ≠ .active) :
    (a.leaveActive s e w).handed = a.handed ++
      [[BitVec.ofNat 8 (activeCount a.monitor), 0xFF, BitVec.ofNat 8 (serviceState s)],
       [BitVec.ofNat 8 (activeCount (a.monitor.withEntry e w)), 0xFF,
        BitVec.ofNat 8 (serviceState s)]] := by
  let withdrawn := (a.withdrawBoth s e).tell s a
  have hreleased : withdrawn.chime.holder = none := by
    show (a.chime.withdraw e).holder = none
    rw [Chime.withdraw_of_holder hphase hholder]
    rfl
  have hbyte : BitVec.ofNat 8 e.val ≠ (0xFF : Byte) := by
    intro h
    have := congrArg BitVec.toNat h
    have := e.isLt
    simp at *
    omega
  have hfirst : withdrawn.handed = a.handed ++
      [[BitVec.ofNat 8 (activeCount a.monitor), 0xFF, BitVec.ofNat 8 (serviceState s)]] := by
    have hholder' : (a.withdrawBoth s e).chime.holder = none := hreleased
    rw [show withdrawn.handed = _ from Alerts.tell_handed s (a.withdrawBoth s e) a, Alerts.statusTail_withAlerts,
      Alerts.statusTail_withAlerts, hholder', hholder, if_neg]
    · rfl
    · intro h
      exact hbyte (List.cons.inj (List.cons.inj h).2).1.symm
  have hlt := activeCount_lt hmem hactive hw
  have hle := activeCount_le_length a.monitor
  rw [show (a.leaveActive s e w).handed = _ from Alerts.tell_handed s (withdrawn.setEntry e w) withdrawn,
    Alerts.statusTail_withAlerts, Alerts.statusTail_withAlerts, show (withdrawn.setEntry e w).chime.holder = none from hreleased,
    hreleased, if_neg, show (withdrawn.setEntry e w).handed = _ from hfirst, List.append_assoc]
  · rfl
  · intro h
    have hcounts := congrArg BitVec.toNat (List.cons.inj h).1
    rw [BitVec.toNat_ofNat, BitVec.toNat_ofNat] at hcounts
    have hbefore : activeCount withdrawn.monitor = activeCount a.monitor := rfl
    have hafter : activeCount (withdrawn.setEntry e w).monitor =
      activeCount (a.monitor.withEntry e w) := rfl
    omega

/-! ## The expiries that make an entry ACTIVE -/

/-- A warning made ACTIVE moves monitor and arbiter, and beside them only what the close of the event moves. -/
theorem State.close_activate_besides (s : State) (t : Stamp) (e : EntryId) (fromPending : Bool) :
    let x := State.close s ((s.stamped t).onAlerts (Alerts.activate (s.stamped t) e fromPending))
    x = State.besides { s with now := t, monitor := x.monitor, chime := x.chime } x := by
  intro x
  refine State.eq_besides_of (e := { s with now := t, monitor := x.monitor, chime := x.chime }) ?_ (State.close_line s _)
    (State.close_handed s _)
  exact State.eq_besides (State.close_now _ _) (State.close_image _ _) (State.close_slots _ _) (State.close_integ _ _)
    (State.close_gauges _ _) (State.close_trip _ _) rfl (State.close_faults _ _) rfl (State.close_service _ _)
    (State.close_hold _ _) (State.close_store _ _) (State.close_key _ _) (State.close_freeIndex _ _) (State.close_pending _ _)

/-- Settles O43: the expiries by what `Alerts.activate` does, the judgement by its three ways, and one entry's evaluation by the state
that the change of its condition finds. -/
theorem warningsBecomeActive : Obligations.WarningsBecomeActive := by
  refine ⟨fun t e s c pending hexpiry => ?_, fun s d w => ?_, fun s t h before v => ?_, fun s a e => ?_⟩
  · let x := State.close s ((s.stamped t).onAlerts (Alerts.activate (s.stamped t) e pending))
    have hexec : exec c s = .next x := by
      obtain ⟨rfl, rfl, hstate, hdue⟩ | ⟨rfl, rfl, hstate, hdue⟩ := hexpiry
      · exact exec_debounceExpiry_of_due hstate hdue
      · exact exec_remindExpiry_of_due hstate hdue
    have hmonitor : x.monitor = ((s.stamped t).alerts.activate (s.stamped t) e pending).monitor := State.close_monitor _ _
    obtain ⟨hentries, hactive, hbulb, hlive⟩ := Alerts.activate_monitor_facts (s.stamped t) e (s.stamped t).alerts pending
    have hrequests : x.chime.requests = ((s.stamped t).alerts.activate (s.stamped t) e pending).chime.requests := by
      rw [show x.chime = _ from State.close_chime _ _, State.onAlerts_chime, Chime.settle_requests]
    refine ⟨x, hexec, State.close_activate_besides s t e pending, ?_⟩
    rw [hmonitor, hentries, hactive, hbulb, hlive, hrequests]
    refine ⟨Vector.getElem_set_self _, fun j hj => Alerts.setEntry_other hj _ s.alerts, rfl, rfl, rfl,
      fun p hp => ?_, fun hp => ?_⟩
    · rw [Alerts.activate_chime (s.stamped t) e pending _ hp, Chime.place_requests]
      exact Vector.getElem_set_self _
    · rw [Alerts.activate_chime_of_none (s.stamped t) e _ pending hp]
      rfl
  · intro lost
    refine ⟨judge_of_masked, judge_of_held, ?_⟩
    intro hallows hkeeps first
    rw [judge_of_tested hallows fun hholds hloses => ?_]
    · rfl
    · obtain ⟨hfirst, hsecond⟩ := hkeeps hholds
      exact hloses.elim hfirst fun ⟨t, ht, hlost⟩ => hsecond t ht hlost
  · refine ⟨testResult_of_above s t h before v, testResult_of_below s t h before v, fun hkind => ?_, fun hkind => ?_⟩ <;>
    · unfold testResult
      rw [hkind]
  · intro d w now judged b
    refine ⟨evalEntry_of_disabled s e a, fun henabled => ?_⟩
    let a₁ := a.setEntry e judged
    have hb : b = if now.2.2 = w.condition then a₁ else if now.2.2 then a₁.conditionTrue s e else a₁.conditionFalse s e :=
      evalEntry_of_enabled s e a henabled
    have hself : a₁.monitor.entries[e] = judged := Alerts.setEntry_self e a judged
    have hstate : a₁.monitor.entries[e].state = w.state := (congrArg Warning.state hself).trans rfl
    have htrue (hnow : now.2.2 = true) (hbefore : w.condition = false) : b = a₁.conditionTrue s e := by
      rw [hb, if_neg (by rw [hnow, hbefore]; decide), if_pos hnow]
    have hfalse (hnow : now.2.2 = false) (hbefore : w.condition = true) : b = a₁.conditionFalse s e := by
      rw [hb, if_neg (by rw [hnow, hbefore]; decide), if_neg (by rw [hnow]; decide)]
    refine ⟨fun j hj => ?_, fun hstays => ?_, fun hnow hbefore hoff hdebounce => ?_, fun hnow hbefore hoff hinstant => ?_,
      fun hnow hbefore hon => ?_⟩
    · rw [hb, ← Alerts.setEntry_other hj judged a]
      split
      · rfl
      · split
        · exact Alerts.conditionTrue_other hj a₁
        · exact Alerts.conditionFalse_other hj a₁
    · rw [hb]
      show _ = a₁
      split
      next => rfl
      next hchanged =>
        split
        next hnow =>
          refine Alerts.conditionTrue_of_on (hstate.symm ▸ ?_)
          obtain h | ⟨-, h⟩ | ⟨h, -⟩ := hstays
          · exact absurd h hchanged
          · exact h
          · exact nomatch hnow.symm.trans h
        next hnow =>
          refine Alerts.conditionFalse_of_inactive (hstate.trans ?_)
          obtain h | ⟨h, -⟩ | ⟨-, h⟩ := hstays
          · exact absurd h hchanged
          · exact absurd h hnow
          · exact h
    · rw [htrue hnow hbefore, Alerts.conditionTrue_of_debounced (hstate.trans hoff) hdebounce, Alerts.setEntry_setEntry, hself]
      rfl
    · let a₂ := a₁.setEntry e { a₁.monitor.entries[e] with state := .pending }
      have hbegun : b = a₂.activate s e true :=
        (htrue hnow hbefore).trans (Alerts.conditionTrue_of_instant (hstate.trans hoff) hinstant)
      obtain ⟨hentries, hactive, -, -⟩ := Alerts.activate_monitor_facts s e a₂ true
      rw [hbegun, hentries, hactive]
      refine ⟨(Vector.getElem_set_self _).trans ?_, rfl, fun hmessage hroom => ?_, fun p hp => ?_⟩
      · rw [Alerts.setEntry_self e a₁, hself]
        rfl
      · rw [Alerts.activate_post s e a₂ true hmessage]
        exact Display.post_hasId s.displayView (d.posts e) hroom
      · rw [Alerts.activate_chime s e true a₂ hp, Chime.place_requests]
        exact Vector.getElem_set_self _
    · by_cases hpending : w.state = .pending
      · have hleft : b = a₁.setEntry e (Alerts.inactive a₁.monitor.entries[e]) :=
          (hfalse hnow hbefore).trans (Alerts.conditionFalse_of_pending (hstate.trans hpending))
        rw [hleft, Alerts.setEntry_self, hself]
        exact ⟨rfl, fun _ => ⟨rfl, rfl, rfl⟩, fun h => absurd hpending h, fun h => nomatch h.symm.trans hpending⟩
      · let off := Alerts.inactive a₁.monitor.entries[e]
        have hleft : b = (a₁.leaveActive s e off).offTheList s e :=
          (hfalse hnow hbefore).trans (Alerts.conditionFalse_of_on (hstate.symm ▸ hon) (hstate.symm ▸ hpending))
        have hoff : off.state ≠ .active := WarningState.noConfusion
        obtain ⟨hentries, hactive, -, -⟩ := Monitor.relight_facts s.image
          { (a₁.leaveActive s e off).monitor with active := a.monitor.active.filter (· ≠ e) }
        have hbentries : b.monitor.entries = a₁.monitor.entries.set e off := (congrArg (·.monitor.entries) hleft).trans hentries
        have hbactive : b.monitor.active = a.monitor.active.filter (· ≠ e) := (congrArg (·.monitor.active) hleft).trans hactive
        refine ⟨?_, fun h => absurd h hpending, fun _ => ⟨hbactive, ?_, ?_⟩, fun hactive hmem hlength hphase hholder => ?_⟩
        · rw [hbentries]
          refine (Vector.getElem_set_self _).trans ?_
          show Alerts.inactive a₁.monitor.entries[e] = _
          rw [hself]
          rfl
        · rw [hleft]
          exact Chime.withdraw_requests e a.chime
        · rw [hleft]
          exact Alerts.withdrawBoth_disowned s e a₁
        · have hcount : activeCount a₁.monitor = activeCount a.monitor := activeCount_of_same_state rfl
          have hcount' : activeCount b.monitor = activeCount (a₁.monitor.withEntry e off) := by
            unfold activeCount
            rw [hbentries, hbactive]
            exact activeCount_of_left (m := a₁.monitor) hoff
          rw [hcount', ← hcount, hleft]
          refine ⟨?_, ?_, Alerts.leaveActive_handed hphase hholder hmem hlength
            (hstate.trans hactive) hoff⟩
          · exact congrArg Chime.holder (Chime.withdraw_of_holder (c := a.chime) hphase hholder)
          · exact congrArg Chime.phase (Chime.withdraw_of_holder (c := a.chime) hphase hholder)

end Sys2Proof.Machine
end

section
/-! Distance (R24 to R31, R39, R134, R161, R163): the commits that the tenths of a delta ask for, and what an accepted delta makes of
odometer, range basis, trips and speed window. -/

namespace Sys2Proof.Machine

/-! ## The commits of a delta -/

/-- A commit asked for stands in the queue, as urgent as it was asked for, or a record of a value of T above `lo` and up to `hi` has
just begun (R161, R163). -/
inductive Store.Commits (urgent : Bool) (lo hi : Nat) (st : Store) : Prop
  | queued {u again forRestart : Bool} (hq : .commit u again forRestart ∈ st.queue) (hu : urgent = true → u = true)
  | begun {q : StoreRequest} {w : List Word} {k : Nat} (hop : st.op = .record .odo q w 0 false k) (hlo : lo < k) (hhi : k ≤ hi)

namespace Store.Commits

variable {urgent : Bool} {lo hi lo' hi' : Nat} {st : Store} {x : State}

theorem mono (h : st.Commits urgent lo hi) (hlo : lo' ≤ lo) (hhi : hi ≤ hi') : st.Commits urgent lo' hi' := by
  cases h with
  | queued hq hu => exact .queued hq hu
  | begun hop h₁ h₂ => exact .begun hop (by omega) (by omega)

theorem joinCommit (h : st.Commits urgent lo hi) (urgent' forRestart : Bool) :
    (st.joinCommit urgent' forRestart).Commits urgent lo hi := by
  cases h with
  | begun hop h₁ h₂ =>
    have hsame : (st.joinCommit urgent' forRestart).op = st.op := by rw [Store.joinCommit_frame]
    exact .begun (hsame.trans hop) h₁ h₂
  | @queued u again f hq hu =>
    refine .queued (u := u || urgent') (again := again) (forRestart := f || forRestart) ?_ fun h => by simp [hu h]
    unfold Store.joinCommit
    rw [if_pos (List.any_eq_true.mpr ⟨_, hq, rfl⟩)]
    exact List.mem_map.mpr ⟨_, hq, rfl⟩

/-- A commit that stands when the store serves is queued still, or has begun with the present T. -/
theorem arrive (h : x.store.Commits urgent lo hi) (hlo : lo < x.integ.tenths) (hhi : hi ≤ x.integ.tenths) (target : BlockId) :
    (x.arrive target).store.Commits urgent lo x.integ.tenths := by
  obtain ⟨hframe, hop⟩ := Store.suspendFor_frame x.now target x.store
  have hserved := State.serve_served { x with store := x.store.suspendFor x.now target }
  cases h with
  | queued hq hu =>
    have hq' := (congrArg Store.queue hframe).symm ▸ hq
    obtain hstays | ⟨-, -, hbegun⟩ := hserved.commit hq'
    · exact .queued hstays hu
    · exact .begun hbegun hlo le_rfl
  | begun hrecord h₁ h₂ =>
    obtain hsame | ⟨-, job, since, herase⟩ := hop
    · have hkept := hsame.trans hrecord
      have hbusy := hserved.of_busy fun hidle => nomatch hkept.symm.trans hidle
      exact .begun ((congrArg (fun y : State => y.store.op) hbusy).trans hkept) h₁ (h₂.trans hhi)
    · exact nomatch hrecord.symm.trans herase

end Store.Commits

section

variable {s : State} {urgent : Bool}

theorem State.requestCommit_odo (s : State) (urgent : Bool) : (s.requestCommit urgent false).store.odo = s.store.odo := by
  unfold State.requestCommit
  split
  · rfl
  · have hserved := State.serve_served
      { s with store := (s.store.joinCommit urgent false).suspendFor s.now s.store.odo.current }
    refine hserved.memory.2.1.trans ?_
    rw [(Store.suspendFor_frame s.now s.store.odo.current (s.store.joinCommit urgent false)).1, Store.joinCommit_frame]

theorem State.requestCommit_commits (hodo : s.store.odo.failed = false) {lo : Nat} (hlo : lo < s.integ.tenths) :
    (s.requestCommit urgent false).store.Commits urgent lo s.integ.tenths := by
  unfold State.requestCommit
  rw [if_neg (by simp [hodo])]
  obtain ⟨u, again, f, hq, hu⟩ := s.store.joinCommit_has urgent false
  exact Store.Commits.arrive (x := { s with store := s.store.joinCommit urgent false }) (.queued hq hu) hlo le_rfl _

theorem State.requestCommit_keeps {urgent' : Bool} {lo hi : Nat} (h : s.store.Commits urgent lo hi) (hlo : lo < s.integ.tenths)
    (hhi : hi ≤ s.integ.tenths) : (s.requestCommit urgent' false).store.Commits urgent lo s.integ.tenths := by
  unfold State.requestCommit
  split
  · exact h.mono le_rfl hhi
  · exact Store.Commits.arrive (x := { s with store := s.store.joinCommit urgent' false }) (h.joinCommit urgent' false) hlo hhi _

/-! ## One tenth, and the tenths of a delta -/

/-- A tenth counted, before its commit (R26, R134). -/
def State.tenthCounted (s : State) : State :=
  State.withService { s with integ := { s.integ with
      tenths := s.integ.tenths + 1, remainder := s.integ.remainder - s.image.params.p } }
    { s.service with dist := min 16777215 (s.service.dist + 1) }

theorem State.tenth_eq (s : State) : s.tenth =
    if s.key.pins.supplyLow then s.tenthCounted.requestCommit true false
    else if (s.integ.tenths + 1) % 10 = 0 then s.tenthCounted.requestCommit false false else s.tenthCounted := by
  unfold State.tenth
  dsimp only
  rw [State.withService_key]
  rfl

theorem State.tenthCounted_store (s : State) : s.tenthCounted.store = s.store := State.withService_store _ _

theorem State.tenthCounted_tenths (s : State) : s.tenthCounted.integ.tenths = s.integ.tenths + 1 :=
  congrArg Integrator.tenths (State.withService_integ _ _)

theorem State.tenth_tenths (s : State) : s.tenth.integ.tenths = s.integ.tenths + 1 :=
  congrArg Integrator.tenths (State.tenth_integ s)

theorem State.tenth_key (s : State) : s.tenth.key = s.key := s.tenth_frame.2.2.2.2.2.1

theorem State.tenth_odo (s : State) : s.tenth.store.odo = s.store.odo := by
  rw [State.tenth_eq]
  split
  · rw [State.requestCommit_odo, State.tenthCounted_store]
  · split
    · rw [State.requestCommit_odo, State.tenthCounted_store]
    · rw [State.tenthCounted_store]

/-- A commit that stands, stands after a tenth. -/
theorem State.tenth_keeps {lo : Nat} (h : s.store.Commits urgent lo s.integ.tenths) (hlo : lo ≤ s.integ.tenths) :
    s.tenth.store.Commits urgent lo s.tenth.integ.tenths := by
  have hcounted : s.tenthCounted.store.Commits urgent lo s.integ.tenths := s.tenthCounted_store.symm ▸ h
  have hrequested (urgent' : Bool) :
      (s.tenthCounted.requestCommit urgent' false).store.Commits urgent lo (s.integ.tenths + 1) := by
    have hkept := State.requestCommit_keeps (urgent' := urgent') hcounted (by rw [State.tenthCounted_tenths]; omega)
      (by rw [State.tenthCounted_tenths]; omega)
    rwa [State.tenthCounted_tenths] at hkept
  rw [State.tenth_tenths, State.tenth_eq]
  split
  · exact hrequested true
  · split
    · exact hrequested false
    · exact hcounted.mono le_rfl (Nat.le_succ _)

theorem State.tenths_keeps (n : Nat) {s : State} {lo : Nat} (h : s.store.Commits urgent lo s.integ.tenths)
    (hlo : lo ≤ s.integ.tenths) : (State.tenths n s).store.Commits urgent lo (s.integ.tenths + n) := by
  induction n generalizing s with
  | zero => exact h
  | succ n ih =>
    have hkept := ih (State.tenth_keeps h hlo) (by rw [State.tenth_tenths]; omega)
    rw [State.tenth_tenths, Nat.add_right_comm] at hkept
    exact hkept

/-- With the supply low every tenth asks for an urgent commit (R163). -/
theorem State.tenths_commits_of_low {n : Nat} (hodo : s.store.odo.failed = false) (hlow : s.key.pins.supplyLow = true) (hn : n ≠ 0) :
    (State.tenths n s).store.Commits true s.integ.tenths (s.integ.tenths + n) := by
  cases n with
  | zero => exact absurd rfl hn
  | succ n =>
    have hrequested : s.tenth.store.Commits true s.integ.tenths s.tenth.integ.tenths := by
      rw [State.tenth_tenths, State.tenth_eq, if_pos hlow, ← State.tenthCounted_tenths]
      exact State.requestCommit_commits (s.tenthCounted_store.symm ▸ hodo) (by rw [State.tenthCounted_tenths]; omega)
    have hkept := State.tenths_keeps n hrequested (by rw [State.tenth_tenths]; omega)
    rw [State.tenth_tenths, Nat.add_right_comm] at hkept
    exact hkept

/-- Without low supply a crossing of a whole unit asks for a commit (R161), and no other tenth does. -/
theorem State.tenths_commits_of_crossing {n : Nat} (hodo : s.store.odo.failed = false) (hlow : s.key.pins.supplyLow = false)
    (hunits : (s.integ.tenths + n) / 10 ≠ s.integ.tenths / 10) :
    (State.tenths n s).store.Commits false s.integ.tenths (s.integ.tenths + n) := by
  induction n generalizing s with
  | zero => exact absurd rfl hunits
  | succ n ih =>
    by_cases hcrossing : (s.integ.tenths + 1) % 10 = 0
    · have hrequested : s.tenth.store.Commits false s.integ.tenths s.tenth.integ.tenths := by
        rw [State.tenth_tenths, State.tenth_eq, if_neg (by simp [hlow]), if_pos hcrossing, ← State.tenthCounted_tenths]
        exact State.requestCommit_commits (s.tenthCounted_store.symm ▸ hodo) (by rw [State.tenthCounted_tenths]; omega)
      have hkept := State.tenths_keeps n hrequested (by rw [State.tenth_tenths]; omega)
      rw [State.tenth_tenths, Nat.add_right_comm] at hkept
      exact hkept
    · have hlater := ih (s := s.tenth) (by rw [State.tenth_odo]; exact hodo) (by rw [State.tenth_key]; exact hlow)
        (by rw [State.tenth_tenths]; omega)
      rw [State.tenth_tenths, Nat.add_right_comm] at hlater
      exact hlater.mono (Nat.le_succ _) le_rfl

theorem State.tenths_store_of_quiet {n : Nat} (hlow : s.key.pins.supplyLow = false)
    (hunits : (s.integ.tenths + n) / 10 = s.integ.tenths / 10) : (State.tenths n s).store = s.store := by
  induction n generalizing s with
  | zero => rfl
  | succ n ih =>
    have htenth : s.tenth = s.tenthCounted := by
      rw [State.tenth_eq, if_neg (by simp [hlow]), if_neg (by omega)]
    have hlater := ih (s := s.tenth) (by rw [State.tenth_key]; exact hlow) (by rw [State.tenth_tenths]; omega)
    exact hlater.trans (htenth ▸ State.tenthCounted_store s)

end

/-! ## The odometer, the range basis and the trips -/

section

variable (s : State) (d : Nat)

/-- The tenths that a delta of d pulses makes (R26, R27). -/
def State.tenthsBy : Nat := s.integ.tenthsOf s.image.params.p (s.integ.remainder + d)

/-- The remainder after a delta, 0 at the limit (R26, R27). -/
def State.remainderBy : Nat :=
  if s.integ.tenths + s.tenthsBy d = 9999999 then 0 else (s.integ.remainder + d) % s.image.params.p

theorem State.addDistance_integ (hlimit : s.integ.tenths ≤ 9999999) : (s.addDistance d).integ =
    { s.integ with tenths := s.integ.tenths + s.tenthsBy d, remainder := s.remainderBy d } := by
  have hcounted : (State.tenths (s.tenthsBy d) { s with integ := { s.integ with remainder := s.integ.remainder + d } }).integ =
      { s.integ with
        tenths := s.integ.tenths + s.tenthsBy d
        remainder := s.integ.remainder + d - s.tenthsBy d * s.image.params.p } := State.tenths_integ _ _
  rw [State.addDistance_eq]
  dsimp only
  rw [show s.integ.tenthsOf s.image.params.p (s.integ.remainder + d) = s.tenthsBy d from rfl,
    show Config.odometerLimit = 9999999 from rfl]
  unfold State.remainderBy
  by_cases hfull : s.integ.tenths + s.tenthsBy d = 9999999
  · rw [if_pos hfull, if_pos hfull]
    show ({ (State.tenths (s.tenthsBy d) _).integ with remainder := 0 } : Integrator) = _
    rw [hcounted]
  · rw [if_neg hfull, if_neg hfull, hcounted]
    have hn : s.tenthsBy d = (s.integ.remainder + d) / s.image.params.p := by
      unfold State.tenthsBy Integrator.tenthsOf at hfull ⊢
      rw [show Config.odometerLimit = 9999999 from rfl] at hfull ⊢
      omega
    rw [hn, ← Nat.mod_eq_sub_div_mul]

theorem State.addDistance_service (hdist : s.service.dist ≤ 16777215) :
    (s.addDistance d).service = { s.service with dist := min 16777215 (s.service.dist + s.tenthsBy d) } := by
  rw [State.addDistance_eq]
  dsimp only
  rw [← State.tenths_service (s.tenthsBy d) { s with integ := { s.integ with remainder := s.integ.remainder + d } } hdist]
  split <;> rfl

theorem State.addDistance_store : (s.addDistance d).store =
    (State.tenths (s.tenthsBy d) { s with integ := { s.integ with remainder := s.integ.remainder + d } }).store := by
  rw [State.addDistance_eq]
  dsimp only
  split <;> rfl

theorem State.addDistance_frame : (s.addDistance d).trip = s.trip ∧ (s.addDistance d).faults = s.faults := by
  obtain ⟨-, -, -, -, htrip, hfaults, -⟩ :=
    State.tenths_frame (s.tenthsBy d) { s with integ := { s.integ with remainder := s.integ.remainder + d } }
  rw [State.addDistance_eq]
  dsimp only
  split <;> exact ⟨htrip, hfaults⟩

/-- The range basis after n crossings (R38, R39). -/
def State.basisBy (n : Nat) : Nat :=
  if s.integ.mark then rangeBaseStep s.image.params.cMin s.image.params.cMax s.integ.rangeBase s.integ.quanta n
  else s.integ.rangeBase

/-- The range basis after n crossings, with the fuel since the last one and the interval mark begun afresh (R38, R39). -/
def State.crossed (n : Nat) : State :=
  { s with integ := { s.integ with rangeBase := s.basisBy n, quanta := 0, mark := s.slots[(5 : SlotId)].usable } }

theorem State.updateBasis_of_no_unit {before : Nat} (h : s.integ.tenths / 10 - before / 10 = 0) : s.updateBasis before = s :=
  if_pos h

theorem State.updateBasis_of_units {before : Nat} (h : s.integ.tenths / 10 - before / 10 ≠ 0) :
    let y := s.crossed (s.integ.tenths / 10 - before / 10)
    s.updateBasis before = y ∨ s.updateBasis before = y.refreshRange := by
  intro y
  have hsteps : s.updateBasis before =
      if s.basisBy (s.integ.tenths / 10 - before / 10) = s.integ.rangeBase then y else y.refreshRange := if_neg h
  rw [hsteps]
  split
  · exact .inl rfl
  · exact .inr rfl

theorem State.updateBasis_integ (before : Nat) : (s.updateBasis before).integ =
    if s.integ.tenths / 10 - before / 10 = 0 then s.integ else (s.crossed (s.integ.tenths / 10 - before / 10)).integ := by
  by_cases h : s.integ.tenths / 10 - before / 10 = 0
  · rw [State.updateBasis_of_no_unit s h, if_pos h]
  · rw [if_neg h]
    obtain hsame | hrange := State.updateBasis_of_units s h
    · rw [hsame]
    · rw [hrange, State.refreshRange_integ]

theorem State.updateBasis_frame (before : Nat) :
    (s.updateBasis before).trip = { s.trip with range := (s.updateBasis before).trip.range } ∧
    (s.updateBasis before).service = s.service ∧ (s.updateBasis before).faults = s.faults ∧
    (s.updateBasis before).store = s.store := by
  by_cases h : s.integ.tenths / 10 - before / 10 = 0
  · rw [State.updateBasis_of_no_unit s h]
    exact ⟨rfl, rfl, rfl, rfl⟩
  · obtain hsame | hrange := State.updateBasis_of_units s h
    · rw [hsame]
      exact ⟨rfl, rfl, rfl, rfl⟩
    · rw [hrange]
      exact ⟨State.refreshRange_trip _, State.refreshRange_service _, State.refreshRange_faults _, State.refreshRange_store _⟩

theorem State.enterWindow_frame (dt : Nat) : let y := s.enterWindow d dt
    y.integ = { s.integ with
      window := windowWith s.integ.window d dt
      speed := speedOf s.image.params.p (windowWith s.integ.window d dt) s.integ.speed } ∧
    y.trip = s.trip ∧ y.service = s.service ∧ y.faults = s.faults ∧ y.store = s.store :=
  ⟨State.setSpeed_integ _ _, State.setSpeed_trip _ _, State.setSpeed_service _ _, State.setSpeed_faults _ _, State.setSpeed_store _ _⟩

/-- The odometer, the range basis and the trips with an accepted delta (R26, R39, R67). -/
def State.travelled : State :=
  let y := (s.addDistance d).updateBasis s.integ.tenths
  { y with trip := { y.trip with a := y.trip.a.withDist d, b := y.trip.b.withDist d } }.reportTrip

/-- The crossings of a whole unit that a delta makes (R161). -/
def State.unitsBy : Nat := (s.integ.tenths + s.tenthsBy d) / 10 - s.integ.tenths / 10

theorem State.travelled_integ (hlimit : s.integ.tenths ≤ 9999999) : (s.travelled d).integ =
    if s.unitsBy d = 0 then { s.integ with tenths := s.integ.tenths + s.tenthsBy d, remainder := s.remainderBy d }
    else { s.integ with
      tenths := s.integ.tenths + s.tenthsBy d, remainder := s.remainderBy d
      rangeBase := s.basisBy (s.unitsBy d)
      quanta := 0
      mark := s.slots[(5 : SlotId)].usable } := by
  have hsame := State.SameSlots.addDistance s d
  refine (State.updateBasis_integ (s.addDistance d) s.integ.tenths).trans ?_
  unfold State.crossed State.basisBy
  rw [hsame.image, hsame.slots, State.addDistance_integ s d hlimit]
  rfl

theorem State.travelled_frame : (s.travelled d).trip.a = s.trip.a.withDist d ∧ (s.travelled d).trip.b = s.trip.b.withDist d ∧
    (s.travelled d).service = (s.addDistance d).service ∧ (s.travelled d).faults = s.faults ∧
    (s.travelled d).store = (s.addDistance d).store := by
  obtain ⟨htrip, hservice, hfaults, hstore⟩ := State.updateBasis_frame (s.addDistance d) s.integ.tenths
  obtain ⟨htrip', hfaults'⟩ := State.addDistance_frame s d
  rw [htrip'] at htrip
  have ha := congrArg (fun x : Trip => x.a.withDist d) htrip
  have hb := congrArg (fun x : Trip => x.b.withDist d) htrip
  exact ⟨ha, hb, hservice, hfaults.trans hfaults', hstore⟩

/-- What the odometer's part of a delta leaves of the integrator: the speed window, the fuel volume and the fuel timer. -/
theorem State.travelled_kept (hlimit : s.integ.tenths ≤ 9999999) :
    (s.travelled d).integ.window = s.integ.window ∧ (s.travelled d).integ.speed = s.integ.speed ∧
    (s.travelled d).integ.volume = s.integ.volume ∧ (s.travelled d).integ.armed = s.integ.armed ∧
    (s.travelled d).integ.fuelTimer = s.integ.fuelTimer ∧ (s.travelled d).image = s.image := by
  have himage : (s.travelled d).image = s.image :=
    ((State.SameSlots.addDistance s d).trans (State.SameSlots.updateBasis _ _)).image
  rw [State.travelled_integ s d hlimit]
  split <;> exact ⟨rfl, rfl, rfl, rfl, rfl, himage⟩

theorem State.takeDistance_of_accepted {dt : Nat} (h : d ≤ distanceLimit s.image.params.vmax s.image.params.p dt) :
    s.takeDistance d dt = State.enterWindow (if s.primary then s.travelled d else s) d dt := if_pos h

theorem State.takeDistance_of_refused {dt : Nat} (h : ¬ d ≤ distanceLimit s.image.params.vmax s.image.params.p dt) :
    s.takeDistance d dt = s.clearMark.reportFault .implausible := if_neg h

end

/-! ## The speed window -/

/-- The window with a delta, written by its newest pair (R30). -/
theorem windowWith_eq (w : List SpeedPair) (d dt : Nat) : windowWith w d dt =
    if dt ≠ 0 then (if w.length < 4 then w else w.drop 1) ++ [⟨d, dt⟩]
    else match w.reverse with
      | [] => [⟨d, 0⟩]
      | newest :: older => older.reverse ++ [⟨newest.pulses + d, newest.millis⟩] := by
  unfold windowWith
  by_cases hdt : dt = 0
  · rw [if_pos hdt, if_neg (not_not_intro hdt)]
    rcases hw : w.reverse with _ | ⟨newest, older⟩
    · rw [List.reverse_eq_nil_iff.mp hw]
      rfl
    · have hw : w = older.reverse ++ [newest] := by rw [← List.reverse_reverse w, hw, List.reverse_cons]
      subst hw
      simp
  · rw [if_neg hdt, if_pos hdt]

/-- The speed of a window that holds time: the pulses by the time, rounded down, and at most 3,000 (R31). -/
theorem speedOf_of_time {p : Nat} {w : List SpeedPair} (before : Option Nat) (hp : 0 < p) (h : (w.map (·.millis)).sum ≠ 0) :
    ∃ speed : Nat, speedOf p w before = some (min speed 3000) ∧
      speed * (p * (w.map (·.millis)).sum) ≤ (w.map (·.pulses)).sum * 3600000 ∧
      (w.map (·.pulses)).sum * 3600000 < (speed + 1) * (p * (w.map (·.millis)).sum) := by
  have hpos : 0 < p * (w.map (·.millis)).sum := Nat.mul_pos hp (Nat.pos_of_ne_zero h)
  refine ⟨(w.map (·.pulses)).sum * 3600000 / (p * (w.map (·.millis)).sum), if_neg h, Nat.div_mul_le_self _ _, ?_⟩
  rw [Nat.mul_comm (_ + 1)]
  exact Nat.lt_mul_div_succ _ hpos

theorem speedOf_of_no_time {p : Nat} {w : List SpeedPair} (before : Option Nat) (h : (w.map (·.millis)).sum = 0) :
    speedOf p w before = before := if_pos h

end Sys2Proof.Machine
end

section
/-! The consumers of a PUBLISH that feeds one slot: odometer, fuel, days and presses (O21). -/

namespace Sys2Proof.Machine

/-! ## A telegram of one feed -/

/-- The part once it has accepted a telegram and the Signal Table has taken it. -/
def State.taking (s : State) (t : Stamp) (l : Line) (h : Hold) (quiet : Timer) (slots : Vector Slot 19) : State :=
  { s with now := t, slots := slots, line := l, hold := h, key := { s.key with quiet := quiet } }

/-- What follows the consumers: the report to the warnings, the display settled, and the presses (R4, R19). -/
def State.afterConsumers (w : State) (a : Arrival) : State :=
  ((w.reportSources (if a.reported then [.slot a.slot] else [])).settleDisplay).takePresses a.presses

theorem State.takePublish_of_one {y : State} {m : Publish} {e : Subscription} {v : Nat}
    (hfeeds : feeds y.image.subs m = [(e, v)]) :
    let a := y.slots[e.slot].handsOn e.slot e v y.now
    y.takePublish m =
      (State.consume (rangeValue y) { y with slots := applyFeed y.now y.slots (e, v) } a).afterConsumers a := by
  intro a
  have hreports : ([a].filter (·.reported)).map (fun x => Source.slot x.slot) = if a.reported then [.slot a.slot] else [] := by
    cases h : a.reported <;> simp [h]
  unfold State.takePublish
  rw [hfeeds]
  unfold State.afterConsumers
  rw [← hreports]
  rfl

section

variable {t : Stamp} {m : Publish} {s : State} {e : Subscription} {v : Nat}

theorem exec_publishReceived_of_one (hfits : m.fits = true) (hreceives : s.receives = true) (hstarted : s.key.started = true)
    (horigin : m.origin ≠ s.key.station) (hfeeds : feeds s.image.subs m = [(e, v)]) :
    ∃ l h quiet before, exec (.publishReceived t m) s = .next (State.close (s.stamped t)
      (((s.taking t l h quiet (applyFeed t s.slots (e, v))).consume before (s.slots[e.slot].handsOn e.slot e v t)).afterConsumers
        (s.slots[e.slot].handsOn e.slot e v t))) := by
  have htaken := State.hearPublish_of_taken (s := s.stamped t) hreceives hstarted horigin
  rw [State.accept_of_other false (s := s.stamped t) horigin, State.takePublish_of_one (by exact hfeeds)] at htaken
  exact ⟨_, _, _, _, (exec_publishReceived hfits t s).trans (congrArg (fun x => Host.Outcome.next (State.close (s.stamped t) x)) htaken)⟩

end

/-- Two states with the same odometer and speed, counters, trips, fault record and store. -/
structure State.SameFigures (w x : State) : Prop where
  integ : x.integ = w.integ
  service : x.service = w.service
  trip : x.trip = w.trip
  faults : x.faults = w.faults
  store : x.store = w.store

/-- Without presses nothing after the consumers moves a figure. -/
theorem State.afterConsumers_figures {a : Arrival} (h : a.presses = []) (b w : State) :
    w.SameFigures (State.close b (w.afterConsumers a)) := by
  unfold State.afterConsumers
  rw [h]
  exact ⟨State.close_integ _ _, State.close_service _ _, State.close_trip _ _, State.close_faults _ _, State.close_store _ _⟩

/-! ## What one arrival hands on -/

section

variable {i : SlotId} {e : Subscription} {v : Nat} {now : Stamp} {sl : Slot}

theorem Slot.continues_of_usable (h : sl.usable = true) : sl.continues = true := by
  unfold Slot.usable at h
  unfold Slot.continues
  rw [h, Bool.true_or]

theorem Slot.handsOn_presses_of_other (h : slotKind i ≠ .presses) : (sl.handsOn i e v now).presses = [] :=
  if_neg (by simp [h])

theorem Slot.handsOn_delta (h : slotKind i = .count) (hmeasured : sl.continues = true ∨ sl.keptBase i = true) :
    (sl.handsOn i e v now).delta = some (rollingDelta (countModulus i) sl.base v) :=
  if_pos (by simp [h, hmeasured])

theorem Slot.handsOn_kept_of_usable (h : sl.usable = true) : (sl.handsOn i e v now).kept = false := by
  unfold Slot.usable at h
  show sl.keptBase i = false
  unfold Slot.keptBase
  cases hstate : sl.state <;> simp [hstate] at h ⊢

theorem Slot.handsOn_presses (h : slotKind i = .presses) (hcontinues : sl.continues = true) :
    (sl.handsOn i e v now).presses = pressDeltas sl.base v := if_pos (by simp [h, hcontinues])

/-- A slot that was usable is FRESH after an arrival with a reading (R11). -/
theorem Slot.afterArrival_fresh (h : noReading i e v = false) (husable : sl.usable = true) :
    (sl.afterArrival i e v now).state = .fresh := by
  rw [Slot.afterArrival_of_reading h]
  exact if_pos (Slot.continues_of_usable husable)

end

/-! ## The consumers by slot -/

section

variable (before : Option Nat) (s : State) (x : Arrival)

theorem State.consume_distance {d : Nat} (h : x.slot = 4) (hd : x.delta = some d) :
    s.consume before x = s.takeDistance d x.dt := by
  unfold State.consume
  rw [h, hd]
  rfl

theorem State.consume_fuel {f : Nat} (h : x.slot = 5) (hf : x.delta = some f) : s.consume before x = s.takeFuel f x.dt := by
  unfold State.consume
  rw [h, hf]
  rfl

theorem State.consume_tank (h : x.slot = 6) : s.consume before x = s.tankArrived := by
  unfold State.consume
  rw [h]
  rfl

theorem State.consume_days {d : Nat} (h : x.slot = 13) (hd : x.delta = some d) :
    s.consume before x = ((s.countDays d x.kept).markDay d x.kept).judgeJourney := by
  unfold State.consume
  rw [h, hd]
  rfl

theorem State.consume_buttons (h : x.slot = 12) : s.consume before x = s := by
  unfold State.consume
  rw [h]
  rfl

end

/-! ## Fuel -/

section

variable {s : State} {f dt : Nat}

theorem State.takeFuel_of_refused (h : ¬ f ≤ fuelLimit s.image.params.fmax dt) :
    s.takeFuel f dt = s.clearMark.reportFault .implausible := if_neg h

theorem State.takeFuel_of_mirror (h : f ≤ fuelLimit s.image.params.fmax dt) (hmirror : s.primary = false) :
    s.takeFuel f dt = s := (if_pos h).trans (if_neg (by simp [hmirror]))

/-- The trips and the fuel since the last unit with an accepted fuel delta (R29, R39, R67). -/
def State.fuelled (s : State) (f : Nat) : State :=
  { s with trip := { s.trip with a := s.trip.a.withFuel f, b := s.trip.b.withFuel f }
           integ := { s.integ with quanta := min 65535 (s.integ.quanta + f) } }

theorem State.takeFuel_of_primary (h : f ≤ fuelLimit s.image.params.fmax dt) (hprimary : s.primary = true) :
    s.takeFuel f dt = (s.fuelled f).reportTrip := (if_pos h).trans (if_pos hprimary)

end

/-! ## The tank -/

/-- Refill detection takes the reading of a FRESH slot where it is armed and the key is on (R36). -/
theorem State.tankArrived_integ {s : State} (hfresh : s.slots[(6 : SlotId)].state = .fresh) : s.tankArrived.integ =
    if s.integ.armed = true ∧ s.keyOn = true then
      { s.integ with
        armed := false
        volume := some (refilled s.integ.volume (senderVolume s.image.params.tank s.slots[(6 : SlotId)].value)
          s.image.params.refill) }
    else s.integ := by
  have hfresh' : decide ((s.slots[6]).state = Freshness.fresh) = true := decide_eq_true hfresh
  unfold State.tankArrived
  dsimp only
  rw [hfresh', Bool.and_true]
  by_cases h : s.integ.armed = true ∧ s.keyOn = true
  · rw [if_pos (Bool.and_eq_true_iff.mpr h), if_pos h, State.setVolume_integ]
    rfl
  · rw [if_neg (fun h' => h (Bool.and_eq_true_iff.mp h')), if_neg h]

/-! ## Days -/

section

variable {s : State} {d : Nat} {kept : Bool}

/-- A primary part counts the days of a plausible delta and reports another (R135). -/
theorem State.countDays_facts (hprimary : s.primary = true) :
    (s.countDays d kept).service =
      (if d ≤ (if kept then 255 else 7) then { s.service with days := min 65535 (s.service.days + d) } else s.service) ∧
    (s.countDays d kept).faults = (if d ≤ (if kept then 255 else 7) then s.faults else s.faults.after .implausible) ∧
    (s.countDays d kept).trip = s.trip ∧ (s.countDays d kept).SameSlots s := by
  have hsame : (s.countDays d kept).SameSlots s := by
    have h := State.SameSlots.countDays s d kept
    exact ⟨h.now.symm, h.image.symm, h.slots.symm, h.key.symm⟩
  refine ⟨?_, ?_, ?_, hsame⟩ <;>
  · unfold State.countDays
    rw [if_pos hprimary]
    by_cases h : d ≤ (if kept then 255 else 7)
    · simp only [if_pos h]
      simp
    · simp only [if_neg h]
      simp

theorem State.countDays_of_mirror (h : s.primary = false) : s.countDays d kept = s := if_neg (by simp [h])

/-- The day mark after a delta (R74). -/
theorem State.markDay_eq : s.markDay d kept = { s with trip := { s.trip with
    dayMark := s.trip.dayMark || (s.primary && s.image.params.tripBAuto && decide (d ≠ 0) && (kept || decide (d ≤ 7))) } } := by
  unfold State.markDay
  split
  next h => rw [h, Bool.or_true]
  next h => rw [Bool.eq_false_iff.mpr h, Bool.or_false]

theorem State.markDay_of_mirror (h : s.primary = false) : s.markDay d kept = s := if_neg (by simp [h])

/-- The journey judged at a FRESH day count: the window closes and trip B is zeroed where the day mark is set (R75). -/
theorem State.judgeJourney_facts (hfresh : s.slots[(13 : SlotId)].state = .fresh) :
    s.judgeJourney.trip = (if s.trip.window = none then s.trip
      else { s.trip with window := none, dayMark := false, b := if s.trip.dayMark then .zero else s.trip.b }) ∧
    s.judgeJourney.service = s.service ∧ s.judgeJourney.faults = s.faults := by
  have hfresh' : decide ((s.slots[13]).state = Freshness.fresh) = true := decide_eq_true hfresh
  unfold State.judgeJourney
  rw [hfresh', Bool.and_true]
  cases hwindow : s.trip.window with
  | none => simp
  | some w => cases hmark : s.trip.dayMark <;> simp

theorem State.judgeJourney_of_closed (h : s.trip.window = none ∨ s.slots[(13 : SlotId)].state ≠ .fresh) : s.judgeJourney = s := by
  refine if_neg fun hopen => ?_
  obtain ⟨hwindow, hfresh⟩ := Bool.and_eq_true_iff.mp hopen
  obtain hclosed | hstale := h
  · rw [hclosed] at hwindow
    exact nomatch hwindow
  · exact hstale (of_decide_eq_true hfresh)

end

end Sys2Proof.Machine
end

section
/-! Presses (R19, R72, R73, R94) and the consumers of a PUBLISH in both roles (O21). -/

namespace Sys2Proof.Machine

/-! ## Pages -/

/-- What page presses leave: all but the page and the drawn line. -/
structure State.Paged (s x : State) : Prop where
  same : s.SameSlots x
  trip : x.trip = { s.trip with page := x.trip.page }
  monitor : x.monitor = s.monitor
  chime : x.chime = s.chime
  mode : x.display.mode = s.display.mode
  queue : x.display.queue = s.display.queue

namespace State.Paged

variable {s x y : State}

theorem refl (s : State) : Paged s s := ⟨.refl s, rfl, rfl, rfl, rfl, rfl⟩

theorem trans (hx : Paged s x) (hy : Paged x y) : Paged s y where
  same := hx.same.trans hy.same
  trip := by rw [hy.trip, hx.trip]
  monitor := hy.monitor.trans hx.monitor
  chime := hy.chime.trans hx.chime
  mode := hy.mode.trans hx.mode
  queue := hy.queue.trans hx.queue

end State.Paged

section

variable {s : State}

theorem Display.draw_mode (v : DisplayView) (d : Display) : (d.draw v).mode = d.mode := by
  unfold draw
  split <;> rfl

/-- One page press (R72). -/
theorem State.pagePress_paged (s : State) : s.Paged s.pagePress := by
  unfold State.pagePress
  dsimp only
  split
  · exact ⟨⟨rfl, rfl, rfl, rfl⟩, rfl, rfl, rfl, Display.draw_mode _ _, Display.draw_queue _ _⟩
  · exact .refl s

theorem State.pagePress_page (s : State) : s.pagePress.trip.page =
    if s.keyOn then (s.trip.page + 1) % max 1 s.image.params.pages.length else s.trip.page := by
  unfold State.pagePress
  dsimp only
  by_cases hkey : s.keyOn = true
  · rw [hkey, Bool.true_and, if_pos rfl]
    split
    · rfl
    next hsame => exact (by simpa using hsame : _ = _).symm
  · rw [Bool.not_eq_true] at hkey
    rw [hkey]
    rfl

/-- The page presses of one arrival (R72). -/
theorem State.pagePresses (n : Nat) {s : State} (hpage : s.trip.page < max 1 s.image.params.pages.length) :
    s.Paged (State.pagePress^[n] s) ∧ (State.pagePress^[n] s).trip.page =
      if s.keyOn then (s.trip.page + n) % max 1 s.image.params.pages.length else s.trip.page := by
  induction n generalizing s with
  | zero =>
    refine ⟨.refl s, ?_⟩
    rw [Nat.add_zero, Nat.mod_eq_of_lt hpage]
    exact (ite_self _).symm
  | succ n ih =>
    have hpaged := s.pagePress_paged
    have hkey : s.pagePress.keyOn = s.keyOn := by unfold State.keyOn; rw [hpaged.same.key]
    have hturned : s.pagePress.trip.page < max 1 s.pagePress.image.params.pages.length := by
      rw [State.pagePress_page, hpaged.same.image]
      split
      · exact Nat.mod_lt _ (by omega)
      · exact hpage
    obtain ⟨hrest, hlast⟩ := ih hturned
    refine ⟨hpaged.trans hrest, hlast.trans ?_⟩
    rw [hkey, hpaged.same.image, State.pagePress_page]
    by_cases hon : s.keyOn = true
    · rw [if_pos hon, if_pos hon, if_pos hon, Nat.mod_add_mod, Nat.add_assoc, Nat.add_comm 1 n]
    · rw [if_neg hon, if_neg hon, if_neg hon]

/-! ## Resets -/

/-- The trip that a reset press zeroes (R73). -/
def State.resets (s : State) : Option TripName :=
  if s.primary && s.keyOn && s.display.mode = .page then (currentPage s).trip else none

/-- The trips with zero for the one that reset presses name. -/
def State.withReset (s : State) : State :=
  { s with trip := { s.trip with
      a := if s.resets = some .a then .zero else s.trip.a
      b := if s.resets = some .b then .zero else s.trip.b } }

/-- A reset press zeroes the trip of the page shown (R73). -/
theorem State.resetPress_eq (s : State) : s.resetPress = { s.withReset with handed := s.resetPress.handed } := by
  unfold State.resetPress State.withReset State.resets
  split
  · cases (currentPage s).trip with
    | none => rfl
    | some name => cases name <;> rfl
  · rfl

theorem State.resetPress_resets (s : State) : s.resetPress.resets = s.resets := by
  rw [State.resetPress_eq]
  rfl

/-- The reset presses of one arrival: any number of them is one (R73). -/
theorem State.resetPresses (n : Nat) (s : State) : State.resetPress^[n] s =
    { (if n = 0 then s else s.withReset) with handed := (State.resetPress^[n] s).handed } := by
  induction n generalizing s with
  | zero => rfl
  | succ n ih =>
    rw [Function.iterate_succ_apply, ih, if_neg (Nat.succ_ne_zero n)]
    generalize (State.resetPress^[n] s.resetPress).handed = handed
    split
    · rw [State.resetPress_eq]
    · have hagain : s.resetPress.withReset.trip = s.withReset.trip := by
        unfold State.withReset
        rw [State.resetPress_resets, State.resetPress_eq]
        unfold State.withReset
        dsimp only
        split <;> split <;> rfl
      show ({ s.resetPress with trip := s.resetPress.withReset.trip, handed := handed } : State) = _
      rw [hagain]
      exact congrArg (fun y : State => { y with trip := s.withReset.trip, handed := handed }) s.resetPress_eq

end

theorem State.resetPresses_facts (n : Nat) (s : State) : let u := State.resetPress^[n] s
    s.SameSlots u ∧ u.monitor = s.monitor ∧ u.chime = s.chime ∧ u.display = s.display ∧
      u.trip = if n = 0 then s.trip else s.withReset.trip := by
  intro u
  rw [show u = _ from State.resetPresses n s]
  split <;> exact ⟨⟨rfl, rfl, rfl, rfl⟩, rfl, rfl, rfl, rfl⟩

/-! ## Acknowledgement -/

theorem State.ackPresses_frame (n : Nat) (s : State) :
    (State.ackPress^[n] s).trip = s.trip ∧ (State.ackPress^[n] s).image = s.image := by
  induction n generalizing s with
  | zero => exact ⟨rfl, rfl⟩
  | succ n ih => exact ih s.ackPress

/-- A press acknowledges the holder of the chime where it may (R94). -/
theorem ackPress_of_holder {s : State} {a : Alerts} {h : EntryId} (hholder : a.chime.holder = some h)
    (hackable : s.image.warnings[h].ackable = true) :
    let b := (a.acknowledge s h).settleChime s
    Machine.ackPress s a = { b with display := b.display.settle s.displayView } := by
  have hfilter : a.chime.holder.filter (fun e => s.image.warnings[e].ackable) = some h := by
    rw [hholder]
    exact if_pos hackable
  intro b
  unfold Machine.ackPress
  rw [hfilter]

/-- What the acknowledgement of the holder moves (R93, R94). -/
theorem State.ackPress_facts {s : State} {h : EntryId} (hholder : s.chime.holder = some h)
    (hackable : s.image.warnings[h].ackable = true) :
    s.ackPress.monitor = s.monitor.withEntry h { s.monitor.entries[h] with
      state := .acknowledged
      remind := if s.image.warnings[h].remind = 0 then none else startTimer s.now (60000 * s.image.warnings[h].remind) } ∧
    s.ackPress.chime.requests = s.chime.requests.set h none ∧
    (s.image.warnings[h].message ≠ 0 → Message.Disowned (.warning h) s.image.warnings[h].message s.ackPress.display.queue) := by
  have hpress := ackPress_of_holder (a := s.alerts) hholder hackable
  dsimp only at hpress
  have heq : s.ackPress = s.withAlerts _ := congrArg s.withAlerts hpress
  rw [heq]
  refine ⟨rfl, ?_, fun hmessage => ?_⟩
  · refine (Chime.settle_requests _ _ _).trans (Chime.withdraw_requests h s.chime)
  · have hwithdrawn : (s.alerts.withdrawBoth s h).display =
        s.display.withdraw s.displayView s.image.warnings[h].message (.warning h) := if_neg hmessage
    refine Message.Disowned.started (now := s.now) (Message.Disowned.withdraw s.displayView s.image.warnings[h].message (.warning h) s.display) ?_
    rw [← hwithdrawn]
    exact Display.settle_started _ _

/-! ## The consumers by slot, in the state that follows the event -/

/-- A report that no warning reads moves the alerts by the arbiter's decision alone, and that not where no request waits. -/
theorem State.reportSources_of_unread {s : State} {srcs : List Source} (hunread : readers s srcs = [])
    (hidle : s.chime.phase = .idle → ∀ w : EntryId, s.chime.requests[w] = none) :
    (s.reportSources srcs).monitor = s.monitor ∧ (s.reportSources srcs).chime = s.chime ∧
      (s.reportSources srcs).display = s.display := by
  have hchime : s.chime.settle s.now s.image.params.preempt = s.chime := by
    by_cases h : s.chime.phase = .idle
    · exact Chime.settle_of_no_request _ _ (hidle h)
    · exact if_neg fun hsettles => h hsettles.1
  unfold State.reportSources
  rw [hunread]
  exact ⟨rfl, hchime, rfl⟩

/-- A delta over its limit is no distance and no fuel: the interval mark goes and the delta is reported (R24, R29). -/
theorem State.implausible_facts (z : State) :
    let y := z.clearMark.reportFault .implausible
    y.integ = { z.integ with mark := false } ∧ y.service = z.service ∧ y.trip = z.trip ∧ y.store = z.store ∧
      y.faults = z.faults.after .implausible :=
  ⟨State.reportFault_integ _ _, State.reportFault_service _ _, State.reportFault_trip _ _, State.reportFault_store _ _,
    State.reportFault_faults _ _⟩

theorem distanceLimit_eq (vmax p dt : Nat) : distanceLimit vmax p dt = (vmax * 10 * p * dt + 3599999) / 3600000 + 2 := by
  unfold distanceLimit ceilDiv
  rw [Nat.add_sub_assoc (by decide)]

theorem fuelLimit_eq (fmax dt : Nat) : fuelLimit fmax dt = (fmax * dt + 999) / 1000 + 2 := by
  unfold fuelLimit ceilDiv
  rw [Nat.add_sub_assoc (by decide)]

theorem Slot.handsOn_of_slot {e : Subscription} {v : Nat} {t : Stamp} {i : SlotId} (s : State) (he : e.slot = i) :
    s.slots[e.slot].handsOn e.slot e v t = s.slots[i].handsOn i e v t := by
  subst he
  rfl

/-! ## An accepted distance -/

section

variable (z : State) {d dt : Nat} (haccepted : d ≤ distanceLimit z.image.params.vmax z.image.params.p dt)
include haccepted

/-- The speed window and the speed with an accepted delta, in both roles (R30, R31). -/
theorem State.takeDistance_window (hlimit : z.integ.tenths ≤ 9999999) : let w := z.takeDistance d dt
    w.integ.window = windowWith z.integ.window d dt ∧
    w.integ.speed = speedOf z.image.params.p (windowWith z.integ.window d dt) z.integ.speed ∧
    w.integ.volume = z.integ.volume ∧ w.integ.armed = z.integ.armed ∧ w.integ.fuelTimer = z.integ.fuelTimer ∧
    w.faults = z.faults := by
  let y : State := if z.primary then z.travelled d else z
  obtain ⟨hwindow, hspeed, hvolume, harmed, htimer, himage, hfaults⟩ : y.integ.window = z.integ.window ∧
      y.integ.speed = z.integ.speed ∧ y.integ.volume = z.integ.volume ∧ y.integ.armed = z.integ.armed ∧
      y.integ.fuelTimer = z.integ.fuelTimer ∧ y.image = z.image ∧ y.faults = z.faults := by
    obtain ⟨h₁, h₂, h₃, h₄, h₅, h₆⟩ := z.travelled_kept d hlimit
    obtain ⟨-, -, -, h₇, -⟩ := z.travelled_frame d
    unfold y
    split
    · exact ⟨h₁, h₂, h₃, h₄, h₅, h₆, h₇⟩
    · exact ⟨rfl, rfl, rfl, rfl, rfl, rfl, rfl⟩
  obtain ⟨hinteg, -, -, hyfaults, -⟩ := y.enterWindow_frame d dt
  intro w
  rw [show w = y.enterWindow d dt from State.takeDistance_of_accepted z d haccepted, hinteg, hyfaults, ← hwindow, ← hspeed,
    ← himage]
  exact ⟨rfl, rfl, hvolume, harmed, htimer, hfaults⟩

/-- In MIRROR role an accepted delta moves window and speed alone (R23). -/
theorem State.takeDistance_of_mirror (hmirror : z.primary = false) : let w := z.takeDistance d dt
    w.integ = { z.integ with window := w.integ.window, speed := w.integ.speed } ∧ w.service = z.service ∧ w.trip = z.trip ∧
      w.store = z.store := by
  intro w
  obtain ⟨hinteg, htrip, hservice, -, hstore⟩ := z.enterWindow_frame d dt
  have hw : w = z.enterWindow d dt :=
    (State.takeDistance_of_accepted z d haccepted).trans (by rw [if_neg (by simp [hmirror])])
  rw [hw]
  exact ⟨by rw [hinteg], hservice, htrip, hstore⟩

/-- In PRIMARY role it moves odometer, range basis, trips, service distance and store besides (R26, R39, R67, R134). -/
theorem State.takeDistance_of_primary (hprimary : z.primary = true) (hdist : z.service.dist ≤ 16777215) :
    let w := z.takeDistance d dt
    w.integ = { (z.travelled d).integ with window := w.integ.window, speed := w.integ.speed } ∧
    w.service = { z.service with dist := min 16777215 (z.service.dist + z.tenthsBy d) } ∧
    w.trip.a = z.trip.a.withDist d ∧ w.trip.b = z.trip.b.withDist d ∧
    w.store = (State.tenths (z.tenthsBy d) { z with integ := { z.integ with remainder := z.integ.remainder + d } }).store := by
  intro w
  obtain ⟨hinteg, htrip, hservice, -, hstore⟩ := (z.travelled d).enterWindow_frame d dt
  obtain ⟨ha, hb, hs, -, hst⟩ := z.travelled_frame d
  have hw : w = (z.travelled d).enterWindow d dt :=
    (State.takeDistance_of_accepted z d haccepted).trans (by rw [if_pos hprimary])
  rw [hw, htrip, hservice, hs, hstore, hst, State.addDistance_service z d hdist, State.addDistance_store]
  exact ⟨by rw [hinteg], rfl, ha, hb, rfl⟩

end

/-! ## The days of an arrival -/

section

variable {z : State} {d : Nat}

/-- A day count that goes on: up to 7 days are counted and mark the day, and the journey is judged (R74, R75, R135). -/
theorem State.dayCount_judged (hprimary : z.primary = true) (hfresh : z.slots[(13 : SlotId)].state = .fresh) :
    let w := ((z.countDays d false).markDay d false).judgeJourney
    let marked := z.trip.dayMark || (z.image.params.tripBAuto && decide (1 ≤ d ∧ d ≤ 7))
    w.service = (if d ≤ 7 then { z.service with days := min 65535 (z.service.days + d) } else z.service) ∧
    w.faults = (if d ≤ 7 then z.faults else z.faults.after .implausible) ∧
    w.trip = (if z.trip.window = none then { z.trip with dayMark := marked }
      else { z.trip with window := none, dayMark := false, b := if marked then .zero else z.trip.b }) := by
  intro w marked
  obtain ⟨hservice, hfaults, htrip, hsame⟩ := State.countDays_facts (d := d) (kept := false) hprimary
  have hjudged : (z.image.params.tripBAuto && decide (d ≠ 0) && (false || decide (d ≤ 7))) =
      (z.image.params.tripBAuto && decide (1 ≤ d ∧ d ≤ 7)) := by
    rw [Bool.and_assoc, Bool.false_or, ← Bool.decide_and]
    exact congrArg (z.image.params.tripBAuto && ·) (decide_eq_decide.mpr (by rw [Nat.one_le_iff_ne_zero]))
  have hstill : (z.countDays d false).primary = true := by
    unfold State.primary
    rw [← hsame.key]
    exact hprimary
  have hmark : ((z.countDays d false).markDay d false).trip = { z.trip with dayMark := marked } := by
    rw [State.markDay_eq, hstill, Bool.true_and, htrip, ← hsame.image]
    exact congrArg (fun b => { z.trip with dayMark := z.trip.dayMark || b }) hjudged
  have hfresh' : ((z.countDays d false).markDay d false).slots[(13 : SlotId)].state = .fresh := by
    rw [((State.SameSlots.countDays z d false).trans (.markDay _ d false)).slots]
    exact hfresh
  obtain ⟨hjtrip, hjservice, hjfaults⟩ := State.judgeJourney_facts hfresh'
  rw [hjtrip, hjservice, hjfaults, hmark, State.markDay_eq]
  exact ⟨hservice, hfaults, rfl⟩

/-- The first day count after sleep against a kept base: up to 255 days are counted, and no journey is judged (R20). -/
theorem State.dayCount_kept (hacquires : z.slots[(13 : SlotId)].state = .acquiring) (hd : d ≤ 255) :
    let w := ((z.countDays d true).markDay d true).judgeJourney
    w.service = (if z.primary then { z.service with days := min 65535 (z.service.days + d) } else z.service) ∧
    w.faults = z.faults ∧
    w.trip = { z.trip with
      dayMark := z.trip.dayMark || (z.primary && z.image.params.tripBAuto && decide (d ≠ 0)) } := by
  intro w
  obtain ⟨-, himage, hslots, hkey⟩ := State.SameSlots.countDays z d true
  have hw : w = (z.countDays d true).markDay d true := State.judgeJourney_of_closed <| .inr <| by
    rw [(State.SameSlots.markDay _ d true).slots, hslots, hacquires]
    exact fun h => nomatch h
  have hrole : (z.countDays d true).primary = z.primary := by
    unfold State.primary
    rw [hkey]
  rw [hw, State.markDay_eq, himage, hrole, Bool.true_or, Bool.and_true]
  by_cases hprimary : z.primary = true
  · obtain ⟨hservice, hfaults, htrip, -⟩ := State.countDays_facts (d := d) (kept := true) hprimary
    rw [if_pos rfl, if_pos hd] at hservice hfaults
    rw [if_pos hprimary, htrip]
    exact ⟨hservice, hfaults, rfl⟩
  · rw [if_neg hprimary, State.countDays_of_mirror (Bool.eq_false_iff.mpr hprimary)]
    exact ⟨rfl, rfl, rfl⟩

end

/-! ## The presses of one arrival -/

section

variable {s : State} {n m k : Nat}

/-- The pages and the resets of an arrival's presses (R19, R72, R73). -/
theorem State.takePresses_trip (hpage : s.trip.page < max 1 s.image.params.pages.length) :
    let u := s.takePresses [n, m, k]
    let reset := m ≠ 0 ∧ s.primary = true ∧ s.keyOn = true ∧ s.display.mode = .page
    u.image = s.image ∧
    u.trip.page = (if s.keyOn = true then (s.trip.page + n) % max 1 s.image.params.pages.length else s.trip.page) ∧
    u.trip.a = (if reset ∧ (currentPage u).trip = some .a then .zero else s.trip.a) ∧
    u.trip.b = (if reset ∧ (currentPage u).trip = some .b then .zero else s.trip.b) := by
  intro u reset
  let turned := State.pagePress^[n] s
  obtain ⟨hpaged, hpages⟩ := State.pagePresses n hpage
  obtain ⟨hsame, -, -, -, htrip⟩ := State.resetPresses_facts m turned
  obtain ⟨hacktrip, hackimage⟩ := State.ackPresses_frame k (State.resetPress^[m] turned)
  have hutrip : u.trip = if m = 0 then turned.trip else turned.withReset.trip := hacktrip.trans htrip
  have huimage : u.image = turned.image := hackimage.trans hsame.image
  have hupage : u.trip.page = turned.trip.page := by
    rw [hutrip]
    split <;> rfl
  have hshown : turned.resets = if s.primary && s.keyOn && s.display.mode = .page then (currentPage u).trip else none := by
    have hcurrent : currentPage u = currentPage turned := by
      unfold currentPage
      rw [huimage, hupage]
    unfold State.resets State.primary State.keyOn
    rw [hpaged.same.key, hpaged.mode, hcurrent]
  have hresets (name : TripName) : (m ≠ 0 ∧ turned.resets = some name) ↔ (reset ∧ (currentPage u).trip = some name) := by
    have hallowed : (s.primary && s.keyOn && decide (s.display.mode = .page)) = true ↔
        s.primary = true ∧ s.keyOn = true ∧ s.display.mode = .page := by simp [and_assoc]
    rw [hshown]
    by_cases hmay : (s.primary && s.keyOn && decide (s.display.mode = .page)) = true
    · rw [if_pos hmay]
      exact ⟨fun ⟨hpress, hname⟩ => ⟨⟨hpress, hallowed.mp hmay⟩, hname⟩, fun ⟨⟨hpress, _⟩, hname⟩ => ⟨hpress, hname⟩⟩
    · rw [if_neg hmay]
      exact ⟨fun ⟨_, hname⟩ => (nomatch hname), fun ⟨⟨_, hmay'⟩, _⟩ => absurd (hallowed.mpr hmay') hmay⟩
  have hzeroed (name : TripName) (old : TripRecord) :
      (if m = 0 then old else if turned.resets = some name then .zero else old) =
        if reset ∧ (currentPage u).trip = some name then .zero else old := by
    refine Eq.trans ?_ (if_congr (hresets name) rfl rfl)
    by_cases hpress : m = 0
    · rw [if_pos hpress, if_neg fun h => h.1 hpress]
    · rw [if_neg hpress]
      by_cases hname : turned.resets = some name
      · rw [if_pos hname, if_pos ⟨hpress, hname⟩]
      · rw [if_neg hname, if_neg fun h => hname h.2]
  have ha : turned.trip.a = s.trip.a := (congrArg Trip.a hpaged.trip).trans rfl
  have hb : turned.trip.b = s.trip.b := (congrArg Trip.b hpaged.trip).trans rfl
  refine ⟨huimage.trans hpaged.same.image, hupage.trans hpages, ?_, ?_⟩
  · rw [← hzeroed .a, hutrip, ← ha]
    split <;> rfl
  · rw [← hzeroed .b, hutrip, ← hb]
    split <;> rfl

/-- The acknowledge presses of an arrival (R19, R94). -/
theorem State.takePresses_alerts (hpage : s.trip.page < max 1 s.image.params.pages.length) :
    let u := s.takePresses [n, m, k]
    (k = 0 → u.monitor = s.monitor ∧ u.chime = s.chime) ∧
    (∀ h : EntryId, k = 1 → s.chime.holder = some h → s.image.warnings[h].ackable = true →
      u.monitor = s.monitor.withEntry h { s.monitor.entries[h] with
        state := .acknowledged
        remind := if s.image.warnings[h].remind = 0 then none else startTimer s.now (60000 * s.image.warnings[h].remind) } ∧
      u.chime.requests = s.chime.requests.set h none ∧
      (s.image.warnings[h].message ≠ 0 → Message.Disowned (.warning h) s.image.warnings[h].message u.display.queue)) := by
  intro u
  let reset := State.resetPress^[m] (State.pagePress^[n] s)
  obtain ⟨hpaged, -⟩ := State.pagePresses n hpage
  obtain ⟨hsame, hmonitor, hchime, -, -⟩ := State.resetPresses_facts m (State.pagePress^[n] s)
  have hmonitor : reset.monitor = s.monitor := hmonitor.trans hpaged.monitor
  have hchime : reset.chime = s.chime := hchime.trans hpaged.chime
  have himage : reset.image = s.image := hsame.image.trans hpaged.same.image
  have hnow : reset.now = s.now := hsame.now.trans hpaged.same.now
  refine ⟨fun hk => ?_, fun h hk hholder hackable => ?_⟩
  · subst hk
    exact ⟨hmonitor, hchime⟩
  · subst hk
    have hfacts := State.ackPress_facts (s := reset) (by rw [hchime]; exact hholder) (by rw [himage]; exact hackable)
    rw [hmonitor, hchime, himage, hnow] at hfacts
    exact hfacts

end

/-- Settles O21: one consumer for each slot, and nothing after the consumers moves a figure but the presses. -/
theorem publishFeedsTheBlocks : Obligations.PublishFeedsTheBlocks := by
  refine ⟨fun t m s e v hfits hreceives hstarted horigin hfeeds husable hp hlaw => ?_,
    fun t m s e v hfits hreceives hstarted horigin hfeeds he habsent hbase => ?_⟩
  · obtain ⟨hlimit, -, hwidths⟩ := hlaw
    intro c dt base delta press implausible
    obtain ⟨l, h, quiet, before, hexec⟩ := exec_publishReceived_of_one (t := t) hfits hreceives hstarted horigin hfeeds
    let a := s.slots[e.slot].handsOn e.slot e v t
    let z := s.taking t l h quiet (applyFeed t s.slots (e, v))
    have husable' {i : SlotId} (he : e.slot = i) : s.slots[i].usable = true := by
      subst he
      exact husable
    have hdelta (hkind : slotKind e.slot = .count) : a.delta = some (delta (countModulus e.slot)) :=
      Slot.handsOn_delta hkind (.inl (Slot.continues_of_usable husable))
    have hkept : a.kept = false := Slot.handsOn_kept_of_usable husable
    have hslot {i : SlotId} (he : e.slot = i) : z.slots[i] = s.slots[i].afterArrival i e v t := applyFeed_same s.slots he
    obtain ⟨x, hx⟩ : ∃ x, x = State.close (s.stamped t) ((z.consume before a).afterConsumers a) := ⟨_, rfl⟩
    have hfigures {w : State} (hkind : slotKind e.slot ≠ .presses) (hw : z.consume before a = w) : w.SameFigures x :=
      hw ▸ hx ▸ State.afterConsumers_figures (Slot.handsOn_presses_of_other hkind) _ _
    have himplausible (hfig : (z.clearMark.reportFault .implausible).SameFigures x) : implausible x := by
      obtain ⟨hinteg, hservice, htrip, hstore, hfaults⟩ := State.implausible_facts z
      exact ⟨hfig.integ.trans hinteg, hfig.service.trans hservice, hfig.trip.trans htrip, hfig.store.trans hstore,
        hfig.faults.trans hfaults⟩
    refine ⟨x, hexec.trans (congrArg _ hx.symm), fun he => ?_, fun he => ?_, fun he hreading => ?_,
      fun he hmirror hwindow => ?_, fun he hprimary => ?_, fun he hunread hpage hidle => ?_⟩
    · intro d n units committed window pulses millis
      have hfigures : (z.takeDistance d dt).SameFigures x := hfigures (by rw [he]; decide)
        (State.consume_distance (d := d) before z a he ((hdelta (by rw [he]; rfl)).trans (by rw [he]; rfl)))
      rw [← distanceLimit_eq]
      by_cases haccepted : d ≤ distanceLimit c.vmax c.p dt
      · rw [if_pos haccepted]
        obtain ⟨hinteg, hservice, htrip, hfaults, hxstore⟩ := hfigures
        obtain ⟨hwindow, hspeed, hvolume, harmed, htimer, hfaults'⟩ := z.takeDistance_window haccepted hlimit
        rw [show windowWith z.integ.window d dt = window from windowWith_eq _ _ _] at hwindow hspeed
        rw [hinteg, hservice, htrip, hfaults, hxstore]
        refine ⟨hwindow, fun hstill => ?_, fun hmoves => ?_, hvolume, harmed, htimer, hfaults', fun hmirror => ?_,
          fun hprimary => ?_⟩
        · exact hspeed.trans (speedOf_of_no_time _ hstill)
        · rw [show (z.takeDistance d dt).integ.speed = _ from hspeed]
          exact speedOf_of_time _ hp hmoves
        · exact z.takeDistance_of_mirror haccepted hmirror
        · obtain ⟨hinteg, hservice, ha, hb, hstore⟩ := z.takeDistance_of_primary haccepted hprimary hwidths.1
          rw [State.travelled_integ z d hlimit] at hinteg
          let w : State := { z with integ := { z.integ with remainder := z.integ.remainder + d } }
          have hunits : units = z.unitsBy d := rfl
          have hcommitted {urgent : Bool} (hcommits : (State.tenths n w).store.Commits urgent s.integ.tenths (s.integ.tenths + n)) :
              committed urgent := by
            unfold committed
            rw [hxstore, hstore]
            cases hcommits with
            | queued hq hu => exact .inl ⟨_, _, _, hq, hu⟩
            | begun hop hlo hhi => exact .inr ⟨_, _, _, hop, hlo, hhi⟩
          rw [hinteg, hservice, ha, hb]
          refine ⟨?_, ?_, rfl, rfl, rfl, fun hnone => ?_, fun hsome => ?_, fun hquiet => ?_, fun hodo hsome hlow => ?_,
            fun hodo hn hlow => ?_⟩
          · split <;> rfl
          · split <;> rfl
          · rw [if_pos (hunits.symm.trans hnone)]
            exact ⟨rfl, rfl, rfl⟩
          · rw [if_neg (hunits ▸ hsome)]
            have hother : z.slots[(5 : SlotId)] = s.slots[(5 : SlotId)] := applyFeed_other s.slots (by rw [he]; decide)
            exact ⟨rfl, congrArg Slot.usable hother, rfl⟩
          · refine hstore.trans ?_
            obtain hnone | ⟨hnone, hlow⟩ := hquiet
            · rw [show z.tenthsBy d = 0 from hnone]
              rfl
            · refine State.tenths_store_of_quiet (s := w) hlow ?_
              exact Nat.le_antisymm (Nat.sub_eq_zero_iff_le.mp hnone) (Nat.div_le_div_right (Nat.le_add_right _ _))
          · exact hcommitted (State.tenths_commits_of_crossing (s := w) hodo hlow fun hsame =>
              hsome (Nat.sub_eq_zero_of_le (Nat.le_of_eq hsame)))
          · exact hcommitted (State.tenths_commits_of_low (s := w) hodo hlow hn)
      · rw [if_neg haccepted]
        exact himplausible (State.takeDistance_of_refused z d haccepted ▸ hfigures)
    · intro f
      have hfigures : (z.takeFuel f dt).SameFigures x := hfigures (by rw [he]; decide)
        (State.consume_fuel (f := f) before z a he ((hdelta (by rw [he]; rfl)).trans (by rw [he]; rfl)))
      rw [← fuelLimit_eq]
      by_cases haccepted : f ≤ fuelLimit c.fmax dt
      · rw [if_pos haccepted]
        by_cases hprimary : s.primary = true
        · obtain ⟨hinteg, hservice, htrip, hfaults, hstore⟩ := State.takeFuel_of_primary (s := z) haccepted hprimary ▸ hfigures
          exact ⟨hfaults, hservice, hstore, fun hmirror => (nomatch hprimary.symm.trans hmirror),
            fun _ => ⟨htrip ▸ rfl, htrip ▸ rfl, hinteg⟩⟩
        · obtain ⟨hinteg, hservice, htrip, hfaults, hstore⟩ :=
            State.takeFuel_of_mirror (s := z) haccepted (Bool.eq_false_iff.mpr hprimary) ▸ hfigures
          exact ⟨hfaults, hservice, hstore, fun _ => ⟨htrip, hinteg⟩, fun h => absurd h hprimary⟩
      · rw [if_neg haccepted]
        exact himplausible (State.takeFuel_of_refused (s := z) haccepted ▸ hfigures)
    · intro goal
      have hnoReading : noReading 6 e v = false := by simp [noReading, hreading]
      have hfresh : z.slots[(6 : SlotId)].state = .fresh := by
        rw [hslot he]
        exact Slot.afterArrival_fresh hnoReading (husable' he)
      have hvalue : z.slots[(6 : SlotId)].value = v := by
        rw [hslot he, Slot.afterArrival_of_reading hnoReading]
        exact Slot.store_value (.inl rfl)
      rw [(hfigures (by rw [he]; decide) (State.consume_tank before z a he)).integ, State.tankArrived_integ hfresh, hvalue]
      rfl
    · have hunmoved : z.consume before a = z := by
        rw [State.consume_days before z a he (hdelta (by rw [he]; rfl)), State.countDays_of_mirror (s := z) hmirror,
          State.markDay_of_mirror (s := z) hmirror, State.judgeJourney_of_closed (s := z) (.inl hwindow)]
      have hfigures := hfigures (by rw [he]; decide) hunmoved
      exact ⟨hfigures.service, hfigures.trip, hfigures.faults⟩
    · intro d marked
      have hconsume : z.consume before a = ((z.countDays d false).markDay d false).judgeJourney := by
        rw [State.consume_days before z a he (hdelta (by rw [he]; rfl)), hkept, he]
        rfl
      have hfigures := hfigures (by rw [he]; decide) hconsume
      have hfresh : z.slots[(13 : SlotId)].state = .fresh := by
        rw [hslot he]
        exact Slot.afterArrival_fresh rfl (husable' he)
      rw [hfigures.service, hfigures.faults, hfigures.trip]
      exact State.dayCount_judged hprimary hfresh
    · let reported := z.reportSources (if a.reported then [.slot a.slot] else [])
      have hpresses : a.presses = [press 0, press 1, press 2] :=
        Slot.handsOn_presses (by rw [he]; rfl) (Slot.continues_of_usable husable)
      have hnobody : readers z (if a.reported then [.slot a.slot] else []) = [] := by
        refine List.filter_eq_nil_iff.mpr fun w _ hreads => ?_
        obtain ⟨src, hsrc, hw⟩ := List.any_eq_true.mp hreads
        have hsrc : src = .slot 12 := by
          split at hsrc
          · exact (List.mem_singleton.mp hsrc).trans (congrArg Source.slot he)
          · exact absurd hsrc List.not_mem_nil
        rw [hsrc] at hw
        exact nomatch hw.symm.trans (hunread w)
      obtain ⟨hmonitor, hchime, hdisplay⟩ := State.reportSources_of_unread (s := z) hnobody hidle
      have hx : x = State.close (s.stamped t) (reported.settleDisplay.takePresses [press 0, press 1, press 2]) := by
        rw [hx, State.consume_buttons before z a he, State.afterConsumers, hpresses]
      have hmode : reported.settleDisplay.display.mode = s.display.mode :=
        (Display.settle_mode _ _).trans (congrArg Display.mode hdisplay)
      obtain ⟨himage, hturned, hresetA, hresetB⟩ := State.takePresses_trip (s := reported.settleDisplay) (n := press 0)
        (m := press 1) (k := press 2) hpage
      obtain ⟨hnone, hone⟩ := State.takePresses_alerts (s := reported.settleDisplay) (n := press 0) (m := press 1)
        (k := press 2) hpage
      have hcurrent : currentPage x = currentPage (reported.settleDisplay.takePresses [press 0, press 1, press 2]) := by
        unfold currentPage
        rw [hx, State.close_image, State.close_trip]
      rw [hcurrent, hx, State.close_trip, State.close_monitor, State.close_chime, State.close_display]
      rw [hmode] at hresetA hresetB
      refine ⟨hturned, ⟨hresetA, hresetB⟩, fun h => ?_, fun holder hpress hholder hackable => ?_⟩
      · obtain ⟨hmonitor', hchime'⟩ := hnone h
        exact ⟨hmonitor'.trans hmonitor, hchime'.trans hchime⟩
      · obtain ⟨hmonitor', hrequests, hdisowned⟩ := hone holder hpress (hchime.symm ▸ hholder) hackable
        refine ⟨hmonitor'.trans ?_, hrequests.trans ?_, fun q hq hid hne => ?_⟩
        · rw [show reported.settleDisplay.monitor = s.monitor from hmonitor]
          rfl
        · rw [show reported.settleDisplay.chime = s.chime from hchime]
        · exact ((hdisowned (hid ▸ hne)).started (Display.settle_started _ _)).free q hq hid
  · intro d
    obtain ⟨l, h, quiet, before, hexec⟩ := exec_publishReceived_of_one (t := t) hfits hreceives hstarted horigin hfeeds
    let a := s.slots[e.slot].handsOn e.slot e v t
    let z := s.taking t l h quiet (applyFeed t s.slots (e, v))
    have ha : a = s.slots[(13 : SlotId)].handsOn 13 e v t := Slot.handsOn_of_slot s he
    have hmeasured : s.slots[(13 : SlotId)].keptBase 13 = true := by
      unfold Slot.keptBase
      rw [habsent, hbase]
      rfl
    have hdelta : a.delta = some d := by
      rw [ha]
      exact Slot.handsOn_delta rfl (.inr hmeasured)
    have hkept : a.kept = true := by
      rw [ha]
      exact hmeasured
    have hbegins : ¬ (s.slots[(13 : SlotId)].state = .fresh ∨ s.slots[(13 : SlotId)].state = .late ∨
        (s.slots[(13 : SlotId)].state = .acquiring ∧ s.slots[(13 : SlotId)].acquired ≠ 0)) := by
      rw [habsent]
      simp
    have hacquires : z.slots[(13 : SlotId)].state = .acquiring := by
      rw [show z.slots[(13 : SlotId)] = _ from applyFeed_same s.slots he, Slot.afterArrival_of_reading rfl]
      exact if_neg fun hcontinues => hbegins ((Slot.continues_iff _).mp hcontinues)
    have hconsume : z.consume before a = ((z.countDays d true).markDay d true).judgeJourney := by
      rw [State.consume_days before z a he hdelta, hkept]
    obtain ⟨x, hx⟩ : ∃ x, x = State.close (s.stamped t) ((z.consume before a).afterConsumers a) := ⟨_, rfl⟩
    have hfigures : (z.consume before a).SameFigures x :=
      hx ▸ State.afterConsumers_figures (Slot.handsOn_presses_of_other (by rw [he]; decide)) _ _
    have hexec : exec (.publishReceived t m) s = .next x := hexec.trans (congrArg _ hx.symm)
    obtain ⟨x', hexec', -, -, hslots⟩ := publishMovesTheSlots t m s hfits
    obtain rfl : x' = x := Host.Outcome.next.inj (hexec'.symm.trans hexec)
    have hreading := ((hslots hreceives hstarted horigin 13).2 [] [] e v hfeeds he (by simp)).2 fun h => nomatch h.1
    rw [if_neg hbegins] at hreading
    obtain ⟨⟨hstate, hacquired⟩, -, -, -, -, hbased⟩ := hreading
    obtain ⟨hservice, hfaults, htrip⟩ := State.dayCount_kept hacquires (Nat.le_of_lt_succ (Nat.mod_lt _ (by decide)) : d ≤ 255)
    refine ⟨x', hexec, ?_, hstate, hacquired, (hbased (.inl rfl)).1, (hbased (.inl rfl)).2, ?_, ?_⟩
    · rw [hfigures.faults, hconsume]
      exact hfaults
    · rw [hfigures.service, hconsume]
      exact hservice
    · rw [hfigures.trip, hconsume]
      exact htrip

end Sys2Proof.Machine
end

section
/-! Steps 1 to 4 of a start (R193): what the scan leaves of the store (R169), the occurrences of steps 1 to 3 (R98), and what the
store's first serving makes of its queue. -/

namespace Sys2Proof.Machine

/-! ## The line of a start -/

/-- A line as a start was given it, but for telegrams handed on since, none of which has been tried. -/
structure Line.HandedOn (l₀ : Line) (allowed : TxSource → Prop) (l : Line) : Prop where
  frame : l = { l₀ with queue := l.queue }
  untried : ∀ e ∈ l.queue, e.inFlight = false ∧ e.attempts = 0 ∧ e.followOn = none ∧ allowed e.source

namespace Line.HandedOn

variable {l₀ l : Line} {allowed : TxSource → Prop}

theorem of_empty (h : l.queue = []) : l.HandedOn allowed l where
  frame := rfl
  untried _ he := nomatch h ▸ he

theorem mono {allowed' : TxSource → Prop} (h : l₀.HandedOn allowed l) (himp : ∀ source, allowed source → allowed' source) :
    l₀.HandedOn allowed' l where
  frame := h.frame
  untried e he :=
    have ⟨hflies, hattempts, hfollow, hsource⟩ := h.untried e he
    ⟨hflies, hattempts, hfollow, himp _ hsource⟩

/-- On a line that is not idle nothing goes in flight (R187). -/
theorem publish (h : l₀.HandedOn allowed l) (hidle : l₀.idle = false) {source : TxSource} (hsource : allowed source)
    (group : Byte) (data : List Byte) : l₀.HandedOn allowed (l.handOn (publishEntry source group data)) := by
  have hbusy : l.idle = false := by rw [h.frame]; exact hidle
  have hstays (queue : List TxEntry) : { l with queue }.choose = { l with queue } := by
    unfold Line.choose
    rw [show ({ l with queue } : Line).idle = false from hbusy]
    rfl
  have hframe (queue : List TxEntry) : { l with queue } = { l₀ with queue } := by rw [h.frame]
  unfold Line.handOn
  dsimp only
  rw [hstays, hframe]
  refine ⟨rfl, ?_⟩
  dsimp only
  split
  next hany =>
    obtain ⟨l₁, e, l₂, hl, -, -, hmap⟩ := mapFirst_split _ hany
    have hmem {x : TxEntry} (hx : x ∈ l₁ ∨ x = e ∨ x ∈ l₂) : x ∈ l.queue := by rw [hl]; simpa using hx
    obtain ⟨hflies, hattempts, hfollow, hallowed⟩ := h.untried e (hmem (.inr (.inl rfl)))
    rw [hmap]
    intro x hx
    obtain hx | rfl | hx : x ∈ l₁ ∨ x = _ ∨ x ∈ l₂ := by simpa using hx
    · exact h.untried x (hmem (.inl hx))
    · rw [if_neg (Bool.eq_false_iff.mp hflies)]
      exact ⟨hflies, hattempts, hfollow, hallowed⟩
    · exact h.untried x (hmem (.inr (.inr hx)))
  next =>
    intro x hx
    obtain hx | rfl := by simpa using hx
    · exact h.untried x hx
    · exact ⟨rfl, rfl, rfl, hsource⟩

end Line.HandedOn

/-! ## The occurrences of steps 1 to 3 -/

/-- The occurrences of a start move the fault record, and hand 48H on. -/
theorem foldl_startFault (ks : List FaultKind) (s : State) :
    ks.foldl State.startFault s =
      { s with faults := ks.foldl FaultRecord.after s.faults, line := (ks.foldl State.startFault s).line } ∧
    ∀ (l₀ : Line) (allowed : TxSource → Prop), l₀.idle = false → allowed .fault → l₀.HandedOn allowed s.line →
      l₀.HandedOn allowed (ks.foldl State.startFault s).line := by
  induction ks generalizing s with
  | nil => exact ⟨rfl, fun _ _ _ _ h => h⟩
  | cons k ks ih =>
    obtain ⟨hframe, hline⟩ := ih (s.startFault k)
    have hone : s.startFault k = { s with faults := s.faults.after k, line := (s.startFault k).line } := by
      unfold State.startFault
      dsimp only
      split <;> rfl
    refine ⟨?_, fun l₀ allowed hidle hfault h => hline l₀ allowed hidle hfault ?_⟩
    · rw [List.foldl_cons, List.foldl_cons]
      refine hframe.trans ?_
      generalize (ks.foldl State.startFault (s.startFault k)).line = l
      rw [hone]
    · unfold State.startFault
      dsimp only
      split
      · exact h.publish hidle hfault _ _
      · exact h

/-! ## The recovery scan -/

/-- A store as the scan leaves it: at rest, no ring FAILED, and only erases queued (R169). -/
structure Store.Scanned (array : Array16) (st : Store) : Prop where
  array : st.array = array
  op : st.op = .idle
  suspended : st.suspended = none
  odo : st.odo.failed = false
  save : st.save.failed = false
  erases : ∀ q ∈ st.queue, q.isErase = true

theorem StoreRequest.isCommit_of_isErase {q : StoreRequest} (h : q.isErase = true) : q.isCommit = false := by
  cases q with
  | erase => rfl
  | _ => cases h

namespace Store.Scanned

variable {array : Array16} {st : Store}

theorem unscanned (array : Array16) : (unscannedStore array).Scanned array :=
  ⟨rfl, rfl, rfl, rfl, rfl, nofun⟩

theorem conditions (h : st.Scanned array) (r : Ring) : (scanConditions st r).Scanned array :=
  ⟨h.array, h.op, h.suspended, h.odo, h.save, h.erases⟩

theorem placed (h : st.Scanned array) (r : Ring) (b : BlockId) (slot : Nat) :
    (st.withRing r { failed := false, current := b, next := slot, fails := 0 }).Scanned array := by
  cases r with
  | odo => exact ⟨h.array, h.op, h.suspended, rfl, h.save, h.erases⟩
  | save => exact ⟨h.array, h.op, h.suspended, h.odo, rfl, h.erases⟩

theorem append (h : st.Scanned array) {queue : List StoreRequest} (hqueue : ∀ q ∈ queue, q.isErase = true) :
    { st with queue := st.queue ++ queue }.Scanned array :=
  ⟨h.array, h.op, h.suspended, h.odo, h.save, fun q hq => (List.mem_append.mp hq).elim (h.erases q) (hqueue q)⟩

theorem wantBlank (h : st.Scanned array) (r : Ring) (b : BlockId) : (st.wantBlank r b).Scanned array := by
  obtain hq | hq := st.wantBlank_eq r b
  · rw [hq]
    exact h
  · rw [hq]
    exact h.append fun q hq => List.mem_singleton.mp hq ▸ rfl

theorem lookAhead (h : st.Scanned array) (r : Ring) : (st.lookAhead r).Scanned array := by
  obtain ⟨queue, hq, herases⟩ := st.lookAhead_eq r
  rw [hq]
  refine h.append fun q hq => ?_
  obtain ⟨b, rfl⟩ := herases q hq
  rfl

theorem scanRing (h : st.Scanned array) (r : Ring) : (Machine.scanRing r st).Scanned array := by
  have hscanned := h.conditions r
  unfold Machine.scanRing
  generalize scanConditions st r = scanned at hscanned ⊢
  refine lookAhead ?_ r
  dsimp only
  split
  · split
    · exact hscanned.placed r _ _
    · exact (hscanned.placed r _ _).wantBlank r _
  · split
    · exact hscanned.placed r _ _
    · exact (hscanned.placed r _ _).wantBlank r _

theorem no_commit (h : st.Scanned array) : st.queue.any (·.isCommit) = false := by
  rw [List.any_eq_false]
  exact fun q hq => Bool.eq_false_iff.mp (StoreRequest.isCommit_of_isErase (h.erases q hq))

end Store.Scanned

theorem scanStore_scanned (array : Array16) : (scanStore array).Scanned array :=
  ((Store.Scanned.unscanned array).scanRing .odo).scanRing .save

/-- The store before it first serves: as the scan left it, with an odometer commit behind its erases where T exceeds the newest
odometer record (R170). -/
theorem joinCommit_of_scanned {array : Array16} {st : Store} (h : st.Scanned array) :
    st.joinCommit false false = { st with queue := st.queue ++ [.commit false false false] } := by
  unfold Store.joinCommit
  rw [h.no_commit]
  rfl

/-! ## The first serving -/

/-- A store at rest with no configuration program and no suspended erase rests on, or starts a request of its queue. -/
theorem State.serve_of_no_program {s : State} (hsuspended : s.store.suspended = none)
    (hnone : ∀ asker address value, .program asker address value ∉ s.store.queue) :
    s.serve = s ∨ ∃ q st, q ∈ s.store.queue ∧ Store.start s q { s.store with queue := s.store.queue.erase q } = some st ∧
      s.serve = { s with store := st } := by
  unfold State.serve serveUpTo
  split
  next => exact .inl rfl
  next =>
    split
    next q hchosen =>
      dsimp only
      split
      next st hstart => exact .inr ⟨q, st, Store.chosen_mem hchosen, hstart, rfl⟩
      next hrefused =>
        obtain ⟨asker, address, value, rfl⟩ := Store.start_eq_none hrefused
        exact absurd (Store.chosen_mem hchosen) (hnone _ _ _)
    next =>
      rw [hsuspended]
      exact .inl rfl

/-- A request that begins an odometer record is a commit. -/
theorem Store.isCommit_of_start {s : State} {q q' : StoreRequest} {st st' : Store} {w : List Word} {n d : Nat} {ab : Bool}
    (hstart : Store.start s q st = some st') (hop : st'.op = .record .odo q' w n ab d) : q.isCommit = true := by
  cases q with
  | commit => rfl
  | program =>
    unfold Store.start at hstart
    dsimp only at hstart
    split at hstart
    · cases hstart
      cases hop
    · cases hstart
  | _ =>
    cases hstart
    cases hop

/-! ## Steps 1 to 4 -/

/-- T as the newest odometer record holds it, 0 without one (R170). -/
def recordedTenths (array : Array16) : Nat := ((newestOdo array).map (·.2)).getD 0

section

variable {array : Array16} {st : Store} {owed : Prop} [Decidable owed] {b : State}

theorem State.serve_scanned_queue (hst : st.Scanned array) (hb : b.store = if owed then st.joinCommit false false else st) :
    b.store = { st with queue := b.store.queue } ∧
      b.store.queue = st.queue ++ (if owed then [.commit false false false] else []) := by
  rw [hb, joinCommit_of_scanned hst]
  split
  · exact ⟨rfl, rfl⟩
  · exact ⟨rfl, (List.append_nil _).symm⟩

/-- The first serving of a scanned store moves only its queue and operation, and begins a record only where a commit is owed. -/
theorem State.serve_scanned (hst : st.Scanned array) (hb : b.store = if owed then st.joinCommit false false else st) :
    b.serve = { b with store := b.serve.store } ∧ b.serve.store.array = array ∧ b.serve.store.suspended = none ∧
      b.serve.store.conditions = st.conditions ∧ b.serve.store.odo = st.odo ∧ b.serve.store.save = st.save ∧
      (∀ q ∈ b.serve.store.queue, q.isCommit = true ∨ q.isErase = true) ∧
      (st.queue = [] → ¬ owed → b.serve = b) ∧
      ((b.serve.store.queue.any (·.isCommit) = true ∨
        ∃ q, b.serve.store.op = .record .odo q (odoRecord b.integ.tenths) 0 false b.integ.tenths) ↔ owed) := by
  obtain ⟨hframe, hqueue⟩ := State.serve_scanned_queue hst hb
  have hop : b.store.op = .idle := by rw [hframe]; exact hst.op
  have hsuspended : b.store.suspended = none := by rw [hframe]; exact hst.suspended
  have hmem : ∀ q ∈ b.store.queue, (owed ∧ q = .commit false false false) ∨ q.isErase = true := by
    intro q hq
    rw [hqueue, List.mem_append] at hq
    obtain hq | hq := hq
    · exact .inr (hst.erases q hq)
    · split at hq
      · exact .inl ⟨‹_›, List.mem_singleton.mp hq⟩
      · cases hq
  have howed : ∀ q ∈ b.store.queue, q.isCommit = true → owed := fun q hq hcommit =>
    (hmem q hq).elim And.left fun herase => absurd hcommit (Bool.eq_false_iff.mp (StoreRequest.isCommit_of_isErase herase))
  have hprogram : ∀ asker address value, .program asker address value ∉ b.store.queue := fun asker address value hq => by
    obtain ⟨-, h⟩ | h := hmem _ hq <;> cases h
  have hserved := b.serve_served
  have hkinds : ∀ q ∈ b.serve.store.queue, q.isCommit = true ∨ q.isErase = true := fun q hq =>
    (hmem q (hserved.sublist.subset hq)).imp (fun ⟨_, hcommit⟩ => hcommit ▸ rfl) id
  obtain ⟨harray, hodo, hsave, hconditions⟩ := hserved.memory
  rw [hframe] at harray hodo hsave hconditions
  have hserves := State.serve_of_no_program hsuspended hprogram
  refine ⟨?_, harray.trans hst.array, ?_, hconditions, hodo, hsave, hkinds, fun hnil hnot => ?_, fun h => ?_, fun h => ?_⟩
  · obtain hrests | ⟨q, st', -, -, hstarts⟩ := hserves
    · rw [hrests]
    · rw [hstarts]
  · obtain hrests | ⟨q, st', -, hstart, hstarts⟩ := hserves
    · rw [hrests, hsuspended]
    · rw [hstarts]
      exact (State.Served.start_memory hstart).2.2.2.2.2.trans hsuspended
  · obtain hrests | ⟨q, st', hq, -, -⟩ := hserves
    · exact hrests
    · rw [hqueue, hnil, if_neg hnot] at hq
      cases hq
  · obtain hany | ⟨q, hrecord⟩ := h
    · obtain ⟨q, hq, hcommit⟩ := List.any_eq_true.mp hany
      exact howed q (hserved.sublist.subset hq) hcommit
    · obtain hrests | ⟨q', st', hq, hstart, hstarts⟩ := hserves
      · rw [hrests, hop] at hrecord
        cases hrecord
      · rw [hstarts] at hrecord
        exact howed q' hq (Store.isCommit_of_start hstart hrecord)
  · have hq : .commit false false false ∈ b.store.queue := by rw [hqueue, if_pos h]; simp
    obtain hstays | ⟨-, -, hbegun⟩ := hserved.commit hq
    · exact .inl (List.any_eq_true.mpr ⟨_, hstays, rfl⟩)
    · exact .inr ⟨_, hbegun⟩

end

/-- What steps 1 to 4 make of the blocks `b` of a start on an array. -/
structure State.StartsUp (straps : Straps) (array : Array16) (b x : State) : Prop where
  frame : x = { b with
    faults := (startFaults straps array).foldl FaultRecord.after .cleared, line := x.line, store := x.store }
  line : b.line.idle = false → b.line.queue = [] → b.line.HandedOn (· = .fault) x.line
  memory : x.store.array = array
  suspended : x.store.suspended = none
  odo : x.store.odo.failed = false
  save : x.store.save.failed = false
  mirror : roleOf straps.role = .mirror → x.store.op = .idle ∧ x.store.queue = []
  primary : roleOf straps.role = .primary → x.store.conditions = (scanStore array).conditions ∧
    x.store.odo = (scanStore array).odo ∧ x.store.save = (scanStore array).save ∧
    ∀ q ∈ x.store.queue, q.isCommit = true ∨ q.isErase = true
  commits : roleOf straps.role = .primary → ((x.store.queue.any (·.isCommit) = true ∨
    ∃ q, x.store.op = .record .odo q (odoRecord b.integ.tenths) 0 false b.integ.tenths) ↔ recordedTenths array < b.integ.tenths)

theorem startUp_startsUp (now : Stamp) (array : Array16) (straps : Straps) (key : KeyMonitor) (line : Line) (live : Nat)
    (gauges : Image → Gauges) (freeIndex : Nat) (pending : List Instr) :
    State.StartsUp straps array (startBlocks now array straps key line live gauges freeIndex pending)
      (startUp now array straps key line live gauges freeIndex pending) := by
  rw [startUp_eq]
  obtain ⟨b, hb⟩ : ∃ b, b = startBlocks now array straps key line live gauges freeIndex pending := ⟨_, rfl⟩
  have hfaults : b.faults = .cleared := hb ▸ rfl
  have hstore : b.store = if roleOf straps.role = .primary ∧ recordedTenths array < b.integ.tenths then
      (if roleOf straps.role = .primary then scanStore array else unscannedStore array).joinCommit false false
    else if roleOf straps.role = .primary then scanStore array else unscannedStore array := hb ▸ rfl
  obtain ⟨hreported, hline⟩ := foldl_startFault (startFaults straps array) b
  rw [← hb]
  generalize (startFaults straps array).foldl State.startFault b = y at hreported hline
  have hscanned : (if roleOf straps.role = .primary then scanStore array else unscannedStore array).Scanned array := by
    split
    · exact scanStore_scanned array
    · exact .unscanned array
  have hinteg : y.integ = b.integ := by rw [hreported]
  obtain ⟨hframe, harray, hsuspended, hconditions, hodo, hsave, hkinds, hrests, hcommits⟩ :=
    State.serve_scanned (b := y) hscanned (by rw [hreported]; exact hstore)
  have hserveline : y.serve.line = y.line := by rw [hframe]
  refine ⟨?_, fun hidle hqueue => ?_, harray, hsuspended, ?_, ?_, fun hrole => ?_, fun hrole => ?_, fun hrole => ?_⟩
  · rw [hserveline]
    generalize y.serve.store = st at hframe
    rw [hframe, hreported, hfaults]
  · rw [hserveline]
    exact hline _ _ hidle rfl (.of_empty hqueue)
  · rw [hodo]; exact hscanned.odo
  · rw [hsave]; exact hscanned.save
  · have hmirror : ¬ roleOf straps.role = .primary := by rw [hrole]; decide
    rw [if_neg hmirror] at hrests
    rw [hrests rfl fun h => hmirror h.1, hreported]
    show b.store.op = .idle ∧ b.store.queue = []
    rw [hstore, if_neg fun h => hmirror h.1, if_neg hmirror]
    exact ⟨rfl, rfl⟩
  · rw [if_pos hrole] at hconditions hodo hsave
    exact ⟨hconditions, hodo, hsave, hkinds⟩
  · rw [hinteg] at hcommits
    exact hcommits.trans (and_iff_right hrole)

end Sys2Proof.Machine
end

section
/-! What a start restores (R20, R22, R66, R133, R170), and POWER_ON (O5). -/

namespace Sys2Proof.Machine

/-! ## The restored values -/

/-- A state holds what a start takes from the words of a record, or from none. -/
structure State.Restores (w : Option (List Word)) (x : State) : Prop where
  integ : ∃ now, x.integ = startInteg now x.image.params x.integ.tenths w
  a : x.trip.a = (startTrip w).a
  b : x.trip.b = (startTrip w).b
  dist : x.service.dist = (startService w).dist
  days : x.service.days = (startService w).days
  wear : x.service.wear = (startService w).wear
  slots : x.slots = startSlots w

theorem startSlots_day (w : Option (List Word)) : (startSlots w)[(13 : SlotId)] =
    { Slot.cleared with
      base := match w with | some w => field (nthWord w 21) 0 8 | none => 0
      baseValid := match w with | some w => bit (nthWord w 21) 8 | none => false } :=
  Vector.getElem_set_self (by decide)

theorem startSlots_other (w : Option (List Word)) {i : SlotId} (hi : i ≠ 13) : (startSlots w)[i] = Slot.cleared := by
  refine (Vector.getElem_set_ne (by decide) i.isLt fun h => hi (Fin.ext h.symm)).trans ?_
  exact Vector.getElem_replicate _

theorem State.Restores.restoredFrom {role : Role} {array : Array16} {x : State} (h : x.Restores (restoredRecord role array)) :
    RestoredFrom role array x := by
  obtain ⟨w, hw⟩ : ∃ w, w = restoredRecord role array := ⟨_, rfl⟩
  rw [← hw] at h
  obtain ⟨now, hinteg⟩ := h.integ
  have hday : x.slots[(13 : SlotId)] = _ := (congrArg (fun v : Vector Slot 19 => v[(13 : SlotId)]) h.slots).trans (startSlots_day w)
  have hremainder := congrArg Integrator.remainder hinteg
  have hvolume := congrArg Integrator.volume hinteg
  have hbase := congrArg Integrator.rangeBase hinteg
  refine ⟨fun v hv hrole => ?_, fun hnone => ?_⟩
  · obtain rfl : w = some v := by rw [hw, restoredRecord, if_pos hrole, hv]
    refine ⟨hremainder, hvolume, hbase, h.a, h.b, h.dist, h.days, h.wear, ?_, ?_⟩
    · rw [hday]
      exact congrArg (· % 2 ^ 8) (Nat.div_one _)
    · rw [hday]
      rfl
  · obtain rfl : w = none := by
      rw [hw, restoredRecord]
      split
      next hrole =>
        obtain hmirror | hempty := hnone
        · rw [hrole] at hmirror
          cases hmirror
        · rw [hempty]
          rfl
      next => rfl
    exact ⟨hremainder, hvolume, hbase, h.a, h.b, h.dist, h.days, h.wear, hday⟩

theorem recordedTenths_eq (array : Array16) :
    recordedTenths array = match newestOdo array with | some (_, v) => v | none => 0 := by
  unfold recordedTenths
  cases newestOdo array <;> rfl

/-- T after a start (R170): the largest of what the two rings hold and what was held live. -/
theorem restoredTenths_eq (array : Array16) (live : Nat) :
    restoredTenths array live = max (match newestOdo array with | some (_, v) => v | none => 0)
      (max (match newestSave array with | some (_, w) => twoWords w 1 | none => 0) live) := by
  unfold restoredTenths
  cases newestOdo array <;> cases newestSave array <;> rfl

/-! ## POWER_ON -/

theorem driveHeld_powered (c : Calibration) : driveHeld (Channel.powered c) = c.enabled := by
  unfold Channel.powered
  split
  next he => rw [he]; rfl
  next he => rw [Bool.eq_false_iff.mpr he]; rfl

/-- The close of a start that has handed nothing over leaves the line as it is. -/
theorem State.close_line_of_start {x : State} (hhanded : x.handed = .nothing) (hpending : x.line.pending = [])
    (hstanding : x.line.standing = []) : (State.close x x).line = x.line := by
  refine State.close_line_of_still hhanded rfl ?_ (fun _ _ => rfl) ?_
  · rw [hpending]
    exact fun _ h => nomatch h
  · rw [hstanding]
    exact fun _ h => nomatch h

theorem exec_powerOn (t : Stamp) (straps : Straps) (pins : Pins) (s : State) :
    exec (.powerOn t straps pins) s =
      .next (State.close (State.powerOn { s with now := t } straps pins) (State.powerOn { s with now := t } straps pins)) := rfl

/-- The Key and Supply Monitor's items at power-on, before the straps are read (R193). -/
def KeyMonitor.atPowerOn (now : Stamp) (pins : Pins) : KeyMonitor :=
  { pins, station := 0, role := .primary, units := .metric, key := .off
    keyTimer := startTimer now settleMillis, svcEn := false, svcTimer := startTimer now settleMillis
    mode := .awake, quiet := none, started := false, runSeen := false, restart := none }

/-- The channels at power-on (R56). -/
def Gauges.atPowerOn (now : Stamp) (image : Image) : Gauges :=
  { channels := Vector.ofFn fun i => Channel.powered image.gauges[i], updateTimer := startTimer now 20 }

/-- The blocks of a power-on, before the occurrences of its steps and the first serving. -/
def powerOnBlocks (t : Stamp) (straps : Straps) (pins : Pins) (s : State) : State :=
  startBlocks t (arrayAfterLoss s.store s.freeIndex).1 straps (.atPowerOn t pins) .cleared 0 (.atPowerOn t)
    (arrayAfterLoss s.store s.freeIndex).2 s.pending

theorem powerOn_startsUp (t : Stamp) (straps : Straps) (pins : Pins) (s : State) :
    State.StartsUp straps (arrayAfterLoss s.store s.freeIndex).1 (powerOnBlocks t straps pins s)
      (State.powerOn { s with now := t } straps pins) :=
  startUp_startsUp _ _ _ _ _ _ _ _ _

theorem exec_powerOn_startsUp (t : Stamp) (straps : Straps) (pins : Pins) (s : State) :
    ∃ y, State.StartsUp straps (arrayAfterLoss s.store s.freeIndex).1 (powerOnBlocks t straps pins s) y ∧
      exec (.powerOn t straps pins) s = .next (State.close y y) :=
  ⟨_, powerOn_startsUp t straps pins s, rfl⟩

/-- Settles O5: the blocks of steps 1 to 4, which the first serving and the close leave. -/
theorem powerOnStartsAfresh : Obligations.PowerOnStartsAfresh := by
  intro t straps pins s array role odo save
  obtain ⟨y, hstarts, hexec⟩ := exec_powerOn_startsUp t straps pins s
  have hframe := hstarts.frame
  have hline := hstarts.line rfl rfl
  have hlineframe : y.line = { Line.cleared with queue := y.line.queue } := hline.frame
  have hclosed : (State.close y y).line = y.line :=
    State.close_line_of_start (by rw [hframe]; rfl) (by rw [hlineframe]; rfl) (by rw [hlineframe]; rfl)
  obtain ⟨x, hx⟩ : ∃ x, x = State.close y y := ⟨_, rfl⟩
  have hline' : x.line = { Line.cleared with queue := y.line.queue } := by rw [hx, hclosed]; exact hlineframe
  have himage : x.image = (loadImage role array).1 := by rw [hx, State.close_image, hframe]; rfl
  have hslots : x.slots = startSlots (restoredRecord role array) := by rw [hx, State.close_slots, hframe]; rfl
  have hinteg : x.integ = startInteg t (loadImage role array).1.params
      (if role = .primary then restoredTenths array 0 else 0) (restoredRecord role array) := by
    rw [hx, State.close_integ, hframe]; rfl
  have htenths := congrArg Integrator.tenths hinteg
  have htrip : x.trip = startTrip (restoredRecord role array) := by rw [hx, State.close_trip, hframe]; rfl
  have hservice : x.service = startService (restoredRecord role array) := by rw [hx, State.close_service, hframe]; rfl
  have hgauges : x.gauges = .atPowerOn t x.image := by rw [hx, State.close_gauges, State.close_image, hframe]; rfl
  have hstore : x.store = y.store := by rw [hx, State.close_store]
  have hchannels : x.gauges.channels = Vector.ofFn fun i => Channel.powered x.image.gauges[i] :=
    congrArg Gauges.channels hgauges
  have hchannel (i : Fin 6) : x.gauges.channels[i] = Channel.powered x.image.gauges[i] := by
    rw [hchannels]
    simp
  have hprimary : role = .primary → x.integ.tenths = max odo save := fun hrole => by
    rw [htenths]
    exact (if_pos hrole).trans ((restoredTenths_eq array 0).trans (congrArg (max _) (Nat.max_zero _)))
  refine ⟨x, hexec.trans (congrArg _ hx.symm), by rw [hx, State.close_now, hframe]; rfl, hstore ▸ hstarts.memory,
    by rw [hx, State.close_pending, hframe]; rfl, himage, by rw [hx, State.close_key, hframe]; rfl, fun i => ?_, ?_, ?_, ?_,
    fun i => ⟨hchannel i, by rw [hchannel i]; exact driveHeld_powered _⟩, congrArg Gauges.updateTimer hgauges, ?_,
    by rw [hx, State.close_faults, hframe]; rfl, by rw [hx, State.close_monitor, hframe]; rfl,
    by rw [hx, State.close_chime, hframe]; rfl, by rw [hx, State.close_display, hframe]; rfl,
    by rw [hx, State.close_hold, hframe]; rfl, by rw [hservice]; rfl, by rw [hservice]; rfl, hstore ▸ hstarts.suspended,
    hstore ▸ hstarts.odo, hstore ▸ hstarts.save, hstore ▸ hstarts.mirror, fun hrole => ?_, ?_⟩
  · by_cases hi : i = 13
    · subst hi
      rw [show x.slots[(13 : SlotId)] = _ from
        (congrArg (fun v : Vector Slot 19 => v[(13 : SlotId)]) hslots).trans (startSlots_day _)]
      exact ⟨rfl, rfl, rfl, rfl, fun h => absurd rfl h⟩
    · rw [show x.slots[i] = _ from
        (congrArg (fun v : Vector Slot 19 => v[i]) hslots).trans (startSlots_other _ hi)]
      exact ⟨rfl, rfl, rfl, rfl, fun _ => rfl⟩
  · rw [hinteg]
    exact ⟨rfl, rfl, rfl, rfl, rfl, rfl⟩
  · split
    next hrole => exact hprimary hrole
    next hrole => exact htenths.trans (if_neg hrole)
  · refine State.Restores.restoredFrom ⟨⟨t, ?_⟩, by rw [htrip], by rw [htrip], by rw [hservice], by rw [hservice],
      by rw [hservice], hslots⟩
    rw [htenths, himage]
    exact hinteg
  · rw [htrip]
    exact ⟨rfl, rfl, rfl, rfl, rfl⟩
  · obtain ⟨hconditions, hodo, hsave, hkinds⟩ := hstarts.primary hrole
    have hcommits := hstarts.commits hrole
    rw [recordedTenths_eq, ← hstore, show (powerOnBlocks t straps pins s).integ.tenths = x.integ.tenths from htenths.symm] at hcommits
    exact ⟨hstore ▸ hconditions, hstore ▸ hodo, hstore ▸ hsave, hstore ▸ hkinds, hcommits⟩
  · rw [hline']
    exact ⟨rfl, rfl, rfl, rfl, rfl, rfl, rfl, rfl, rfl, fun e he => (hline.untried e he).2.2.2⟩

end Sys2Proof.Machine
end

section
/-! POWER_ON on an erased array (R194, O6). -/

namespace Sys2Proof.Machine

/-! ## An erased array -/

theorem configWords_erased : configWords [] = List.replicate 256 Config.erasedWord := by
  rw [configWords, show readWord [] = fun _ => Config.erasedWord from rfl, List.map_const', List.length_range]

theorem foldl_add_replicate (n : Nat) (a w : Word) : (List.replicate n w).foldl (· + ·) a = a + BitVec.ofNat 16 n * w := by
  induction n generalizing a with
  | zero => simp
  | succ n ih =>
    rw [List.replicate_succ, List.foldl_cons, ih, ← BitVec.ofNat_add_ofNat, BitVec.add_mul, BitVec.one_mul,
      BitVec.add_assoc, BitVec.add_comm w]

/-- "An array erased throughout fails the check" (R194). -/
theorem loadImage_erased (role : Role) : loadImage role [] = (builtInImage role, [.configBad]) := by
  have hfails : configPasses (configWords []) = false := by
    rw [configPasses, configWords_erased, wordSum, foldl_add_replicate]
    decide
  unfold loadImage
  dsimp only
  rw [hfails]
  rfl

theorem newestOdo_erased : newestOdo [] = none := by decide

theorem newestSave_erased : newestSave [] = none := by decide

/-- Every block of an erased array is BLANK, so that the scan queues no erase (R169). -/
theorem scanStore_erased : scanStore [] = State.reset.store := by decide

/-- A start on an erased array with every strap tied to 0 reports CONFIG_BAD alone. -/
theorem startFaults_erased : startFaults { station := .zero, role := .zero, units := .zero } [] = [.configBad] := by
  unfold startFaults
  dsimp only
  rw [show roleOf .zero = .primary from rfl, loadImage_erased]
  decide

/-! ## The blocks at power-on -/

/-- The blocks of a power-on on an erased array, before CONFIG_BAD is reported. -/
def erasedBlocks (s : State) : State :=
  { State.reset with faults := .cleared, line := .cleared, freeIndex := s.freeIndex, pending := s.pending }

theorem powerOnBlocks_erased {s : State} (harray : s.store.array = []) (hop : s.store.op = .idle)
    (hsuspended : s.store.suspended = none) :
    powerOnBlocks 0 { station := .zero, role := .zero, units := .zero }
      { keyAcc := false, keyRun := false, svcEn := false, supplyLow := false } s = erasedBlocks s := by
  have hloss : arrayAfterLoss s.store s.freeIndex = ([], s.freeIndex) := by
    unfold arrayAfterLoss
    rw [hop, hsuspended, harray]
  unfold powerOnBlocks
  rw [hloss]
  unfold startBlocks
  dsimp only
  rw [show roleOf .zero = .primary from rfl, loadImage_erased, scanStore_erased, if_pos rfl,
    show restoredTenths [] 0 = 0 by unfold restoredTenths; rw [newestOdo_erased, newestSave_erased]; rfl, if_pos rfl,
    show restoredRecord .primary [] = none by unfold restoredRecord; rw [newestSave_erased]; rfl, newestOdo_erased]
  rfl

theorem powerOn_eq (t : Stamp) (straps : Straps) (pins : Pins) (s : State) :
    State.powerOn { s with now := t } straps pins =
      ((startFaults straps (arrayAfterLoss s.store s.freeIndex).1).foldl State.startFault
        (powerOnBlocks t straps pins s)).serve := rfl

theorem startFault_erased (s : State) : (erasedBlocks s).startFault .configBad =
    { State.reset with freeIndex := s.freeIndex, pending := s.pending } := by
  have hfaults : FaultRecord.cleared.after .configBad = State.reset.faults := by decide
  have hline : Line.cleared.handOn (publishEntry .fault 0x48 (faultBytes State.reset.faults State.reset.image.params.reportMask)) =
      State.reset.line := by decide
  have hnew : (!bit FaultRecord.cleared.latched (FaultKind.code .configBad) &&
      !bit State.reset.image.params.reportMask (FaultKind.code .configBad)) = true := by decide
  refine (if_pos hnew).trans ?_
  show ({ erasedBlocks s with
    faults := FaultRecord.cleared.after .configBad
    line := Line.cleared.handOn (publishEntry .fault 0x48
      (faultBytes (FaultRecord.cleared.after .configBad) State.reset.image.params.reportMask)) } : State) = _
  rw [hfaults, hline]
  rfl

/-- The one occurrence hands its 48H on, and the store has nothing to serve. -/
theorem powerOn_erased {s : State} (harray : s.store.array = []) (hop : s.store.op = .idle)
    (hsuspended : s.store.suspended = none) :
    State.powerOn { s with now := 0 } { station := .zero, role := .zero, units := .zero }
      { keyAcc := false, keyRun := false, svcEn := false, supplyLow := false } =
    { State.reset with freeIndex := s.freeIndex, pending := s.pending } := by
  have hblocks := powerOnBlocks_erased harray hop hsuspended
  have hloss : (arrayAfterLoss s.store s.freeIndex).1 = [] := by
    unfold arrayAfterLoss
    rw [hop, hsuspended, harray]
  rw [powerOn_eq, hblocks, hloss, startFaults_erased, List.foldl_cons, List.foldl_nil, startFault_erased]
  rfl

/-- Settles O6, by evaluating the start on the erased array. -/
theorem erasedPartPowersOnToReset : Obligations.ErasedPartPowersOnToReset := by
  intro s harray hop hsuspended
  rw [exec_powerOn, powerOn_erased harray hop hsuspended]
  rfl

end Sys2Proof.Machine
end

section
/-! What an evaluation of warnings leaves of the display's mode (R116) and of the lamps in the bulb check (R96, R97). -/

namespace Sys2Proof.Machine

/-! ## The mode -/

/-- The display stands in the mode that R116 gives it, `empty` being the mode of an empty queue. -/
def Display.StandsIn (empty : DisplayMode) (d : Display) : Prop :=
  d.mode = if empty = .dark then .dark else if d.queue = [] then empty else .message

namespace Display

variable {d : Display} {empty : DisplayMode}

theorem Started.nil_iff {now : Stamp} {q q' : List Message} (h : Started now q q') : q' = [] ↔ q = [] := by
  obtain rfl | ⟨id, rfl⟩ := h
  · exact Iff.rfl
  · exact List.map_eq_nil_iff

theorem compare_mode (now : Stamp) (d : Display) : (d.compare now).mode = d.mode := by
  unfold compare
  (repeat' split) <;> simp

theorem queueChanged_mode (v : DisplayView) (d : Display) : (d.queueChanged v).mode = d.wantedMode v := by
  unfold queueChanged
  dsimp only
  split
  · exact (compare_mode _ _).trans (workOutMode_mode v d)
  · exact workOutMode_mode v d

theorem queueChanged_standsIn (v : DisplayView) (d : Display) : (d.queueChanged v).StandsIn v.empty := by
  unfold StandsIn
  rw [queueChanged_mode, wantedMode]
  simp only [List.isEmpty_iff, (queueChanged_started v d).nil_iff]

theorem StandsIn.withdraw {v : DisplayView} (h : d.StandsIn v.empty) (id : Nat) (o : Owner) :
    (d.withdraw v id o).StandsIn v.empty := by
  unfold Display.withdraw
  split
  · exact queueChanged_standsIn v _
  · exact h

theorem StandsIn.post {v : DisplayView} (h : d.StandsIn v.empty) (p : Post) : (d.post v p).StandsIn v.empty := by
  unfold Display.post
  dsimp only
  split
  · exact queueChanged_standsIn v _
  · split
    · exact queueChanged_standsIn v _
    · split
      · split
        · exact queueChanged_standsIn v _
        · exact h
      · exact h

theorem StandsIn.settle (h : d.StandsIn empty) (v : DisplayView) : (d.settle v).StandsIn empty := by
  unfold StandsIn at h ⊢
  rw [settle_mode, h]
  simp only [(settle_started v d).nil_iff]

end Display

/-! ## Lamps -/

/-- The lamps stay as they are while the bulb check runs, and neither it nor their giving over moves. -/
structure Monitor.SameCheck (m m' : Monitor) : Prop where
  bulbTimer : m'.bulbTimer = m.bulbTimer
  lampsLive : m'.lampsLive = m.lampsLive
  lamps : m.bulbTimer ≠ none → m'.lamps = m.lamps

namespace Monitor.SameCheck

variable {m m' m'' : Monitor}

theorem refl (m : Monitor) : m.SameCheck m := ⟨rfl, rfl, fun _ => rfl⟩

theorem trans (h : m.SameCheck m') (h' : m'.SameCheck m'') : m.SameCheck m'' where
  bulbTimer := h'.bulbTimer.trans h.bulbTimer
  lampsLive := h'.lampsLive.trans h.lampsLive
  lamps hbulb := (h'.lamps (h.bulbTimer ▸ hbulb)).trans (h.lamps hbulb)

theorem relight (h : m.SameCheck m') (image : Image) : m.SameCheck (m'.relight image) := by
  obtain ⟨-, -, hbulb, hlive⟩ := Monitor.relight_facts image m'
  refine h.trans ⟨hbulb, hlive, fun hruns => ?_⟩
  unfold Monitor.relight
  rw [if_neg (by simp [hruns])]

end Monitor.SameCheck

/-! ## An evaluation -/

theorem Alerts.activate_display_of_none (s : State) (e : EntryId) (a : Alerts) (fromPending : Bool)
    (h : s.image.warnings[e].message = 0) : (a.activate s e fromPending).display = a.display := by
  rcases hpattern : s.image.warnings[e].pattern with _ | p <;>
    simp only [Alerts.activate, hpattern, h, ↓reduceIte] <;> cases fromPending <;> rfl

/-- What the moves of warnings leave: the mode that goes with the queue, and the bulb check. -/
structure Alerts.Leaves (empty : DisplayMode) (a b : Alerts) : Prop where
  check : a.monitor.SameCheck b.monitor
  mode : a.display.StandsIn empty → b.display.StandsIn empty

namespace Alerts.Leaves

variable {empty : DisplayMode} {a b c : Alerts}

theorem refl (a : Alerts) : Leaves empty a a := ⟨.refl _, id⟩

theorem trans (h : Leaves empty a b) (h' : Leaves empty b c) : Leaves empty a c := ⟨h.check.trans h'.check, h'.mode ∘ h.mode⟩

theorem setEntry (e : EntryId) (w : Warning) (a : Alerts) : Leaves empty a (a.setEntry e w) := ⟨⟨rfl, rfl, fun _ => rfl⟩, id⟩

variable (s : State) (e : EntryId)

theorem withdrawBoth (a : Alerts) : Leaves s.displayView.empty a (a.withdrawBoth s e) where
  check := .refl _
  mode h := by
    unfold Alerts.withdrawBoth
    dsimp only
    split
    · exact h
    · exact h.withdraw _ _

theorem activate (fromPending : Bool) (a : Alerts) : Leaves s.displayView.empty a (a.activate s e fromPending) where
  check := by
    rw [Alerts.activate_monitor]
    cases fromPending with
    | false => exact ⟨rfl, rfl, fun _ => rfl⟩
    | true =>
      refine Monitor.SameCheck.relight (m := a.monitor) ?_ s.image
      exact ⟨rfl, rfl, fun _ => rfl⟩
  mode h := by
    by_cases hmessage : s.image.warnings[e].message = 0
    · rw [Alerts.activate_display_of_none _ _ _ _ hmessage]
      exact h
    · rw [Alerts.activate_post _ _ _ _ hmessage]
      exact h.post _

theorem conditionTrue (a : Alerts) : Leaves s.displayView.empty a (a.conditionTrue s e) := by
  unfold Alerts.conditionTrue
  dsimp only
  split
  · exact refl a
  · split
    · exact (setEntry e _ a).trans (activate s e true _)
    · exact setEntry e _ a

theorem conditionFalse (a : Alerts) : Leaves s.displayView.empty a (a.conditionFalse s e) := by
  unfold Alerts.conditionFalse
  dsimp only
  split
  · exact refl a
  · exact setEntry e _ a
  · have hwithdrawn := withdrawBoth s e a
    refine ⟨Monitor.SameCheck.relight (m := a.monitor) ?_ _, hwithdrawn.mode⟩
    exact ⟨rfl, rfl, fun _ => rfl⟩

theorem evalEntry (a : Alerts) : Leaves s.displayView.empty a (Machine.evalEntry s a e) := by
  unfold Machine.evalEntry
  dsimp only
  split
  · exact refl a
  · split
    · exact setEntry e _ a
    · split
      · exact (setEntry e _ a).trans (conditionTrue s e _)
      · exact (setEntry e _ a).trans (conditionFalse s e _)

theorem evalEntries (es : List EntryId) (a : Alerts) : Leaves s.displayView.empty a (Machine.evalEntries s es a) :=
  have hfolded : Leaves s.displayView.empty a (es.foldl (Machine.evalEntry s) a) :=
    List.foldlRecOn es _ (refl a) fun _ h e _ => h.trans (evalEntry s e _)
  ⟨hfolded.check, hfolded.mode⟩

/-- A report to the Warning Monitor (R87). -/
theorem reportSources (srcs : List Source) : Leaves s.displayView.empty s.alerts (s.reportSources srcs).alerts :=
  evalEntries s _ s.alerts

theorem evalAll : Leaves s.displayView.empty s.alerts s.evalAll.alerts := evalEntries s _ s.alerts

end Alerts.Leaves

end Sys2Proof.Machine
end

section
/-! Step 5 of the start-up sequence (R193, O7): the key state taken, the lamps given over, and the range first computed. -/

namespace Sys2Proof.Machine

/-! ## The lamps and the range -/

/-- The lamps set from the list (R96). -/
def State.relit (s : State) : State := { s with monitor := s.monitor.relight s.image }

/-- The range computed, and reported to the trip groups. -/
def State.withRange (s : State) : State := State.reportTrip { s with trip := { s.trip with range := primaryRange s } }

/-- The part of step 5 after the key state: the lamps from the list (R96), and the range (R43). -/
def State.firstRange (s : State) : State := if s.primary then s.relit.withRange.reportSources [.range] else s.relit

/-- What the lamps and the range of step 5 move. -/
structure State.Ranged (s x : State) : Prop where
  frame : x = { s with
    trip := { s.trip with range := if s.primary = true then primaryRange s else s.trip.range }
    monitor := x.monitor, chime := x.chime, display := x.display, handed := x.handed }
  leaves : Alerts.Leaves s.displayView.empty s.alerts x.alerts
  unread : ((∀ e : EntryId, s.image.warnings[e].reads .range = false) ∨ s.primary = false) →
    x.monitor.entries = s.monitor.entries ∧ x.monitor.active = s.monitor.active ∧
      ((s.chime.phase = .idle → ∀ e : EntryId, s.chime.requests[e] = none) → x.chime = s.chime)

theorem readers_range_of_unread {s : State} (h : ∀ e : EntryId, s.image.warnings[e].reads .range = false) :
    readers s [.range] = [] := by
  refine List.filter_eq_nil_iff.mpr fun e _ => ?_
  simpa using h e

theorem State.reportSources_frame (s : State) (srcs : List Source) : s.reportSources srcs = { s with
    monitor := (s.reportSources srcs).monitor, chime := (s.reportSources srcs).chime
    display := (s.reportSources srcs).display, handed := (s.reportSources srcs).handed } := rfl

theorem State.reportSources_monitor_of_unread {s : State} {srcs : List Source} (hunread : readers s srcs = []) :
    (s.reportSources srcs).monitor = s.monitor := by
  unfold State.reportSources
  rw [hunread]
  rfl

theorem State.firstRange_ranged (s : State) : s.Ranged s.firstRange := by
  obtain ⟨hentries, hactive, -, -⟩ := Monitor.relight_facts s.image s.monitor
  have hrelit : Alerts.Leaves s.displayView.empty s.alerts s.relit.alerts := ⟨.relight (.refl _) _, id⟩
  unfold State.firstRange
  split
  next hprimary =>
    have hframe := s.relit.withRange.reportSources_frame [.range]
    have hreported := Alerts.Leaves.reportSources s.relit.withRange [.range]
    have hmonitor := State.reportSources_monitor_of_unread (s := s.relit.withRange) (srcs := [.range])
    have hunread := State.reportSources_of_unread (s := s.relit.withRange) (srcs := [.range])
    generalize s.relit.withRange.reportSources [.range] = x at hframe hreported hmonitor hunread
    refine ⟨?_, hrelit.trans hreported, fun hnobody => ?_⟩
    · rw [if_pos hprimary]
      exact hframe
    · obtain hnobody | hmirror := hnobody
      · have hreaders : readers s.relit.withRange [.range] = [] := readers_range_of_unread hnobody
        have hrelit : x.monitor = s.monitor.relight s.image := hmonitor hreaders
        rw [hrelit]
        exact ⟨hentries, hactive, fun hidle => (hunread hreaders hidle).2.1⟩
      · rw [hprimary] at hmirror
        cases hmirror
  next hprimary =>
    refine ⟨?_, hrelit, fun _ => ⟨hentries, hactive, fun _ => rfl⟩⟩
    rw [if_neg hprimary]
    rfl

theorem Channel.keyOff_eq (ch : Channel) : ch.keyOff =
    if ch.state ∈ [GaugeState.sweepUp, .sweepDown, .tracking, .holding, .resting] then { ch with state := .returning } else ch := by
  unfold Channel.keyOff
  cases hstate : ch.state <;> rfl

/-- Step 5, with the key state taken by the blocks first. -/
def State.startKey (s : State) (key : KeyState) : State :=
  let y : State := { s with
    key := { s.key with started := true, key := .off, runSeen := false }, monitor := { s.monitor with lampsLive := true } }
  if key = .off then (y.mapChannels Channel.keyOff).displayTakesKey else y.takeKey key

/-- What the blocks make of the key state at step 5, as a change from OFF where it is not OFF (R189, R193). -/
structure State.StartKeyed (s : State) (key : KeyState) (z : State) : Prop where
  frame : z = { s with
    key := { s.key with started := true, key, runSeen := decide (key = .run) }
    gauges := z.gauges, monitor := z.monitor, chime := z.chime, display := z.display, handed := z.handed
    service := z.service, trip := z.trip
    integ := { s.integ with armed := s.integ.armed || decide (key ≠ .off) }
    line := if key = .off then s.line else { s.line with statusTimer := some (s.now + 500) } }
  channels : ∀ i : Fin 6, z.gauges.channels[i] =
    if s.image.gauges[i].enabled = true then
      (if key = .off then (s.gauges.channels[i]).keyOff
      else if s.gauges.channels[i].state = .parked then
        { s.gauges.channels[i] with
          filter := 0, state := if s.image.params.sweep then GaugeState.sweepUp else .tracking }
      else if s.gauges.channels[i].state = .returning then
        { s.gauges.channels[i] with filter := 16 * s.gauges.channels[i].position, state := .tracking }
      else s.gauges.channels[i])
    else s.gauges.channels[i]
  trip : z.trip =
    if s.primary = true ∧ key ≠ .off then { s.trip with
      tripTimer := if key = .run then some (s.now + 1000) else none
      window := if key = .run ∧ s.image.params.tripBAuto = true then some (s.now + 10000) else none }
    else s.trip
  service : z.service =
    if s.primary = true ∧ key ≠ .off then { s.service with secTimer := if key = .run then some (s.now + 1000) else none }
    else s.service
  lampsLive : z.monitor.lampsLive = true
  bulbCheck : key = .run → z.monitor.lamps = 0xFF ∧ z.monitor.bulbTimer = some (s.now + 3000)
  bulbTimer : key ≠ .run → z.monitor.bulbTimer = s.monitor.bulbTimer
  display : z.display.StandsIn z.displayView.empty
  off : key = .off → z.monitor.entries = s.monitor.entries ∧ z.monitor.active = s.monitor.active ∧ z.chime = s.chime

/-- A key change to ACC or RUN leaves the bulb check to the first RUN (R97). -/
theorem State.warningsTakeKey_check {x : State} (hon : x.keyOn = true) (firstRun : Bool) :
    (x.warningsTakeKey firstRun).monitor.lampsLive = x.monitor.lampsLive ∧
      (firstRun = false → (x.warningsTakeKey firstRun).monitor.bulbTimer = x.monitor.bulbTimer) := by
  have hcheck := (Alerts.Leaves.evalAll x).check
  unfold State.warningsTakeKey
  dsimp only
  cases firstRun with
  | true => exact ⟨hcheck.lampsLive, fun h => nomatch h⟩
  | false =>
    rw [if_neg Bool.false_ne_true, if_neg (by rw [show x.evalAll.keyOn = x.keyOn from rfl, hon]; exact Bool.false_ne_true)]
    exact ⟨hcheck.lampsLive, fun _ => hcheck.bulbTimer⟩

theorem State.startKey_of_off (s : State) : s.StartKeyed .off (s.startKey .off) where
  frame := by
    have harmed : (s.integ.armed || decide (KeyState.off ≠ .off)) = s.integ.armed := Bool.or_false _
    rw [harmed]
    rfl
  channels i := by
    obtain ⟨y, hy⟩ : ∃ y : State, y = { s with
      key := { s.key with started := true, key := .off, runSeen := false }, monitor := { s.monitor with lampsLive := true } } :=
      ⟨_, rfl⟩
    have hmapped : (s.startKey .off).gauges = (y.mapChannels Channel.keyOff).gauges := by
      rw [hy]
      rfl
    rw [hmapped]
    cases henabled : s.image.gauges[i].enabled with
    | false =>
      rw [State.mapChannels_of_disabled _ (by rw [hy]; exact henabled), hy]
      rfl
    | true =>
      rw [State.mapChannels_of_enabled _ (by rw [hy]; exact henabled), hy]
      rfl
  trip := (if_neg fun h => h.2 rfl).symm
  service := (if_neg fun h => h.2 rfl).symm
  lampsLive := rfl
  bulbCheck h := nomatch h
  bulbTimer _ := rfl
  display := Display.queueChanged_standsIn _ _
  off _ := ⟨rfl, rfl, rfl⟩

theorem State.startKey_of_on (s : State) {key : KeyState} (hkey : key ≠ .off) : s.StartKeyed key (s.startKey key) := by
  obtain ⟨y, hy⟩ : ∃ y : State, y = { s with
    key := { s.key with started := true, key := .off, runSeen := false }, monitor := { s.monitor with lampsLive := true } } :=
    ⟨_, rfl⟩
  have hstart : s.startKey key = y.takeKey key := by
    rw [hy]
    exact if_neg hkey
  obtain ⟨w, hw⟩ : ∃ w : State, w = { y with key := y.key.taken key } := ⟨_, rfl⟩
  have hrecord : y.key.taken key = { s.key with started := true, key, runSeen := decide (key = .run) } := by
    rw [hy, KeyMonitor.taken, decide_eq_true hkey, Bool.true_and, Bool.false_or]
  have hwkey : w.key = { s.key with started := true, key, runSeen := decide (key = .run) } := by
    rw [hw]
    exact hrecord
  have hon : w.keyOn = true := by
    unfold State.keyOn
    rw [hwkey]
    exact decide_eq_true hkey
  have hbefore : y.key.key = .off := by rw [hy]
  have hseen : y.key.runSeen = false := by rw [hy]
  have htaken := State.takeKey_of_on (s := y) hkey
  dsimp only at htaken
  rw [hbefore, hseen, ← hw, if_pos rfl, ← hstart] at htaken
  generalize s.startKey key = z at htaken
  obtain ⟨g, hg⟩ : ∃ g, g = w.gaugesTakeKey .off := ⟨_, rfl⟩
  have hgframe : g = { w with gauges := g.gauges } := hg ▸ w.gaugesTakeKey_frame .off
  have hwframe : w = { s with
      key := { s.key with started := true, key, runSeen := decide (key = .run) }
      monitor := { s.monitor with lampsLive := true } } := by
    rw [hw, hrecord, hy]
  have hnow : w.now = s.now := by rw [hwframe]
  have himage : w.image = s.image := by rw [hwframe]
  have hinteg : w.integ = s.integ := by rw [hwframe]
  have hgauges : w.gauges = s.gauges := by rw [hwframe]
  have hgmonitor : g.monitor = { s.monitor with lampsLive := true } := (congrArg State.monitor hgframe).trans (by rw [hwframe])
  have hgnow : g.now = s.now := ((congrArg State.now hgframe).trans rfl).trans hnow
  have hgon : g.keyOn = true := by
    have hsame : g.key = w.key := (congrArg State.key hgframe).trans rfl
    unfold State.keyOn at hon ⊢
    rw [hsame]
    exact hon
  obtain ⟨m, hm⟩ : ∃ m, m = g.warningsTakeKey (decide (key = .run) && !false) := ⟨_, rfl⟩
  obtain ⟨d, hd⟩ : ∃ d, d = (w.blocksTakeKey .off (decide (key = .run) && !false)).display := ⟨_, rfl⟩
  obtain ⟨trip, htrip⟩ : ∃ trip, trip = (w.tripTakesKey .off).trip := ⟨_, rfl⟩
  obtain ⟨service, hservice⟩ : ∃ service, service = w.keyService .off := ⟨_, rfl⟩
  have harmed : (w.integTakesKey .off).integ = { s.integ with armed := s.integ.armed || decide (key ≠ .off) } := by
    rw [State.integTakesKey_of_on hon, hinteg, decide_eq_true hkey]
    rfl
  rw [← hg, ← hm, ← hd, ← htrip, ← hservice, harmed, hrecord] at htaken
  obtain ⟨hlive, hbulb⟩ := State.warningsTakeKey_check hgon (decide (key = .run) && !false)
  rw [hgmonitor, ← hm] at hlive hbulb
  obtain ⟨v, hv, hdisplay⟩ := w.blocksTakeKey_display .off (decide (key = .run) && !false)
  have hprimary : w.primary = s.primary := by
    unfold State.primary
    rw [hwkey]
  have hrunning : w.key.key = key := by rw [hwkey]
  have hzgauges : z.gauges = g.gauges := by rw [htaken]
  have hzmonitor : z.monitor = m.monitor := by rw [htaken]
  have hzdisplay : z.display = d := by rw [htaken]
  have hztrip : z.trip = trip := by rw [htaken]
  have hzservice : z.service = service := by rw [htaken]
  have hzkey : z.key = w.key := by rw [htaken, hwkey]
  refine ⟨?_, fun i => ?_, ?_, ?_, ?_, fun hrun => ?_, fun hrun => ?_, ?_, fun hoff => absurd hoff hkey⟩
  · rw [if_neg hkey, hzgauges, hzmonitor, hzdisplay, hztrip, hzservice, show z.chime = m.chime by rw [htaken],
      show z.handed = m.handed by rw [htaken], htaken, hy]
    rfl
  · have hchannel := State.gaugesTakeKey_of_on (before := .off) hon i
    rw [himage, hgauges, ← hg] at hchannel
    rw [hzgauges, hchannel]
    by_cases henabled : s.image.gauges[i].enabled = true
    · rw [if_pos ⟨henabled, rfl⟩, if_pos henabled, if_neg hkey]
    · rw [if_neg fun h => henabled h.1, if_neg henabled]
  · rw [hztrip, htrip, State.tripTakesKey_trip, hprimary, hrunning, hnow, himage, show w.trip = s.trip by rw [hwframe]]
    by_cases hp : s.primary = true
    · rw [if_pos hp, if_pos (And.intro hp hkey), ite_not, if_neg (show ¬ KeyState.off = .run by decide)]
      by_cases hrun : key = .run
      · simp only [hrun, if_true, true_and]
      · simp only [hrun, if_false, false_and]
    · rw [if_neg hp, if_neg fun h => hp h.1]
  · rw [hzservice, hservice, State.keyService, hprimary, hrunning, hnow, show w.service = s.service by rw [hwframe]]
    by_cases hp : s.primary = true
    · rw [if_pos hp, if_pos (And.intro hp hkey)]
      rfl
    · rw [if_neg hp, if_neg fun h => hp h.1]
  · rw [hzmonitor]
    exact hlive
  · rw [hzmonitor, hm, hrun, ← hgnow]
    exact State.warningsTakeKey_of_firstRun g
  · rw [hzmonitor]
    exact hbulb (by rw [decide_eq_false hrun]; rfl)
  · have hempty : z.displayView.empty = v.empty := by
      rw [hv]
      show (if !decide (z.key.mode = _) || !z.key.started then DisplayMode.dark else if z.key.key = .off then .blank else .page) = _
      rw [hzkey]
      rfl
    rw [hempty, hzdisplay, hd, hdisplay]
    exact Display.queueChanged_standsIn v _

theorem State.startKey_keyed (s : State) (key : KeyState) : s.StartKeyed key (s.startKey key) := by
  by_cases hkey : key = .off
  · subst hkey
    exact s.startKey_of_off
  · exact s.startKey_of_on hkey

theorem State.finishStart_eq (s : State) (key : KeyState) : s.finishStart key =
    if (s.startKey key).firstRange.primary && (s.startKey key).firstRange.key.pins.supplyLow then
      (s.startKey key).firstRange.supplyFailing
    else (s.startKey key).firstRange := rfl

/-- Step 5 from the key state on, the store and what it answers apart. -/
theorem State.finishStart_ranged (s : State) (key : KeyState) :
    ∃ x, (s.startKey key).Ranged x ∧
      s.finishStart key = { x with
        hold := { x.hold with latch := (s.finishStart key).hold.latch }, store := (s.finishStart key).store
        line := (s.finishStart key).line } ∧
      (s.finishStart key).line = x.line.withTraffic (s.finishStart key).line := by
  refine ⟨_, (s.startKey key).firstRange_ranged, ?_⟩
  rw [s.finishStart_eq]
  split
  · have hfails := (s.startKey key).firstRange.supplyFailing_fails
    exact ⟨hfails.frame, hfails.traffic⟩
  · exact ⟨rfl, rfl⟩

/-- Settles O7: step 5 part by part, the display's mode and the bulb check kept by the report of the range. -/
theorem startupTakesTheKeyState : Obligations.StartupTakesTheKeyState := by
  intro t s hstarted hdue key
  obtain ⟨b, hb⟩ : ∃ b : State, b = { s with now := t, key := { s.key with
    keyTimer := none
    svcEn := if isDue t s.key.svcTimer then s.key.pins.svcEn else s.key.svcEn
    svcTimer := if isDue t s.key.svcTimer then none else s.key.svcTimer } } := ⟨_, rfl⟩
  have hexec : exec (.startupKeyTaken t) s = .next (State.close s (b.finishStart key)) := by
    have hshow : exec (.startupKeyTaken t) s = .next (State.close s
      (if !s.key.started && isDue t s.key.keyTimer then b.finishStart key else s.stamped t)) := by
      rw [hb]
      rfl
    rw [hshow, if_pos (by simp [hstarted, hdue])]
  obtain ⟨f, hf⟩ : ∃ f, f = b.finishStart key := ⟨_, rfl⟩
  obtain ⟨z, hz⟩ : ∃ z, z = b.startKey key := ⟨_, rfl⟩
  obtain ⟨y, hranged, hframe, htraffic⟩ := b.finishStart_ranged key
  have hkeyed := b.startKey_keyed key
  rw [← hz] at hkeyed hranged
  rw [← hf] at hframe htraffic hexec
  obtain ⟨x, hx⟩ : ∃ x, x = State.close s f := ⟨_, rfl⟩
  have hzkey : z.key = { b.key with started := true, key, runSeen := decide (key = .run) } :=
    (congrArg State.key hkeyed.frame).trans rfl
  have hprimary : z.primary = s.primary := by
    unfold State.primary
    rw [hzkey, hb]
  have hxkey : x.key = z.key := by
    rw [hx, State.close_key]
    exact (congrArg State.key hframe).trans ((congrArg State.key hranged.frame).trans rfl)
  have hxmonitor : x.monitor = y.monitor := by
    rw [hx, State.close_monitor]
    exact (congrArg State.monitor hframe).trans rfl
  have hxchime : x.chime = y.chime := by
    rw [hx, State.close_chime]
    exact (congrArg State.chime hframe).trans rfl
  have hxtrip : x.trip = { z.trip with range := if z.primary = true then primaryRange z else z.trip.range } := by
    rw [hx, State.close_trip]
    exact (congrArg State.trip hframe).trans ((congrArg State.trip hranged.frame).trans rfl)
  have hxservice : x.service = z.service := by
    rw [hx, State.close_service]
    exact (congrArg State.service hframe).trans ((congrArg State.service hranged.frame).trans rfl)
  have hxgauges : x.gauges = z.gauges := by
    rw [hx, State.close_gauges]
    exact (congrArg State.gauges hframe).trans ((congrArg State.gauges hranged.frame).trans rfl)
  have hxinteg : x.integ = z.integ := by
    rw [hx, State.close_integ]
    exact (congrArg State.integ hframe).trans ((congrArg State.integ hranged.frame).trans rfl)
  have hzinteg : z.integ = { s.integ with armed := s.integ.armed || decide (key ≠ .off) } :=
    (congrArg State.integ hkeyed.frame).trans (by rw [hb])
  have himage : x.image = s.image := by
    rw [hx, State.close_image]
    exact (congrArg State.image hframe).trans ((congrArg State.image hranged.frame).trans
      ((congrArg State.image hkeyed.frame).trans (by rw [hb])))
  have hslots : x.slots = s.slots := by
    rw [hx, State.close_slots]
    exact (congrArg State.slots hframe).trans ((congrArg State.slots hranged.frame).trans
      ((congrArg State.slots hkeyed.frame).trans (by rw [hb])))
  have hfaults : x.faults = s.faults := by
    rw [hx, State.close_faults]
    exact (congrArg State.faults hframe).trans ((congrArg State.faults hranged.frame).trans
      ((congrArg State.faults hkeyed.frame).trans (by rw [hb])))
  have hstatus : x.line.statusTimer = z.line.statusTimer := by
    have hclosed := congrArg Line.statusTimer (State.close_line s f)
    rw [← hx] at hclosed
    refine hclosed.trans ((congrArg Line.statusTimer htraffic).trans ?_)
    exact (congrArg (fun y : State => y.line.statusTimer) hranged.frame).trans rfl
  have hzline : z.line.statusTimer = if key = .off then s.line.statusTimer else some (t + 500) := by
    refine (congrArg (fun z : State => z.line.statusTimer) hkeyed.frame).trans ?_
    show (if key = .off then b.line else { b.line with statusTimer := some (b.now + 500) }).statusTimer = _
    rw [apply_ite Line.statusTimer, hb]
  have hzimage : z.image = s.image := (congrArg State.image hkeyed.frame).trans (by rw [hb])
  have hztrip : z.trip = if s.primary = true ∧ key ≠ .off then { s.trip with
      tripTimer := if key = .run then some (t + 1000) else none
      window := if key = .run ∧ s.image.params.tripBAuto = true then some (t + 10000) else none } else s.trip :=
    hkeyed.trip.trans (by rw [hb]; rfl)
  have hzservice : z.service =
      if s.primary = true ∧ key ≠ .off then { s.service with secTimer := if key = .run then some (t + 1000) else none }
      else s.service := hkeyed.service.trans (by rw [hb]; rfl)
  have hmode : x.display.StandsIn z.displayView.empty := by
    rw [hx, State.close_display, show f.display = y.display from (congrArg State.display hframe).trans rfl]
    exact (hranged.leaves.mode hkeyed.display).settle _
  have hempty (hawake : s.awake = true) : z.displayView.empty = if key = .off then .blank else .page := by
    have hz' : z.awake = true := by
      unfold State.awake at hawake ⊢
      rw [hzkey, hb]
      exact hawake
    show (if !z.awake || !z.key.started then DisplayMode.dark else if z.key.key = .off then .blank else .page) = _
    rw [hz', hzkey]
    rfl
  have hcheck := hranged.leaves.check
  have hlive : x.monitor.lampsLive = true := hxmonitor ▸ hcheck.lampsLive.trans hkeyed.lampsLive
  have hbulbTimer : x.monitor.bulbTimer = z.monitor.bulbTimer := hxmonitor ▸ hcheck.bulbTimer
  have hnotrun (hnot : key ≠ .run) : x.monitor.bulbTimer = s.monitor.bulbTimer :=
    hbulbTimer.trans ((hkeyed.bulbTimer hnot).trans (by rw [hb]))
  have hchannels := hkeyed.channels
  rw [← hxgauges, hb] at hchannels
  refine ⟨x, hexec.trans (congrArg _ hx.symm), hxkey.trans (hzkey.trans (by rw [hb])), hlive, hslots, himage, hfaults,
    hxinteg.trans hzinteg, ?_, ?_, ?_, ?_, fun hrole => ?_, fun hawake hoff => ?_, fun hawake hon => ?_,
    fun hoff => ⟨?_, ?_, ?_, ?_, hnotrun (by rw [hoff]; decide), fun hunread => ?_, fun i => ?_⟩,
    fun hon => ⟨?_, fun hrole => ⟨?_, ?_, ?_⟩, fun hrole => ⟨?_, ?_⟩, fun hrun => ?_, fun hacc => hnotrun (by rw [hacc]; decide),
      fun i => ?_⟩⟩
  · rw [hxtrip, hztrip]; split <;> rfl
  · rw [hxtrip, hztrip]; split <;> rfl
  · rw [hxtrip, hztrip]; split <;> rfl
  · rw [hxtrip, hztrip]; split <;> rfl
  · rw [hxtrip, hprimary, if_pos hrole, primaryRange, hzinteg, hzimage]
  · rw [hmode, hempty hawake, if_pos hoff]
    rfl
  · rw [hmode, hempty hawake, if_neg hon]
    rfl
  · rw [hxtrip, hztrip, if_neg fun h => h.2 hoff]
  · rw [hxtrip, hztrip, if_neg fun h => h.2 hoff]
  · rw [hxservice, hzservice, if_neg fun h => h.2 hoff]
  · rw [hstatus, hzline, if_pos hoff]
  · obtain ⟨hentries, hactive, hchime⟩ := hranged.unread (by rw [hzimage, hprimary]; exact hunread)
    obtain ⟨hentries', hactive', hchime'⟩ := hkeyed.off hoff
    rw [hb] at hentries' hactive' hchime'
    rw [hxmonitor, hxchime]
    exact ⟨hentries.trans hentries', hactive.trans hactive', fun hidle => (hchime (by rw [hchime']; exact hidle)).trans hchime'⟩
  · rw [hchannels i]
    by_cases henabled : s.image.gauges[i].enabled = true
    · rw [if_pos henabled, if_pos hoff]
      rw [Channel.keyOff_eq]
      exact if_congr (and_iff_right henabled).symm rfl rfl
    · exact (if_neg henabled).trans (if_neg fun h => henabled h.1).symm
  · rw [hstatus, hzline, if_neg hon]
  · rw [hxtrip, hztrip, if_pos (And.intro hrole hon)]
  · rw [hxtrip, hztrip, if_pos (And.intro hrole hon)]
  · rw [hxservice, hzservice, if_pos (And.intro hrole hon)]
  · rw [hxtrip, hprimary, hrole, hztrip, hrole]
    rfl
  · rw [hxservice, hzservice, hrole]
    rfl
  · obtain ⟨hlamps, hruns⟩ := hkeyed.bulbCheck hrun
    have hkeeps : x.monitor.lamps = z.monitor.lamps := hxmonitor ▸ hcheck.lamps (by
      show z.monitor.bulbTimer ≠ none
      rw [hruns]
      exact fun h => nomatch h)
    exact ⟨hkeeps.trans hlamps, hbulbTimer.trans (hruns.trans (by rw [hb]))⟩
  · rw [hchannels i]
    by_cases henabled : s.image.gauges[i].enabled = true
    · rw [if_pos henabled, if_pos henabled, if_neg hon]
    · rw [if_neg henabled, if_neg henabled]

end Sys2Proof.Machine
end

section
/-! The end of the restart wait (R195, R196, O8). -/

namespace Sys2Proof.Machine

/-! ## A supply that is already low -/

/-- A store whose queue holds a start's requests alone: commits and the erases of the scan (R169, R170). -/
def Store.StartsOnly (st : Store) : Prop := ∀ q ∈ st.queue, q.isCommit = true ∨ q.isErase = true

/-- What serving and a failing supply leave of a store whose queue holds a start's requests: its memory and rings. -/
structure Store.StartKept (st st' : Store) : Prop where
  memory : st'.array = st.array
  odo : st'.odo = st.odo
  save : st'.save = st.save
  conditions : st'.conditions = st.conditions
  queue : st.StartsOnly → st'.StartsOnly

theorem Store.StartKept.trans {a b c : Store} (h : a.StartKept b) (h' : b.StartKept c) : a.StartKept c where
  memory := h'.memory.trans h.memory
  odo := h'.odo.trans h.odo
  save := h'.save.trans h.save
  conditions := h'.conditions.trans h.conditions
  queue := h'.queue ∘ h.queue

theorem Store.startsOnly_of_sublist {st st' : Store} (h : st.StartsOnly) (hsub : st'.queue.Sublist st.queue) : st'.StartsOnly :=
  fun q hq => h q (hsub.subset hq)

theorem Store.joinCommit_startKept (st : Store) (urgent forRestart : Bool) : st.StartKept (st.joinCommit urgent forRestart) := by
  unfold Store.joinCommit
  split
  · refine ⟨rfl, rfl, rfl, rfl, fun h q hq => ?_⟩
    obtain ⟨q', hq', rfl⟩ := List.mem_map.mp hq
    cases q' with
    | commit => exact .inl rfl
    | _ => exact h _ hq'
  · refine ⟨rfl, rfl, rfl, rfl, fun h q hq => ?_⟩
    obtain hq | hq := List.mem_append.mp hq
    · exact h q hq
    · exact .inl (List.mem_singleton.mp hq ▸ rfl)

theorem Store.makeUrgent_startKept (st : Store) : st.StartKept st.makeUrgent := by
  unfold Store.makeUrgent
  split
  · exact ⟨rfl, rfl, rfl, rfl, id⟩
  · exact st.joinCommit_startKept _ _

theorem Store.suspendFor_startKept (now : Stamp) (target : BlockId) (st : Store) : st.StartKept (st.suspendFor now target) := by
  rw [(Store.suspendFor_frame now target st).1]
  exact ⟨rfl, rfl, rfl, rfl, id⟩

/-- Serving a start's requests answers nothing, no configuration program being queued. -/
theorem State.serve_startKept {s : State} (h : s.store.StartsOnly) :
    s.serve = { s with store := s.serve.store } ∧ s.store.StartKept s.serve.store := by
  have hserved := s.serve_served
  obtain ⟨harray, hodo, hsave, hconditions⟩ := hserved.memory
  refine ⟨?_, ⟨harray, hodo, hsave, hconditions, fun h => Store.startsOnly_of_sublist h hserved.sublist⟩⟩
  unfold State.serve serveUpTo
  split
  next => rfl
  next =>
    split
    next q hchosen =>
      dsimp only
      split
      next => rfl
      next hrefused =>
        obtain ⟨asker, address, value, rfl⟩ := Store.start_eq_none hrefused
        obtain hcommit | herase := h _ (Store.chosen_mem hchosen)
        · cases hcommit
        · cases herase
    next => split <;> rfl

theorem State.supplyFailing_startKept {s : State} (h : s.store.StartsOnly) :
    s.supplyFailing = { s with store := s.supplyFailing.store } ∧ s.store.StartKept s.supplyFailing.store := by
  have hurgent := s.store.makeUrgent_startKept
  unfold State.supplyFailing
  dsimp only
  split
  next =>
    split
    · exact ⟨rfl, hurgent.trans
        ⟨rfl, rfl, rfl, rfl, fun h => Store.startsOnly_of_sublist h List.filter_sublist⟩⟩
    · refine ⟨rfl, hurgent.trans ?_⟩
      split <;> exact ⟨rfl, rfl, rfl, rfl, id⟩
  next => exact ⟨rfl, hurgent.trans ⟨rfl, rfl, rfl, rfl, id⟩⟩
  next =>
    let st := if s.store.makeUrgent.odo.failed then s.store.makeUrgent else
      s.store.makeUrgent.suspendFor s.now s.store.makeUrgent.odo.current
    have hst : s.store.StartKept st := by
      refine hurgent.trans ?_
      show s.store.makeUrgent.StartKept (if _ then _ else _)
      split
      · exact ⟨rfl, rfl, rfl, rfl, id⟩
      · exact Store.suspendFor_startKept _ _ _
    obtain ⟨hframe, hkept⟩ := State.serve_startKept (s := { s with store := st }) (hst.queue h)
    exact ⟨hframe, hst.trans hkept⟩

/-! ## The close of a start -/

/-- With the key OFF the close hands STATUS on (R181), and with the key elsewhere nothing. -/
theorem State.statusOnChange_handedOn {b e : State} {l₀ : Line} {allowed : TxSource → Prop} (hidle : l₀.idle = false)
    (hstatus : e.key.key = .off → allowed .status) (h : l₀.HandedOn allowed e.line) :
    l₀.HandedOn allowed (State.statusOnChange b e).line := by
  unfold State.statusOnChange
  split
  next hwatched =>
    have hoff : e.key.key = .off := by
      simp only [Bool.and_eq_true, decide_eq_true_eq] at hwatched
      exact hwatched.2
    exact List.foldlRecOn (motive := fun x : State => l₀.HandedOn allowed x.line) _ _ h
      fun _ hx _ _ => hx.publish hidle (hstatus hoff) _ _
  next => exact h

/-- A part with no registration and no request waiting has nothing for the close to do on the line but the STATUS of its changes. -/
theorem State.close_line_handedOn {b e : State} {l₀ : Line} {allowed : TxSource → Prop} (hidle : l₀.idle = false)
    (hstanding : l₀.standing = []) (hpending : l₀.pending = []) (hstatus : e.key.key = .off → allowed .status)
    (h : l₀.HandedOn allowed e.line) : l₀.HandedOn allowed (State.close b e).line := by
  have hhanded := State.statusOnChange_handedOn (b := b) (e := e.settleDisplay) hidle hstatus h
  obtain ⟨y, hy⟩ : ∃ y, y = State.statusOnChange b e.settleDisplay := ⟨_, rfl⟩
  rw [← hy] at hhanded
  have hystanding : y.line.standing = [] := by rw [hhanded.frame]; exact hstanding
  have hypending : y.line.pending = [] := by rw [hhanded.frame]; exact hpending
  have hjoin : y.onLine Line.joinReady = y := congrArg (fun l => { y with line := l }) (Line.joinReady_of_no_ready (by
    rw [hypending]
    exact fun _ h => nomatch h))
  have hchanges : watchChanges y = y := by
    refine List.foldlRecOn (motive := fun x => x = y) _ _ rfl fun x hx bytes _ => ?_
    rw [hx]
    exact watchStatus_of_no_standing hystanding bytes
  have hclosed : (State.close b e).line = y.line := by
    unfold State.close
    dsimp only
    rw [← hy, hjoin, hchanges, watchStanding_of_no_report b y (by rw [hystanding]; exact fun _ h => nomatch h),
      retryStandings_of_none _ { y with handed := .nothing } (by rw [hystanding]; exact fun _ h => nomatch h)]
  rw [hclosed]
  exact hhanded

/-! ## The blocks of a restart -/

/-- The Line Station that a restart is given (R196): emptied, with what the wire shows kept. -/
def Line.restarted (l : Line) : Line := { Line.cleared with stuck := l.stuck, receiver := l.receiver, acked := l.acked }

/-- The channels that a restart gives (R62). -/
def Gauges.restarted (s : State) (image : Image) : Gauges :=
  { s.gauges with
    channels := Vector.ofFn fun i => (s.gauges.channels[i]).restarted s.image.gauges[i] image.gauges[i] }

/-- The blocks of a restart, before the occurrences of its steps and the first serving. -/
def restartBlocks (t : Stamp) (straps : Straps) (s : State) : State :=
  startBlocks t s.store.array straps { s.key with started := false } s.line.restarted
    (if s.primary then s.integ.tenths else 0) (.restarted s) s.freeIndex s.pending

theorem exec_restartWaitEnd_of_ready (t : Stamp) (straps : Straps) {s : State} (hready : restartReady s = true) :
    ∃ u, State.StartsUp straps s.store.array (restartBlocks t straps s) u ∧
      exec (.restartWaitEnd t straps) s = .next (State.close
        { u.finishStart s.key.key with trip := { (u.finishStart s.key.key).trip with window := none } }
        { u.finishStart s.key.key with trip := { (u.finishStart s.key.key).trip with window := none } }) :=
  ⟨_, startUp_startsUp _ _ _ _ _ _ _ _ _, if_pos hready⟩

/-- The channel of a restart in words (R62). -/
theorem Channel.restarted_eq (before after : Calibration) (ch : Channel) : ch.restarted before after =
    if after.enabled = false then { state := .parked, position := 0, target := 0, filter := 0, zeroCount := 0 }
    else if before.enabled = true ∧ ch.state ≠ .zeroing ∧ ch.position ≤ after.fs then
      { state := .resting, position := ch.position, target := 0, filter := 16 * ch.position, zeroCount := 0 }
    else { state := .zeroing, position := 0, target := 0, filter := 0, zeroCount := after.fs + 30 } := by
  unfold Channel.restarted Channel.powered
  cases henabled : after.enabled with
  | false => rfl
  | true =>
    simp only [Bool.not_true, Bool.false_eq_true, Bool.true_eq_false, if_false, if_true, Bool.and_eq_true, decide_eq_true_eq,
      and_assoc]

/-- The channel after step 5 of a restart: with the key OFF a channel that stood returns (R62). -/
theorem Channel.restarted_startKeyed (before after : Calibration) (ch : Channel) (sweep : Bool) (key : KeyState) :
    (if after.enabled = true then
      (if key = .off then (ch.restarted before after).keyOff
      else if (ch.restarted before after).state = .parked then
        { ch.restarted before after with filter := 0, state := if sweep then GaugeState.sweepUp else .tracking }
      else if (ch.restarted before after).state = .returning then
        { ch.restarted before after with filter := 16 * (ch.restarted before after).position, state := .tracking }
      else ch.restarted before after)
    else ch.restarted before after) =
      if after.enabled = false then { state := .parked, position := 0, target := 0, filter := 0, zeroCount := 0 }
      else if before.enabled = true ∧ ch.state ≠ .zeroing ∧ ch.position ≤ after.fs then
        { state := if key = .off then .returning else .resting, position := ch.position, target := 0
          filter := 16 * ch.position, zeroCount := 0 }
      else { state := .zeroing, position := 0, target := 0, filter := 0, zeroCount := after.fs + 30 } := by
  cases henabled : after.enabled with
  | false =>
    rw [Channel.restarted_eq, henabled]
    rfl
  | true =>
    by_cases hstays : before.enabled = true ∧ ch.state ≠ .zeroing ∧ ch.position ≤ after.fs
    · have hrests : ch.restarted before after =
          { state := .resting, position := ch.position, target := 0, filter := 16 * ch.position, zeroCount := 0 } := by
        rw [Channel.restarted_eq, if_neg (by simp [henabled]), if_pos hstays]
      rw [hrests, if_pos hstays]
      cases key <;> rfl
    · have hzeroes : ch.restarted before after =
          { state := .zeroing, position := 0, target := 0, filter := 0, zeroCount := after.fs + 30 } := by
        rw [Channel.restarted_eq, if_neg (by simp [henabled]), if_neg hstays]
      rw [hzeroes, if_neg hstays]
      cases key <;> rfl

/-- Step 5 where the store holds a start's requests alone: it answers nothing. -/
theorem State.finishStart_startKept {s : State} (key : KeyState) (h : s.store.StartsOnly) :
    ∃ y, (s.startKey key).Ranged y ∧ s.finishStart key = { y with store := (s.finishStart key).store } ∧
      s.store.StartKept (s.finishStart key).store := by
  have hranged := (s.startKey key).firstRange_ranged
  have hstore : (s.startKey key).firstRange.store = s.store :=
    (congrArg State.store hranged.frame).trans ((congrArg State.store (s.startKey_keyed key).frame).trans rfl)
  refine ⟨_, hranged, ?_⟩
  rw [s.finishStart_eq, ← hstore]
  split
  · exact State.supplyFailing_startKept (hstore ▸ h)
  · exact ⟨rfl, rfl, rfl, rfl, rfl, id⟩

/-- The part after the key state of step 5 of a restart has been taken: what its values come from. -/
structure State.RestartKeyed (t : Stamp) (straps : Straps) (s z : State) : Prop where
  key : z.key = { s.key with
    station := stationOf straps.station, role := roleOf straps.role, units := unitsOf straps.units, mode := .awake
    quiet := startTimer t 5000, restart := none, started := true, runSeen := decide (s.key.key = .run) }
  image : z.image = (loadImage (roleOf straps.role) s.store.array).1
  slots : z.slots = startSlots (restoredRecord (roleOf straps.role) s.store.array)
  integ : z.integ = startInteg t (loadImage (roleOf straps.role) s.store.array).1.params
    (if roleOf straps.role = .primary then restoredTenths s.store.array (if s.primary then s.integ.tenths else 0) else 0)
    (restoredRecord (roleOf straps.role) s.store.array)
  trip : ∃ window, z.trip = { startTrip (restoredRecord (roleOf straps.role) s.store.array) with
    tripTimer := if roleOf straps.role = .primary ∧ s.key.key = .run then some (t + 1000) else none, window }
  service : z.service = { startService (restoredRecord (roleOf straps.role) s.store.array) with
    secTimer := if roleOf straps.role = .primary ∧ s.key.key = .run then some (t + 1000) else none }
  channels : ∀ i : Fin 6, z.gauges.channels[i] =
    if z.image.gauges[i].enabled = false then { state := .parked, position := 0, target := 0, filter := 0, zeroCount := 0 }
    else if s.image.gauges[i].enabled = true ∧ s.gauges.channels[i].state ≠ .zeroing ∧
        s.gauges.channels[i].position ≤ z.image.gauges[i].fs then
      { state := if s.key.key = .off then .returning else .resting, position := s.gauges.channels[i].position, target := 0
        filter := 16 * s.gauges.channels[i].position, zeroCount := 0 }
    else { state := .zeroing, position := 0, target := 0, filter := 0, zeroCount := z.image.gauges[i].fs + 30 }
  faults : z.faults = (startFaults straps s.store.array).foldl FaultRecord.after .cleared
  hold : z.hold = .cleared
  line : Line.HandedOn { s.line.restarted with statusTimer := if s.key.key = .off then none else some (t + 500) }
    (· = .fault) z.line

theorem State.StartKeyed.restarts {t : Stamp} {straps : Straps} {s u z : State}
    (hstarts : State.StartsUp straps s.store.array (restartBlocks t straps s) u) (hkeyed : u.StartKeyed s.key.key z) :
    State.RestartKeyed t straps s z := by
  have hu := hstarts.frame
  have hukey : u.key = { s.key with
      station := stationOf straps.station, role := roleOf straps.role, units := unitsOf straps.units, mode := .awake
      quiet := startTimer t 5000, restart := none, started := false, runSeen := false, key := .off } :=
    congrArg State.key hu
  have hunow : u.now = t := congrArg State.now hu
  have hupower : u.primary = true ↔ roleOf straps.role = .primary := by
    unfold State.primary
    rw [hukey]
    exact decide_eq_true_iff
  have huinteg : u.integ = startInteg t (loadImage (roleOf straps.role) s.store.array).1.params
      (if roleOf straps.role = .primary then restoredTenths s.store.array (if s.primary then s.integ.tenths else 0) else 0)
      (restoredRecord (roleOf straps.role) s.store.array) := congrArg State.integ hu
  have hzimage : z.image = u.image := (congrArg State.image hkeyed.frame).trans rfl
  refine ⟨?_, ?_, ?_, ?_, ?_, ?_, fun i => ?_, ?_, ?_, ?_⟩
  · exact (congrArg State.key hkeyed.frame).trans (by rw [hukey])
  · exact hzimage.trans (congrArg State.image hu)
  · exact (congrArg State.slots hkeyed.frame).trans (congrArg State.slots hu)
  · refine (congrArg State.integ hkeyed.frame).trans ?_
    show { u.integ with armed := u.integ.armed || decide (s.key.key ≠ KeyState.off) } = _
    rw [huinteg]
    rfl
  · have hutrip : u.trip = startTrip (restoredRecord (roleOf straps.role) s.store.array) := congrArg State.trip hu
    rw [hkeyed.trip, hunow, hutrip]
    by_cases hon : u.primary = true ∧ s.key.key ≠ .off
    · refine ⟨if s.key.key = .run ∧ u.image.params.tripBAuto = true then some (t + 10000) else none, (if_pos hon).trans ?_⟩
      simp only [hupower.mp hon.1, true_and]
    · refine ⟨none, (if_neg hon).trans ?_⟩
      rw [if_neg fun h => hon ⟨hupower.mpr h.1, by rw [h.2]; decide⟩]
      rfl
  · have huservice : u.service = startService (restoredRecord (roleOf straps.role) s.store.array) := congrArg State.service hu
    rw [hkeyed.service, hunow, huservice]
    by_cases hon : u.primary = true ∧ s.key.key ≠ .off
    · refine (if_pos hon).trans ?_
      simp only [hupower.mp hon.1, true_and]
    · refine (if_neg hon).trans ?_
      rw [if_neg fun h => hon ⟨hupower.mpr h.1, by rw [h.2]; decide⟩]
      rfl
  · have hchannel : u.gauges.channels[i] = (s.gauges.channels[i]).restarted s.image.gauges[i] u.image.gauges[i] := by
      have hugauges : u.gauges = .restarted s u.image :=
        (congrArg State.gauges hu).trans (congrArg (Gauges.restarted s) (congrArg State.image hu).symm)
      rw [hugauges]
      simp [Gauges.restarted]
    rw [hkeyed.channels, hzimage, hchannel]
    exact Channel.restarted_startKeyed _ _ _ _ _
  · exact (congrArg State.faults hkeyed.frame).trans (congrArg State.faults hu)
  · exact (congrArg State.hold hkeyed.frame).trans (congrArg State.hold hu)
  · have hline : z.line = if s.key.key = .off then u.line else { u.line with statusTimer := some (t + 500) } := by
      rw [← hunow]
      exact congrArg State.line hkeyed.frame
    have hhanded : s.line.restarted.HandedOn (· = .fault) u.line := hstarts.line rfl rfl
    rw [hline]
    by_cases hoff : s.key.key = .off
    · rw [if_pos hoff, if_pos hoff]
      exact hhanded
    · rw [if_neg hoff, if_neg hoff]
      exact ⟨congrArg (fun l => { l with statusTimer := some (t + 500) }) hhanded.frame, hhanded.untried⟩

/-- Settles O8: steps 1 to 4 of the restart, and step 5 with the key state already taken. -/
theorem restartWaitEndStartsAgain : Obligations.RestartWaitEndStartsAgain := by
  refine ⟨fun t straps s hready => ?_, fun t straps s hnot => ?_⟩
  · intro array role key odo save second
    obtain ⟨u, hstarts, hexec⟩ := exec_restartWaitEnd_of_ready t straps hready
    have hqueue : u.store.StartsOnly := by
      cases hrole : roleOf straps.role with
      | primary => exact (hstarts.primary hrole).2.2.2
      | mirror =>
        intro q hq
        rw [(hstarts.mirror hrole).2] at hq
        cases hq
    obtain ⟨y, hranged, hframe, hkept⟩ := State.finishStart_startKept key hqueue
    have hkeyed := u.startKey_keyed key
    generalize u.startKey key = z at hranged hkeyed
    have hz := hkeyed.restarts hstarts
    obtain ⟨f, hf⟩ : ∃ f, f = u.finishStart key := ⟨_, rfl⟩
    rw [← hf] at hframe hkept
    obtain ⟨w, hw⟩ : ∃ w : State, w = { f with trip := { f.trip with window := none } } := ⟨_, rfl⟩
    obtain ⟨x, hx⟩ : ∃ x, x = State.close w w := ⟨_, rfl⟩
    have hexec : exec (.restartWaitEnd t straps) s = .next x := by
      rw [hexec, show s.key.key = key from rfl, ← hf, ← hw, ← hx]
    have hxkey : x.key = z.key := by
      rw [hx, State.close_key, hw]
      exact (congrArg State.key hframe).trans ((congrArg State.key hranged.frame).trans rfl)
    have hximage : x.image = (loadImage role array).1 := by
      rw [hx, State.close_image, hw]
      exact (congrArg State.image hframe).trans ((congrArg State.image hranged.frame).trans hz.image)
    have hzimage : z.image = x.image := hz.image.trans hximage.symm
    have hxslots : x.slots = startSlots (restoredRecord role array) := by
      rw [hx, State.close_slots, hw]
      exact (congrArg State.slots hframe).trans ((congrArg State.slots hranged.frame).trans hz.slots)
    have hxinteg : x.integ = z.integ := by
      rw [hx, State.close_integ, hw]
      exact (congrArg State.integ hframe).trans ((congrArg State.integ hranged.frame).trans rfl)
    have hxtrip : x.trip = { z.trip with
        window := none, range := if z.primary = true then primaryRange z else z.trip.range } := by
      rw [hx, State.close_trip, hw]
      exact congrArg (fun y : State => { y.trip with window := none }) (hframe.trans (congrArg (fun y : State =>
        { y with store := f.store }) hranged.frame))
    have hxservice : x.service = z.service := by
      rw [hx, State.close_service, hw]
      exact (congrArg State.service hframe).trans ((congrArg State.service hranged.frame).trans rfl)
    have hxgauges : x.gauges = z.gauges := by
      rw [hx, State.close_gauges, hw]
      exact (congrArg State.gauges hframe).trans ((congrArg State.gauges hranged.frame).trans rfl)
    have hxfaults : x.faults = z.faults := by
      rw [hx, State.close_faults, hw]
      exact (congrArg State.faults hframe).trans ((congrArg State.faults hranged.frame).trans rfl)
    have hxhold : x.hold = z.hold := by
      rw [hx, State.close_hold, hw]
      exact (congrArg State.hold hframe).trans ((congrArg State.hold hranged.frame).trans rfl)
    have hxstore : x.store = f.store := by rw [hx, State.close_store, hw]
    have hxmonitor : x.monitor = y.monitor := by
      rw [hx, State.close_monitor, hw]
      exact (congrArg State.monitor hframe).trans rfl
    have hxline : Line.HandedOn { s.line.restarted with statusTimer := if key = .off then none else some (t + 500) }
        (fun source => source = .fault ∨ (key = .off ∧ source = .status)) x.line := by
      rw [hx]
      have hwkey : w.key.key = key := by
        have hkeys := hxkey
        rw [hx, State.close_key, hz.key] at hkeys
        rw [hkeys]
      have hwline : w.line = z.line := by
        rw [hw]
        exact (congrArg State.line hframe).trans ((congrArg State.line hranged.frame).trans rfl)
      refine State.close_line_handedOn rfl rfl rfl (fun hoff => .inr ⟨hwkey.symm.trans hoff, rfl⟩) ?_
      rw [hwline]
      exact hz.line.mono fun _ hfault => .inl hfault
    have hmode : x.display.StandsIn (if key = .off then .blank else .page) := by
      have hempty : z.displayView.empty = if key = .off then .blank else .page := by
        show (if !decide (z.key.mode = .awake) || !z.key.started then DisplayMode.dark
          else if z.key.key = .off then .blank else .page) = _
        rw [hz.key]
        rfl
      have hf' : w.display = y.display := by
        rw [hw]
        exact (congrArg State.display hframe).trans rfl
      rw [hx, State.close_display, hf', ← hempty]
      exact (hranged.leaves.mode hkeyed.display).settle _
    have hcheck := hranged.leaves.check
    have htenths : x.integ.tenths = if role = .primary then
        max odo (max save (if s.primary then s.integ.tenths else 0)) else 0 := by
      refine (congrArg Integrator.tenths (hxinteg.trans hz.integ)).trans ?_
      by_cases hrole : role = .primary
      · exact (if_pos hrole).trans ((restoredTenths_eq array _).trans (if_pos hrole).symm)
      · exact (if_neg hrole).trans (if_neg hrole).symm
    obtain ⟨window, hztrip⟩ := hz.trip
    have hzprimary : z.primary = true ↔ role = .primary := by
      unfold State.primary
      rw [hz.key]
      exact decide_eq_true_iff
    refine ⟨x, hexec, hxkey.trans hz.key, hximage, ?_, fun i hi => ?_, ?_, ?_, htenths, fun hrole hheld => ?_, ?_, fun i => ?_, ?_,
      fun hrole => ?_, ?_, ?_, hxfaults.trans hz.faults, ?_, fun hrun => ?_, ?_, hxhold.trans hz.hold, ?_, ?_, fun hrole => ?_, ?_⟩
    · rw [hxstore, hkept.memory, hstarts.memory]
    · exact (congrArg (fun v : Vector Slot 19 => v[i]) hxslots).trans (startSlots_other _ hi)
    · rw [show x.slots[(13 : SlotId)] = _ from
        (congrArg (fun v : Vector Slot 19 => v[(13 : SlotId)]) hxslots).trans (startSlots_day _)]
    · refine State.Restores.restoredFrom ⟨⟨t, ?_⟩, by rw [hxtrip, hztrip], by rw [hxtrip, hztrip],
        by rw [hxservice, hz.service], by rw [hxservice, hz.service], by rw [hxservice, hz.service], hxslots⟩
      rw [hximage, hxinteg, hz.integ]
      rfl
    · rw [htenths, if_pos hrole, if_pos hheld]
      exact (Nat.le_max_right _ _).trans (Nat.le_max_right _ _)
    · rw [hxinteg, hz.integ]
      exact ⟨rfl, rfl, rfl, rfl, rfl, rfl⟩
    · have hchannel := hz.channels i
      rw [hzimage, ← hxgauges] at hchannel
      refine ⟨hchannel, ?_⟩
      rw [hchannel]
      cases henabled : x.image.gauges[i].enabled with
      | false => rfl
      | true =>
        rw [if_neg (by decide)]
        split
        · show decide ((if key = .off then GaugeState.returning else .resting) ≠ .parked) = true
          cases key <;> rfl
        · rfl
    · rw [hxtrip, hztrip]
      exact ⟨rfl, rfl, rfl, rfl⟩
    · rw [hxtrip, if_pos (hzprimary.mpr hrole), primaryRange, hzimage, hxinteg]
    · rw [hxservice, hz.service]
    · rw [hxservice, hz.service]
      rfl
    · exact hxmonitor ▸ hcheck.lampsLive.trans hkeyed.lampsLive
    · obtain ⟨hlamps, hruns⟩ := hkeyed.bulbCheck hrun
      have hkeeps : x.monitor.lamps = z.monitor.lamps := hxmonitor ▸ hcheck.lamps (by
        show z.monitor.bulbTimer ≠ none
        rw [hruns]
        exact fun h => nomatch h)
      have htimer : x.monitor.bulbTimer = z.monitor.bulbTimer := hxmonitor ▸ hcheck.bulbTimer
      exact ⟨hkeeps.trans hlamps, htimer.trans (hruns.trans (by
        rw [show u.now = t from congrArg State.now hstarts.frame]))⟩
    · refine hmode.trans ?_
      rw [if_neg (by split <;> decide), ite_not]
    · rw [hxstore, hkept.odo, hstarts.odo]
    · rw [hxstore, hkept.save, hstarts.save]
    · obtain ⟨hconditions, hodo, hsave, -⟩ := hstarts.primary hrole
      rw [hxstore]
      exact ⟨hkept.conditions.trans hconditions, hkept.odo.trans hodo, hkept.save.trans hsave, hkept.queue hqueue⟩
    · obtain ⟨hlineframe, huntried⟩ := hxline
      generalize x.line = l at hlineframe huntried
      rw [hlineframe]
      exact ⟨rfl, rfl, rfl, rfl, rfl, rfl, rfl, huntried⟩
  · exact if_neg (Bool.eq_false_iff.mp hnot)

end Sys2Proof.Machine
end
